-- ==== Sys2Proof/Word.lean ====
section
/-! DEFINITION. The plain types of the KX6420: numbers of links, classes, banks and handles, bytes and cells, and the fields of a table entry. -/

namespace Sys2Proof

/-- One byte of a cell, record or serialization. -/
abbrev Byte := BitVec 8

/-- A link number 0..31 (00, "Links and destinations"); destination numbers have the same range. -/
abbrev Link := Fin 32

/-- A service class 0..3 (00, "Classes"). -/
abbrev Class := Fin 4

/-- A physical bank, 0 or 1 (R22). -/
abbrev Bank := Fin 2

/-- A buffer handle 0..16383 (R63). -/
abbrev Handle := Nat

/-- The index q = 4 × L + c of queue Q(L,c) in queue order (00, "Queues and queue order"; R183). -/
abbrev QueueId := Fin 128

/-- An epoch number 0..65535, compared by modular difference (00, "Epochs"). -/
abbrev Epoch := BitVec 16

/-- A set of links: bit L is set when link L is a member. It is the 4-byte link-set field of R183, byte 0 lowest. -/
abbrev LinkSet := BitVec 32

/-- A set of attention flags as the 1-byte flag-set field of R183. -/
abbrev FlagSet := BitVec 8

/-- A whole cell: 10 header bytes, 64 payload bytes, 2 payload-check bytes (11, opening). -/
abbrev Cell := Vector Byte 76

/-- The 64 payload bytes of a cell; also a request record or a response record (R187). -/
abbrev Payload := Vector Byte 64

/-- The bytes of a list in order, cut or filled with 0 to n bytes. -/
def packBytes (n : Nat) (bytes : List Byte) : Vector Byte n :=
  Vector.ofFn fun i => bytes.getD i.val 0

/-- The element of a fixed-length vector at a number of its range. -/
def slot {α : Type} {n : Nat} (v : Vector α n) (i : Fin n) : α := v[i.val]

/-- The vector with another element at one place. -/
def setSlot {α : Type} {n : Nat} (v : Vector α n) (i : Fin n) (x : α) : Vector α n := v.set i.val x i.isLt

/-- The queue Q(L,c). -/
def queueId (l : Link) (c : Class) : QueueId := ⟨4 * l.val + c.val, by omega⟩

/-- The link of a queue. -/
def queueLink (q : QueueId) : Link := ⟨q.val / 4, by omega⟩

/-- The class of a queue. -/
def queueClass (q : QueueId) : Class := ⟨q.val % 4, by omega⟩

/-- The physical bank that is not b. -/
def otherBank (b : Bank) : Bank := 1 - b

/-- The two tables (R22). -/
inductive Table where
  | group
  | destination
  deriving DecidableEq, Repr

/-- The fields of a Group Table entry as stored (R186). The State code is a byte, since a disturbance may store any code. -/
structure GroupFields where
  state : Byte
  sourceSuppress : Bool
  classOverride : Option (BitVec 7)
  members : LinkSet
  deriving DecidableEq, Repr

/-- The fields of a Destination Map entry as stored (R186). -/
structure DestFields where
  state : Byte
  primary : Byte
  spare : Option (BitVec 7)
  deriving DecidableEq, Repr

/-- The fields of an entry of either table. -/
inductive EntryFields where
  | group (g : GroupFields)
  | destination (d : DestFields)
  deriving DecidableEq, Repr

/-- The table an entry belongs to. -/
def EntryFields.table : EntryFields → Table
  | .group _ => .group
  | .destination _ => .destination

/-- The number of entries of a table in one bank (02, "Group Table" and "Destination Map"). -/
def Table.size : Table → Nat
  | .group => 4096
  | .destination => 32

end Sys2Proof
end

