-- ==== Sys2Proof/Syntax.lean ====
section
/-! DEFINITION. The commands of the block: one constructor for each row of spec/opcode_table.json, in the table's order. -/

namespace Sys2Proof

/-- A command: one indivisible event of the device. The requests of the Management Agent have no operands here, since their
arguments stand in the request record at the head of the request queue (R137, R141). -/
inductive Instr where
  /-- RST_N_RISE (R190, R189): the rise of RST_N, with the values on the PLN, MGP and MGS straps. -/
  | rstNRise (plane : BitVec 3) (mgp mgs : Link)
  /-- RST_N_FALL (R190). -/
  | rstNFall
  /-- CELL_ARRIVAL (R2): the complete cell that arrives on a link. -/
  | cellArrival (link : Link) (cell : Cell)
  /-- TRAINING_WINDOW_EXPIRY (R8). -/
  | trainingWindowExpiry (link : Link)
  /-- KEEPALIVE_EXPIRY (R10). -/
  | keepaliveExpiry (link : Link)
  /-- HOLD_OFF_EXPIRY (R13). -/
  | holdOffExpiry (link : Link)
  /-- ADMISSION (R42). -/
  | admission
  /-- NEXT_CELL_EVENT (R82): the end of the cell the link is sending. -/
  | nextCellEvent (link : Link)
  /-- MONITOR_STEP (R100). -/
  | monitorStep
  /-- COALESCING_TIMER_EXPIRY (R113). -/
  | coalescingTimerExpiry
  /-- EPOCH_TIMER_EXPIRY (R119). -/
  | epochTimerExpiry
  /-- ATTENTION_HOLD_OFF_EXPIRY (R179). -/
  | attentionHoldOffExpiry
  /-- SCRUB_STEP (R170). -/
  | scrubStep
  /-- TABLE_DISTURBANCE (R28): the content and check code that now stand at an index of a bank's table. -/
  | tableDisturbance (bank : Bank) (index : Nat) (content : EntryFields) (code : Byte)
  /-- FILL_STEP (R160). -/
  | fillStep
  /-- COPY_STEP (R163). -/
  | copyStep
  /-- DIGEST_STEP (R164). -/
  | digestStep
  /-- MEMTEST_STEP (R166): whether the buffer under test returned every pattern as written. -/
  | memtestStep (passes : Bool)
  /-- READ_IDENTITY (R143). -/
  | readIdentity
  /-- READ_STATUS (R143). -/
  | readStatus
  /-- READ_QUEUE_SNAPSHOT (R144). -/
  | readQueueSnapshot
  /-- READ_COUNTERS (R145). -/
  | readCounters
  /-- READ_ATTENTION (R180). -/
  | readAttention
  /-- READ_MISS_RECORD (R146). -/
  | readMissRecord
  /-- READ_ENTRIES (R147). -/
  | readEntries
  /-- WRITE_ENTRIES (R148). -/
  | writeEntries
  /-- REPAIR_ENTRY (R149). -/
  | repairEntry
  /-- FILL_ENTRIES (R151). -/
  | fillEntries
  /-- COPY_BANK (R151). -/
  | copyBank
  /-- DIGEST_BANK (R151). -/
  | digestBank
  /-- START_MEMORY_TEST (R166). -/
  | startMemoryTest
  /-- ENABLE (R17). -/
  | enable
  /-- DISABLE (R18). -/
  | disable
  /-- FLUSH (R20). -/
  | flush
  /-- RETRAIN (R21). -/
  | retrain
  /-- SCHEDULE_SWAP (R125). -/
  | scheduleSwap
  /-- CANCEL_SWAP (R127). -/
  | cancelSwap
  /-- DATAPATH_RESET (R78). -/
  | datapathReset
  /-- SEND_FLOW_STATUS_NOW (R115). -/
  | sendFlowStatusNow
  /-- SET_MANAGEMENT_LINKS (R135). -/
  | setManagementLinks
  /-- SET_PARAMETER (R154). -/
  | setParameter
  /-- READ_PARAMETER (R155). -/
  | readParameter
  /-- UNDEFINED_REQUEST (R137). -/
  | undefinedRequest
  deriving DecidableEq, Repr

end Sys2Proof
end

