-- ==== Sys2Proof/Decode.lean ====
section
/-! DEFINITION. The commands that words spell by the bits of spec/opcode_table.json. -/

namespace Sys2Proof

/-- The command a word spells by the table's bits. The table gives no row any bits (its "fields" are empty and it has no fixed bits), so no
word spells a command (log entry 6). -/
def decodeTableWord (_nbits _w : Nat) : Option Instr := none

end Sys2Proof
end

