-- ==== Sys2Proof/Config.lean ====
section
/-! DEFINITION. What the part fixes (identity values, sizes, fixed periods, saturation values) and the free values, which have no body. -/

namespace Sys2Proof

/-- FREE VALUE (log entry 8). The response byte at a position the layout names while the field has no value: an empty miss record, an empty
last-corrupt record, an absent digest value, the value in force of a parameter that Set Parameter could not name. Its argument is the
free-value counter plus the byte's position in the record. -/
opaque Config.freeByte : Nat → Byte

/-- FREE VALUE (log entry 9). The link a lookup is given when the selector stands at SPARE and the verified entry names no spare. -/
opaque Config.freeLink : Nat → Link

/-- R182: the vendor code, assigned to Fendoro. -/
def Config.vendorCode : Nat := 1842
/-- R182: the part code. -/
def Config.partCode : Nat := 6420
/-- R182: the revision. -/
def Config.revision : Nat := 1
/-- R182: the number of links. -/
def Config.linkCount : Nat := 32
/-- R63, R182: the number of cell buffers. -/
def Config.bufferCount : Nat := 16384
/-- R182: Group Table entries per bank. -/
def Config.groupEntries : Nat := 4096
/-- R8: the training window, in µs. -/
def Config.trainingWindow : Nat := 10000
/-- R7: the training count that brings a link UP. -/
def Config.trainingTarget : Nat := 64
/-- R174: where every counter saturates. -/
def Config.counterMax : Nat := 4294967295
/-- R11: where the error budget saturates. -/
def Config.budgetMax : Nat := 65535
/-- R11: what a bad cell adds to the error budget. -/
def Config.budgetStep : Nat := 32
/-- R12: where the retrain count saturates. -/
def Config.retrainMax : Nat := 15
/-- R89: where the gap count stops. -/
def Config.gapMax : Nat := 15
/-- R15: cells in a receive buffer. -/
def Config.rxDepth : Nat := 4
/-- R133: responses in a response queue. -/
def Config.respDepth : Nat := 2
/-- R133: requests in the request queue. -/
def Config.requestDepth : Nat := 8
/-- R162: items of a Copy, the Group Table and then the Destination Map. -/
def Config.copyItems : Nat := 4128
/-- R181: where the miss record's count saturates. -/
def Config.missMax : Nat := 65535

end Sys2Proof
end

