-- ==== Sys2Proof/Machine/Formats.lean ====
section
/-! DEFINITION. Byte layouts and checks of the Formats chapter that need no state: the CRCs, field positions of a cell, the cells the device
builds, and the serialization of table entries (R183 to R187). -/

namespace Sys2Proof

/-! ### Checks and digest (R184, R186) -/

/-- The bits of a byte, most significant first. -/
def bitsMsbFirst (b : Byte) : List Bool := [7, 6, 5, 4, 3, 2, 1, 0].map b.getLsbD

/-- The bits of a byte, least significant first. -/
def bitsLsbFirst (b : Byte) : List Bool := [0, 1, 2, 3, 4, 5, 6, 7].map b.getLsbD

/-- Bits into a CRC register of any width, one after another, generator `poly` without its top term. -/
def crcFeed {w : Nat} (poly : BitVec w) : BitVec w → List Bool → BitVec w
  | reg, [] => reg
  | reg, bit :: rest =>
    if (reg.msb ^^ bit) then crcFeed poly ((reg <<< 1) ^^^ poly) rest else crcFeed poly (reg <<< 1) rest

/-- Header check and entry check code: CRC-8, polynomial 07h, start 00h, bytes fed most significant bit first (R184). -/
def crc8 (bytes : List Byte) : Byte := crcFeed 0x07#8 0 (bytes.flatMap bitsMsbFirst)

/-- Payload check: CRC-16, polynomial 8005h, start 0000h, bytes fed most significant bit first (R184). -/
def crc16 (bytes : List Byte) : BitVec 16 := crcFeed 0x8005#16 0 (bytes.flatMap bitsMsbFirst)

/-- The digest's register at the start of a Digest: all ones (R164). -/
def digestStart : BitVec 32 := 0xFFFFFFFF#32

/-- Bytes fed into the digest's register, each least significant bit first (R186). -/
def digestFeed (reg : BitVec 32) (bytes : List Byte) : BitVec 32 := crcFeed 0x04C11DB7#32 reg (bytes.flatMap bitsLsbFirst)

/-- The digest value: the register inverted in every bit and read in reflected bit order (R186). -/
def digestValue (reg : BitVec 32) : BitVec 32 := (~~~reg).reverse

/-! ### Common encodings (R183) -/

/-- A 16-bit field, high byte first. -/
def be16 (v : BitVec 16) : List Byte := [v.extractLsb' 8 8, v.extractLsb' 0 8]

/-- A 32-bit field, high byte first. -/
def be32 (v : BitVec 32) : List Byte := [v.extractLsb' 24 8, v.extractLsb' 16 8, v.extractLsb' 8 8, v.extractLsb' 0 8]

/-- A 16-bit field from a number. -/
def num16 (n : Nat) : List Byte := be16 (BitVec.ofNat 16 n)

/-- A 32-bit field from a number. -/
def num32 (n : Nat) : List Byte := be32 (BitVec.ofNat 32 n)

/-- A one-byte field from a number. -/
def num8 (n : Nat) : Byte := BitVec.ofNat 8 n

/-- A flag as a byte 0 or 1. -/
def flagByte (b : Bool) : Byte := if b then 1 else 0

/-- A link set or destination set: member L in bit (L mod 8) of byte (L div 8). -/
def setBytes (s : BitVec 32) : List Byte :=
  [s.extractLsb' 0 8, s.extractLsb' 8 8, s.extractLsb' 16 8, s.extractLsb' 24 8]

/-- An optional 16-bit value: FFFFh stands for absent. -/
def opt16 : Option Nat → List Byte
  | none => [0xFF, 0xFF]
  | some n => num16 n

/-- One byte whose bit i says whether the i-th flag is set. -/
def flagsToByte (bit : Nat → Bool) : Byte :=
  [0, 1, 2, 3, 4, 5, 6, 7].foldl (fun acc i => if bit i then acc ||| BitVec.twoPow 8 i else acc) 0

/-- A queue set: queue q in bit (q mod 8) of byte (q div 8). -/
def queueSetBytes (member : Nat → Bool) : List Byte :=
  (List.range 16).map fun k => flagsToByte fun i => member (8 * k + i)

/-! ### The cell (R184, R185) -/

/-- The kinds of a cell. -/
inductive CellKind where
  | idle | ucast | mcast | flowst | sync | mreq | mrsp | attn
  deriving DecidableEq, Repr

/-- The code of a kind in byte 0 bits 7..4. -/
def CellKind.code : CellKind → BitVec 4
  | .idle => 0 | .ucast => 1 | .mcast => 2 | .flowst => 3 | .sync => 4 | .mreq => 5 | .mrsp => 6 | .attn => 7

/-- The kind of a code; codes 8..15 are undefined. -/
def CellKind.ofCode (c : BitVec 4) : Option CellKind :=
  [CellKind.idle, .ucast, .mcast, .flowst, .sync, .mreq, .mrsp, .attn].find? fun k => k.code == c

/-- The kind field of a cell, none for an undefined code. -/
def cellKind (cell : Cell) : Option CellKind := CellKind.ofCode (cell[0].extractLsb' 4 4)

/-- The class field. -/
def cellClass (cell : Cell) : Class := ⟨(cell[0].extractLsb' 2 2).toNat, (cell[0].extractLsb' 2 2).isLt⟩

/-- The congestion mark. -/
def cellMark (cell : Cell) : Bool := cell[1].getLsbD 7

/-- The gap request field. -/
def cellGap (cell : Cell) : Nat := (cell[1].extractLsb' 0 4).toNat

/-- The destination field, 0..4095. -/
def cellDest (cell : Cell) : Nat := (cell[2].extractLsb' 0 4 ++ cell[3]).toNat

/-- The header check of R2: it compares bytes 0..8 with byte 9. -/
def headerCheckGood (cell : Cell) : Bool := crc8 (cell.toList.take 9) == cell[9]

/-- The payload bytes. -/
def cellPayload (cell : Cell) : Payload := packBytes 64 ((cell.toList.drop 10).take 64)

/-- The payload check of R2: over all 64 payload bytes, against bytes 74 and 75. -/
def payloadCheckGood (cell : Cell) : Bool := crc16 ((cell.toList.drop 10).take 64) == cell[74] ++ cell[75]

/-- A cell the device builds (R1): class 0, First and Last set, mark clear, gap request 0, destination 0, source slot the plane number,
sequence 0, and both checks over the cell as sent. -/
def buildCell (kind : CellKind) (plane : BitVec 3) (length : Byte) (payload : Payload) : Cell :=
  let header : List Byte := [kind.code ++ 0x3#4, 0, 0, 0, plane.zeroExtend 8, 0, 0, length, 0]
  packBytes 76 (header ++ [crc8 header] ++ payload.toList ++ be16 (crc16 payload.toList))

/-- An IDLE cell: payload length 0 and 64 zero bytes (R1, R87). -/
def idleCell (plane : BitVec 3) : Cell := buildCell .idle plane 0 (packBytes 64 [])

/-- An MRSP cell around a response record (R84). -/
def mrspCell (plane : BitVec 3) (record : Payload) : Cell := buildCell .mrsp plane 64 record

/-- An ATTN cell: epoch, attention flags, attention link set (R85, R185). -/
def attnCell (plane : BitVec 3) (epoch : Epoch) (flags : FlagSet) (links : LinkSet) : Cell :=
  buildCell .attn plane 64 (packBytes 64 (be16 epoch ++ [flags] ++ setBytes links))

/-- A FLOWST cell: epoch and paused set (R86, R185). -/
def flowstCell (plane : BitVec 3) (epoch : Epoch) (paused : Nat → Bool) : Cell :=
  buildCell .flowst plane 64 (packBytes 64 (be16 epoch ++ queueSetBytes paused))

/-- The data cell as it leaves (R1, R96): the mark set if `mark`, never cleared; the gap request 0; the header check recomputed. -/
def egressCell (cell : Cell) (mark : Bool) : Cell :=
  let marked := (cell[1] &&& 0xF0) ||| (if mark then 0x80 else 0)
  let sent := cell.set 1 marked
  sent.set 9 (crc8 (sent.toList.take 9))

/-! ### Table entries (R23, R28, R186) -/

/-- The State code CORRUPT of a table (R186). -/
def corruptCode : Table → Byte
  | .group => 2
  | .destination => 3

/-- The State code of an entry. -/
def EntryFields.state : EntryFields → Byte
  | .group g => g.state
  | .destination d => d.state

/-- The entry with another State code, its other fields as they are. -/
def EntryFields.withState (e : EntryFields) (code : Byte) : EntryFields :=
  match e with
  | .group g => .group { g with state := code }
  | .destination d => .destination { d with state := code }

/-- Whether the entry stands in State CORRUPT. -/
def EntryFields.isCorrupt (e : EntryFields) : Bool := e.state == corruptCode e.table

/-- A class override or spare link as a byte: bit 7 its presence, 0 when absent (R186). -/
def presenceByte : Option (BitVec 7) → Byte
  | none => 0
  | some v => 1#1 ++ v

/-- The 8-byte serialization (R186). -/
def EntryFields.serialize : EntryFields → List Byte
  | .group g => [g.state, flagByte g.sourceSuppress, presenceByte g.classOverride, 0] ++ setBytes g.members
  | .destination d => [d.state, d.primary, presenceByte d.spare, 0, 0, 0, 0, 0]

/-- The check code computed from an entry's content (R28, R186). -/
def EntryFields.checkCode (e : EntryFields) : Byte := crc8 e.serialize

/-- A stored entry: its fields and the check code stored with them (R28). -/
structure Stored (α : Type) where
  fields : α
  code : Byte
  deriving DecidableEq, Repr

/-- R23: the initial group entry. -/
def initialGroup : GroupFields := { state := 0, sourceSuppress := false, classOverride := none, members := 0 }

/-- R23: the initial destination entry. -/
def initialDest : DestFields := { state := 0, primary := 0, spare := none }

/-- R23: the initial entry of a table. -/
def initialEntry : Table → EntryFields
  | .group => .group initialGroup
  | .destination => .destination initialDest

/-- R23: what every group index of a bank holds after power-on. -/
def powerOnGroup : Stored GroupFields := ⟨initialGroup, (EntryFields.group initialGroup).checkCode⟩

/-- R23: what every destination index of a bank holds after power-on. -/
def powerOnDest : Stored DestFields := ⟨initialDest, (EntryFields.destination initialDest).checkCode⟩

/-- R33, R29: a field out of range: an override over 3; a primary link over 31; a spare over 31 or equal to the primary. -/
def EntryFields.fieldOutOfRange : EntryFields → Bool
  | .group g => g.classOverride.any fun v => decide (3 < v.toNat)
  | .destination d => decide (31 < d.primary.toNat) || d.spare.any fun v => decide (31 < v.toNat) || decide (v.toNat = d.primary.toNat)

/-- R186: the State code names no state of the entry's table. -/
def EntryFields.stateUndefined (e : EntryFields) : Bool := decide ((corruptCode e.table).toNat < e.state.toNat)

/-- R33: the checks on a carried entry; a State naming CORRUPT is out of range too. -/
def EntryFields.carriedGood (e : EntryFields) : Bool :=
  !e.isCorrupt && !e.stateUndefined && !e.fieldOutOfRange

/-- R29: a verifying read of an entry that is not CORRUPT finds a mismatch. -/
def EntryFields.mismatch (e : EntryFields) (code : Byte) : Bool :=
  e.stateUndefined || e.fieldOutOfRange || e.checkCode != code

/-- Whether a destination entry's State is ACTIVE (R186). -/
def DestFields.isActive (e : DestFields) : Bool := e.state == 1

/-- A carried entry read from its 8 bytes; positions the layout gives as 0 are not read (R186). -/
def parseEntry (t : Table) (b : List Byte) : EntryFields :=
  let at' := fun n => b.getD n 0
  let optional : Option (BitVec 7) := if (at' 2).getLsbD 7 then some ((at' 2).extractLsb' 0 7) else none
  match t with
  | .group =>
    .group { state := at' 0, sourceSuppress := (at' 1).getLsbD 0, classOverride := optional,
             members := at' 7 ++ at' 6 ++ at' 5 ++ at' 4 }
  | .destination => .destination { state := at' 0, primary := at' 1, spare := optional }

end Sys2Proof
end

