-- ==== Sys2Proof/Machine/Memory.lean ====
section
/-! DEFINITION. The addressed stores of the block (tables, buffers, reference counts): a list of (index, content) pairs in one canonical form,
indices strictly rising and no pair equal to what an unlisted index reads as. -/

namespace Sys2Proof.Machine

/-- What stands at an index; `d` is what an unlisted index reads as. -/
def Memory.read {α : Type} (d : α) : List (Nat × α) → Nat → α
  | [], _ => d
  | (a, v) :: rest, k => if a = k then v else Memory.read d rest k

/-- Write at an index, keeping the canonical form: writing what an unlisted index reads as removes the pair. -/
def Memory.write {α : Type} [DecidableEq α] (d : α) : List (Nat × α) → Nat → α → List (Nat × α)
  | [], k, v => if v = d then [] else [(k, v)]
  | (a, w) :: rest, k, v =>
    if k < a then
      if v = d then (a, w) :: rest else (k, v) :: (a, w) :: rest
    else if a = k then
      if v = d then rest else (k, v) :: rest
    else (a, w) :: Memory.write d rest k v

/-- The canonical form: every index is at least `lo`, indices rise strictly, no content is the unlisted one. -/
def Memory.wfFrom {α : Type} [DecidableEq α] (d : α) : Nat → List (Nat × α) → Bool
  | _, [] => true
  | lo, (a, v) :: rest => decide (lo ≤ a) && decide (v ≠ d) && Memory.wfFrom d (a + 1) rest

/-- The store is in canonical form. -/
def Memory.wf {α : Type} [DecidableEq α] (d : α) (m : List (Nat × α)) : Bool :=
  Memory.wfFrom d 0 m

/-- Put a handle into a set kept as an ascending list without repeats. -/
def HandleSet.insert (h : Handle) : List Handle → List Handle
  | [] => [h]
  | a :: rest => if h < a then h :: a :: rest else if h = a then a :: rest else a :: HandleSet.insert h rest

/-- Take a handle out of a set. -/
def HandleSet.remove (h : Handle) (set : List Handle) : List Handle :=
  set.filter (fun a => decide (a ≠ h))

/-- The handles of two sets together. -/
def HandleSet.union (new set : List Handle) : List Handle :=
  new.foldr HandleSet.insert set

end Sys2Proof.Machine
end

