-- ==== Sys2Proof/Machine/State.lean ====
section
/-! DEFINITION. The state of the block, every piece the spec names, grouped by the blocks of its block diagram (00, "Block diagram in words"),
and the state right after power-on reset. -/

namespace Sys2Proof.Machine

/-- Why a command stops the model. Both reasons are raised only in states no run reaches, so both are safe (log entry 13). -/
inductive Fault where
  /-- Raised by NEXT_CELL_EVENT when the selected queue entry names a buffer that stores no cell. Safe: R66 keeps a named buffer IN USE. -/
  | noStoredCell
  /-- Raised by NEXT_CELL_EVENT when the WRR walk ends without a selection. Safe: R91 says it cannot while every weight is at least 1. -/
  | schedulerStuck
  deriving DecidableEq, Repr

/-- Why the model gives a command no meaning. -/
inductive Refusal where
  /-- Raised by `exec` for a command that has no meaning yet, with the table's mnemonic. Safe: nothing is said about the command. -/
  | notModelled (mnemonic : String)
  deriving DecidableEq, Repr

/-- A timer: stopped, or running with the period it was loaded with. Elapsed time is not modelled (log entry 4). -/
inductive Timer where
  | idle
  | running (period : Nat)
  deriving DecidableEq, Repr

/-! ### Link ports (R5, R81) -/

/-- The four states of a link port (01, "Link states"). -/
inductive LinkState where
  | disabled | training | up | faulted
  deriving DecidableEq, Repr

/-- Why a link last entered FAULTED (R5). -/
inductive FaultCause where
  | none | training | keepalive | errors
  deriving DecidableEq, Repr

/-- The kinds of cell a transmitter may be sending (R81). -/
inductive SentKind where
  | idle | mrsp | attn | flowst | data
  deriving DecidableEq, Repr

/-- What a transmitter is sending: nothing, or a cell as its bytes (log entry 14). -/
inductive Sending where
  | nothing
  | cell (kind : SentKind) (bytes : Cell)
  deriving DecidableEq, Repr

/-- The classes of the weighted round robin (R91). -/
inductive WrrClass where
  | one | two | three
  deriving DecidableEq, Repr

/-- The 15 counters of a link group, in the table's order (R175). -/
structure LinkCounters where
  goodCells : Nat
  headerErrors : Nat
  payloadErrors : Nat
  overruns : Nat
  noRoute : Nat
  isolated : Nat
  corruptRoute : Nat
  unreachable : Nat
  groupMisses : Nat
  floorDrops : Nat
  noCopies : Nat
  testDrops : Nat
  dataCellsTransmitted : Nat
  aborted : Nat
  retrains : Nat
  deriving DecidableEq, Repr

/-- R174: every counter 0. -/
def LinkCounters.zero : LinkCounters := ⟨0, 0, 0, 0, 0, 0, 0, 0, 0, 0, 0, 0, 0, 0, 0⟩

/-- A link port with its transmitter and Egress Scheduler (R5, R81). -/
structure LinkPort where
  state : LinkState
  disablePending : Bool
  trainCount : Nat
  window : Timer
  keepalive : Timer
  budget : Nat
  retrainCount : Nat
  holdOff : Timer
  cause : FaultCause
  farGap : Nat
  rxBuf : List Cell
  respQueue : List Payload
  pendFlowst : Bool
  pendAttn : Bool
  inFlight : Option Handle
  sending : Sending
  gapCount : Nat
  wrrClass : WrrClass
  wrrCount : Nat
  counters : LinkCounters
  deriving DecidableEq, Repr

/-- R5, R81: a link port after power-on reset. -/
def LinkPort.powerOn (plane : BitVec 3) : LinkPort where
  state := .training
  disablePending := false
  trainCount := 0
  window := .running Config.trainingWindow
  keepalive := .idle
  budget := 0
  retrainCount := 0
  holdOff := .idle
  cause := .none
  farGap := 0
  rxBuf := []
  respQueue := []
  pendFlowst := false
  pendAttn := false
  inFlight := none
  sending := .cell .idle (idleCell plane)
  gapCount := 15
  wrrClass := .one
  wrrCount := 8
  counters := LinkCounters.zero

/-! ### Output queues (R54, R71, R99, R81) -/

/-- Mark levels (R105). -/
inductive MarkLevel where
  | none | part | full
  deriving DecidableEq, Repr

/-- Pause states (R107). -/
inductive PauseState where
  | clear | paused
  deriving DecidableEq, Repr

/-- A queue entry (R54). -/
structure QueueEntry where
  handle : Handle
  copyClass : Class
  arrivedMarked : Bool
  deriving DecidableEq, Repr

/-- The four counters of a queue group, in the table's order (R176). -/
structure QueueCounters where
  enqueued : Nat
  tailDrops : Nat
  flushed : Nat
  marked : Nat
  deriving DecidableEq, Repr

/-- An output queue with the Congestion Monitor's and the scheduler's items for it. -/
structure OutQueue where
  entries : List QueueEntry
  average : Nat
  level : MarkLevel
  pause : PauseState
  markCount : Nat
  counters : QueueCounters
  deriving DecidableEq, Repr

/-- An output queue after power-on reset (04 and 06, tables). -/
def OutQueue.powerOn : OutQueue := ⟨[], 0, .none, .clear, 0, ⟨0, 0, 0, 0⟩⟩

/-! ### Cell Buffer Pool (R63 to R70) -/

/-- The Cell Buffer Pool. An unlisted handle stores no cell and has reference count 0. The sets are ascending lists without repeats. -/
structure Pool where
  buffers : List (Nat × Option Cell)
  refs : List (Nat × Nat)
  free : List Handle
  retired : List Handle
  underTest : List Handle
  latch : Bool
  deriving DecidableEq, Repr

/-- The pool after power-on reset (04, table). -/
def Pool.powerOn : Pool := ⟨[], [], List.range Config.bufferCount, [], [], false⟩

/-! ### Forwarding Tables (R22 to R40) -/

/-- The two tables of one physical bank; an unlisted index holds the initial entry with its fresh check code (R23). -/
structure BankTables where
  groups : List (Nat × Stored GroupFields)
  dests : List (Nat × Stored DestFields)
  deriving DecidableEq, Repr

/-- The value of a Route Selector (R35). -/
inductive Selector where
  | primary | spare
  deriving DecidableEq, Repr

/-- The Forwarding Tables block. -/
structure Tables where
  active : Bank
  banks : Vector BankTables 2
  selectors : Vector Selector 32
  deriving DecidableEq, Repr

/-- The Forwarding Tables after power-on reset (02, table). -/
def Tables.powerOn : Tables := ⟨0, Vector.replicate 2 ⟨[], []⟩, Vector.replicate 32 .primary⟩

/-! ### Parameters (08, table of R152; R153) -/

/-- Every parameter. -/
structure Params where
  limit : Vector Nat 4
  floor : Vector Nat 4
  xoff : Vector Nat 4
  xon : Vector Nat 4
  markLow : Vector Nat 4
  markHigh : Vector Nat 4
  m : Nat
  w : Nat
  monitorStep : Nat
  weight1 : Nat
  weight2 : Nat
  weight3 : Nat
  gap : Vector Nat 32
  keepalive : Nat
  budgetThreshold : Nat
  holdOff : Nat
  retrainLimit : Nat
  epochPeriod : Nat
  timingLink : Option Link
  flowstHoldOff : Nat
  refresh : Nat
  recipients : LinkSet
  poolLow : Nat
  attnMask : FlagSet
  attnHoldOff : Nat
  scrubStep : Nat
  deriving DecidableEq, Repr

/-- R153: every parameter at its default. -/
def Params.default : Params where
  limit := #v[1024, 1024, 1024, 1024]
  floor := #v[0, 256, 512, 1024]
  xoff := #v[768, 768, 768, 768]
  xon := #v[512, 512, 512, 512]
  markLow := #v[4096, 4096, 4096, 4096]
  markHigh := #v[8192, 8192, 8192, 8192]
  m := 3
  w := 3
  monitorStep := 4
  weight1 := 8
  weight2 := 4
  weight3 := 2
  gap := Vector.replicate 32 0
  keepalive := 32
  budgetThreshold := 1024
  holdOff := 1000
  retrainLimit := 0
  epochPeriod := 100
  timingLink := none
  flowstHoldOff := 2
  refresh := 10
  recipients := 0xFFFFFFFF
  poolLow := 1024
  attnMask := 0
  attnHoldOff := 100
  scrubStep := 1

/-! ### The remaining blocks -/

/-- The straps as sampled at the rise of RST_N (R189). -/
structure Straps where
  plane : BitVec 3
  mgp : Link
  mgs : Link
  deriving DecidableEq, Repr

/-- The Congestion Monitor's walk (R99). -/
structure Monitor where
  cursor : QueueId
  timer : Timer
  deriving DecidableEq, Repr

/-- The Flow-Status Unit (R111). -/
structure FlowUnit where
  coalescing : Timer
  refresh : Nat
  deriving DecidableEq, Repr

/-- The Epoch Unit (R118). `swapPending` is the swap record's state: PENDING or NONE. -/
structure EpochUnit where
  number : Epoch
  timer : Timer
  swapPending : Bool
  target : Epoch
  lastSwap : Option Epoch
  deriving DecidableEq, Repr

/-- A request or response record with the link that carried the request (R133). -/
structure Carried where
  link : Link
  record : Payload
  deriving DecidableEq, Repr

/-- The Management Agent (R133). The agent is WAITING exactly when it holds a response, and READY otherwise. -/
structure Agent where
  queue : List Carried
  held : Option Carried
  permitted : LinkSet
  deriving DecidableEq, Repr

/-- A role of a bank (R22). -/
inductive Role where
  | active | standby
  deriving DecidableEq, Repr

/-- The state of an operation record (09, table). -/
inductive OpState where
  | running | done | aborted
  deriving DecidableEq, Repr

/-- What an operation works on and what it has found: kind, scope, role at start and result fields (09, tables). -/
inductive Work where
  /-- FILL: bank, carried entry (which gives the table), first and last index; entries written. -/
  | fill (bank : Bank) (entry : EntryFields) (first last written : Nat)
  /-- COPY: source and destination bank; entries written, entries written as initial. -/
  | copy (source dest : Bank) (written asInitial : Nat)
  /-- DIGEST: table, bank and role at start; entries digested, CRC register, digest value once DONE. -/
  | digest (table : Table) (bank : Bank) (role : Role) (digested : Nat) (register : BitVec 32) (value : Option (BitVec 32))
  /-- MEMTEST: handles tested, handles failed, first failing handle, retired count at end. -/
  | memtest (tested failed : Nat) (firstFail retiredAtEnd : Option Nat)
  deriving DecidableEq, Repr

/-- An operation record (R157). -/
structure OpRecord where
  state : OpState
  progress : Nat
  work : Work
  deriving DecidableEq, Repr

/-- The Integrity Scrubber: its cursor is a position in scrub order (R171), counted from 0. -/
structure Scrubber where
  cursor : Fin 8256
  timer : Timer
  deriving DecidableEq, Repr

/-- A full miss record (R181). -/
structure MissRecord where
  group : Nat
  link : Link
  epoch : Epoch
  count : Nat
  deriving DecidableEq, Repr

/-- A last-corrupt record (R173). -/
structure CorruptRecord where
  table : Table
  bank : Bank
  index : Nat
  deriving DecidableEq, Repr

/-- The Attention block (10, tables). -/
structure Attention where
  flags : FlagSet
  links : LinkSet
  timer : Timer
  raisedWhileRunning : Bool
  miss : Option MissRecord
  lastCorrupt : Option CorruptRecord
  deriving DecidableEq, Repr

/-- The 8 global counters, in the table's order (R176). -/
structure GlobalCounters where
  epochSlips : Nat
  straySyncs : Nat
  strayCells : Nat
  unpermitted : Nat
  dropped : Nat
  discarded : Nat
  corruptFound : Nat
  failOvers : Nat
  deriving DecidableEq, Repr

/-- The whole block. -/
structure State where
  /-- The level of RST_N: true is high. -/
  rstN : Bool
  straps : Straps
  links : Vector LinkPort 32
  queues : Vector OutQueue 128
  /-- The Admission Engine's round-robin pointer (R41). -/
  rrPtr : Link
  pool : Pool
  tables : Tables
  params : Params
  monitor : Monitor
  flow : FlowUnit
  epoch : EpochUnit
  agent : Agent
  /-- The operation record; none is kind NONE (R157). -/
  op : Option OpRecord
  scrub : Scrubber
  attn : Attention
  globals : GlobalCounters
  /-- The model's own counter for free values (log entry 8). -/
  freeCtr : Nat
  /-- The commands that wait, first in first out. -/
  pending : List Instr
  deriving DecidableEq, Repr

/-- The set of one link. -/
def LinkSet.single (l : Link) : LinkSet := BitVec.twoPow 32 l.val

/-- Every item at its power-on value, with the straps as sampled (R190, R189). -/
def State.powerOn (straps : Straps) : State where
  rstN := true
  straps := straps
  links := Vector.replicate 32 (LinkPort.powerOn straps.plane)
  queues := Vector.replicate 128 OutQueue.powerOn
  rrPtr := 31
  pool := Pool.powerOn
  tables := Tables.powerOn
  params := Params.default
  monitor := ⟨127, .running 4⟩
  flow := ⟨.idle, 10⟩
  epoch := ⟨0, .running 100, false, 0, none⟩
  agent := ⟨[], none, LinkSet.single straps.mgp ||| LinkSet.single straps.mgs⟩
  op := none
  scrub := ⟨0, .running 1⟩
  attn := ⟨0, 0, .idle, false, none, none⟩
  globals := ⟨0, 0, 0, 0, 0, 0, 0, 0⟩
  freeCtr := 0
  pending := []

/-- The block right after power-on reset. The straps are the board's: all 0 here (DESIGN CHOICE, log entry 3); RST_N_RISE samples any others. -/
def State.reset : State := State.powerOn ⟨0, 0, 0⟩

end Sys2Proof.Machine
end

