-- ==== Sys2Proof/Machine/Flags.lean ====
section
/-! DEFINITION. Reading and writing links and queues, the saturating counters (R174), the attention flags and what a raise does (R177, R178),
and the owing of FLOWST cells (R112, R116). -/

namespace Sys2Proof.Machine

/-! ### Links and queues -/

/-- The port of a link. -/
def State.link (s : State) (l : Link) : LinkPort := slot s.links l

/-- The state with another port at a link. -/
def State.setLink (s : State) (l : Link) (p : LinkPort) : State := { s with links := setSlot s.links l p }

/-- The state with the port of a link changed. -/
def State.modLink (s : State) (l : Link) (f : LinkPort → LinkPort) : State := s.setLink l (f (s.link l))

/-- The state with every port changed by a rule that knows the link's number. -/
def State.mapLinks (s : State) (f : Link → LinkPort → LinkPort) : State :=
  { s with links := Vector.ofFn fun l => f l (slot s.links l) }

/-- The queue at an index of queue order. -/
def State.queue (s : State) (q : QueueId) : OutQueue := slot s.queues q

/-- The state with another queue at an index. -/
def State.setQueue (s : State) (q : QueueId) (out : OutQueue) : State := { s with queues := setSlot s.queues q out }

/-- Whether a link is a member of a set. -/
def LinkSet.has (set : LinkSet) (l : Link) : Bool := set.getLsbD l.val

/-! ### Counters (R174) -/

/-- A counter after k increments: it saturates at its maximum and never wraps. -/
def bump (n k : Nat) : Nat := min (n + k) Config.counterMax

/-- A link's counters changed. -/
def State.countLink (s : State) (l : Link) (f : LinkCounters → LinkCounters) : State :=
  s.modLink l fun p => { p with counters := f p.counters }

/-- A queue's counters changed. -/
def State.countQueue (s : State) (q : QueueId) (f : QueueCounters → QueueCounters) : State :=
  s.setQueue q { s.queue q with counters := f (s.queue q).counters }

/-- The global counters changed. -/
def State.countGlobal (s : State) (f : GlobalCounters → GlobalCounters) : State := { s with globals := f s.globals }

/-! ### Attention (R177 to R179) -/

/-- The eight attention flags (R177), in the order of the flag set's bits (R183). -/
inductive AttnFlag where
  | linkChange | entryCorrupt | groupMiss | poolLow | operationEnded | swapCompleted | epochSlip | requestDropped
  deriving DecidableEq, Repr

/-- The bit of a flag in a flag set (R183). -/
def AttnFlag.bit : AttnFlag → Nat
  | .linkChange => 0 | .entryCorrupt => 1 | .groupMiss => 2 | .poolLow => 3
  | .operationEnded => 4 | .swapCompleted => 5 | .epochSlip => 6 | .requestDropped => 7

/-- Whether a flag is in a flag set. -/
def FlagSet.has (set : FlagSet) (f : AttnFlag) : Bool := set.getLsbD f.bit

/-- The pending ATTN flag set on every link that is permitted and in UP (R178, R179). -/
def State.pendAttention (s : State) : State :=
  s.mapLinks fun l p => if LinkSet.has s.agent.permitted l = true ∧ p.state = .up then { p with pendAttn := true } else p

/-- The attention block with a flag set, whether masked or not (R177). -/
def State.setFlag (s : State) (f : AttnFlag) : State :=
  { s with attn := { s.attn with flags := s.attn.flags ||| BitVec.twoPow 8 f.bit } }

/-- What an unmasked raise does (R178): it starts a round and the hold-off timer, or marks raised-while-running. -/
def State.alertLinks (s : State) : State :=
  match s.attn.timer with
  | .idle =>
    let flagged := s.pendAttention
    { flagged with attn := { s.attn with timer := .running s.params.attnHoldOff } }
  | .running _ => { s with attn := { s.attn with raisedWhileRunning := true } }

/-- A raise of an attention flag (R177, R178). -/
def State.raise (s : State) (f : AttnFlag) : State :=
  if FlagSet.has s.params.attnMask f = true then s.setFlag f else (s.setFlag f).alertLinks

/-! ### Flow status (R112, R116) -/

/-- A FLOWST is owed (R116): the pending FLOWST flag is set on every link of the recipient set in UP. -/
def State.oweFlowst (s : State) : State :=
  s.mapLinks fun l p => if LinkSet.has s.params.recipients l = true ∧ p.state = .up then { p with pendFlowst := true } else p

/-- A pause change report (R112). -/
def State.reportPause (s : State) : State :=
  match s.flow.coalescing with
  | .running _ => s
  | .idle =>
    if s.params.flowstHoldOff = 0 then s.oweFlowst
    else { s with flow := { s.flow with coalescing := .running s.params.flowstHoldOff } }

end Sys2Proof.Machine
end

