-- ==== Sys2Proof/Machine/Operands.lean ====
section
/-! DEFINITION. The operand forms: fields of an arriving cell, fields of a request record (R141, R187), which row of the table a request is, the
parameter named by an id and an index (R188), and the forming of a response record (R142). -/

namespace Sys2Proof.Machine

/-! ### Arriving cells -/

/-- The kind of a cell whose header is good and whose kind is defined; none is a header error (R2). -/
def goodHeaderKind (cell : Cell) : Option CellKind := if headerCheckGood cell = true then cellKind cell else none

/-- The epoch number of a SYNC: payload bytes 0 and 1 (R185). -/
def syncEpoch (cell : Cell) : Epoch := cell[10] ++ cell[11]

/-! ### Request records -/

/-- Byte n of a record. -/
def recByte (r : Payload) (n : Nat) : Byte := r.toList.getD n 0

/-- The 16-bit field at byte n, high byte first. -/
def recWord (r : Payload) (n : Nat) : BitVec 16 := recByte r n ++ recByte r (n + 1)

/-- The 32-bit number at byte n, high byte first. -/
def recLong (r : Payload) (n : Nat) : BitVec 32 := recByte r n ++ recByte r (n + 1) ++ recByte r (n + 2) ++ recByte r (n + 3)

/-- The link set at byte n (R183). -/
def recSet (r : Payload) (n : Nat) : LinkSet := recByte r (n + 3) ++ recByte r (n + 2) ++ recByte r (n + 1) ++ recByte r n

/-- The entry of a table carried at byte n (R186). -/
def recEntry (r : Payload) (t : Table) (n : Nat) : EntryFields := parseEntry t ((r.toList.drop n).take 8)

/-- The Clear flag (R141, R187). -/
def recClear (r : Payload) : Bool := (recByte r 1).getLsbD 0

/-- A link number in a byte; none over 31. -/
def linkOf (b : Byte) : Option Link := if h : b.toNat < 32 then some ⟨b.toNat, h⟩ else none

/-- A class in a byte; none over 3. -/
def classOf (b : Byte) : Option Class := if h : b.toNat < 4 then some ⟨b.toNat, h⟩ else none

/-- A table code (R183). -/
def tableOf (b : Byte) : Option Table := if b = 0 then some .group else if b = 1 then some .destination else none

/-- A role code (R183). -/
def roleOf (b : Byte) : Option Role := if b = 0 then some .active else if b = 1 then some .standby else none

/-- The rows of the table that execute a request. -/
inductive RequestRow where
  | readIdentity | readStatus | readQueueSnapshot | readCounters | readAttention | readMissRecord | readEntries | writeEntries | repairEntry
  | fillEntries | copyBank | digestBank | startMemoryTest | enable | disable | flush | retrain | scheduleSwap | cancelSwap | datapathReset
  | sendFlowStatusNow | setManagementLinks | setParameter | readParameter | undefinedRequest
  deriving DecidableEq, Repr

/-- The row of a Link Control by its action byte (R187). An action that names none of the four is refused by R17, the rule of ENABLE
(DEDUCED, log entry 7). -/
def linkControlRow (action : Byte) : RequestRow :=
  if action = 1 then .disable else if action = 2 then .flush else if action = 3 then .retrain else .enable

/-- The row of a request by its kind byte (R187); any other code is undefined (R137). -/
def requestRow (r : Payload) : RequestRow :=
  match (recByte r 0).toNat with
  | 0x01 => .readIdentity
  | 0x02 => .readStatus
  | 0x03 => .readQueueSnapshot
  | 0x04 => .readCounters
  | 0x05 => .readAttention
  | 0x06 => .readMissRecord
  | 0x10 => .readEntries
  | 0x11 => .writeEntries
  | 0x12 => .repairEntry
  | 0x13 => .fillEntries
  | 0x14 => .copyBank
  | 0x15 => .digestBank
  | 0x20 => .scheduleSwap
  | 0x21 => .cancelSwap
  | 0x30 => linkControlRow (recByte r 5)
  | 0x31 => .setManagementLinks
  | 0x32 => .datapathReset
  | 0x33 => .sendFlowStatusNow
  | 0x34 => .startMemoryTest
  | 0x40 => .setParameter
  | 0x41 => .readParameter
  | _ => .undefinedRequest

/-! ### Response records -/

/-- The results (R142). -/
inductive ResultCode where
  | done | accepted | busy | badRange | badState | unknown
  deriving DecidableEq, Repr

/-- The code of a result (R187). -/
def ResultCode.byte : ResultCode → Byte
  | .done => 0 | .accepted => 1 | .busy => 2 | .badRange => 3 | .badState => 4 | .unknown => 5

/-- What a request answers: its result and its data from byte 4 on; bytes the data does not reach are 0. -/
structure Answer where
  result : ResultCode
  data : List Byte
  deriving DecidableEq, Repr

/-- A refusal: its data is all zero (R142). -/
def Answer.refuse (r : ResultCode) : Answer := ⟨r, []⟩

/-- The response record (R142, R187): kind and tag echoed, result, data. -/
def responseRecord (request : Payload) (a : Answer) : Payload :=
  packBytes 64 ([recByte request 0, a.result.byte, recByte request 2, recByte request 3] ++ a.data)

/-! ### Parameters (R188) -/

/-- A parameter with its index. -/
inductive Param where
  | limit (c : Class) | floor (c : Class) | xoff (c : Class) | xon (c : Class) | markLow (c : Class) | markHigh (c : Class)
  | m | w | monitorStep | weight (k : WrrClass) | gap (l : Link) | keepalive | budgetThreshold | holdOff | retrainLimit | epochPeriod
  | timingLink | flowstHoldOff | refresh | recipients | poolLow | attnMask | attnHoldOff | scrubStep
  deriving DecidableEq, Repr

/-- A WRR class in an index byte: 1, 2 or 3. -/
def wrrOf (b : Byte) : Option WrrClass :=
  if b = 1 then some .one else if b = 2 then some .two else if b = 3 then some .three else none

/-- A parameter without an index accepts only FFh there (R188). -/
def plainParam (index : Byte) (p : Param) : Option Param := if index = 0xFF then some p else none

/-- The parameter of an id and an index byte; none is the refusal of R154 step 1. -/
def paramOf (id index : Byte) : Option Param :=
  match id.toNat with
  | 0x01 => (classOf index).map .limit
  | 0x02 => (classOf index).map .floor
  | 0x03 => (classOf index).map .xoff
  | 0x04 => (classOf index).map .xon
  | 0x05 => (classOf index).map .markLow
  | 0x06 => (classOf index).map .markHigh
  | 0x07 => plainParam index .m
  | 0x08 => plainParam index .w
  | 0x09 => plainParam index .monitorStep
  | 0x0A => (wrrOf index).map .weight
  | 0x0B => (linkOf index).map .gap
  | 0x0C => plainParam index .keepalive
  | 0x0D => plainParam index .budgetThreshold
  | 0x0E => plainParam index .holdOff
  | 0x0F => plainParam index .retrainLimit
  | 0x10 => plainParam index .epochPeriod
  | 0x11 => plainParam index .timingLink
  | 0x12 => plainParam index .flowstHoldOff
  | 0x13 => plainParam index .refresh
  | 0x14 => plainParam index .recipients
  | 0x15 => plainParam index .poolLow
  | 0x16 => plainParam index .attnMask
  | 0x17 => plainParam index .attnHoldOff
  | 0x18 => plainParam index .scrubStep
  | _ => none

/-- The weight of a WRR class (R92). -/
def Params.weight (p : Params) : WrrClass → Nat
  | .one => p.weight1
  | .two => p.weight2
  | .three => p.weight3

/-- The value in force as bytes 8..11 report it (R155, R188): a number high byte first, the recipient set as a link set, the attention mask in byte 8. -/
def Params.valueBytes (p : Params) : Param → List Byte
  | .limit c => num32 (slot p.limit c)
  | .floor c => num32 (slot p.floor c)
  | .xoff c => num32 (slot p.xoff c)
  | .xon c => num32 (slot p.xon c)
  | .markLow c => num32 (slot p.markLow c)
  | .markHigh c => num32 (slot p.markHigh c)
  | .m => num32 p.m
  | .w => num32 p.w
  | .monitorStep => num32 p.monitorStep
  | .weight k => num32 (p.weight k)
  | .gap l => num32 (slot p.gap l)
  | .keepalive => num32 p.keepalive
  | .budgetThreshold => num32 p.budgetThreshold
  | .holdOff => num32 p.holdOff
  | .retrainLimit => num32 p.retrainLimit
  | .epochPeriod => num32 p.epochPeriod
  | .timingLink => num32 (match p.timingLink with | none => 32 | some l => l.val)
  | .flowstHoldOff => num32 p.flowstHoldOff
  | .refresh => num32 p.refresh
  | .recipients => setBytes p.recipients
  | .poolLow => num32 p.poolLow
  | .attnMask => [p.attnMask, 0, 0, 0]
  | .attnHoldOff => num32 p.attnHoldOff
  | .scrubStep => num32 p.scrubStep

/-- A value put into a range: below it the lowest value, above it the highest (08, table of parameters). -/
def clamp (lo hi v : Nat) : Nat := max lo (min hi v)

/-- The parameters after a write of a request's value (R154 steps 2 to 5); none where the value or the pair test refuses it. -/
def Params.store (p : Params) (id : Param) (record : Payload) : Option Params :=
  let v := (recLong record 8).toNat
  match id with
  | .limit c => if v = 0 then none else some { p with limit := setSlot p.limit c (clamp 1 4095 v) }
  | .floor c => some { p with floor := setSlot p.floor c (clamp 0 16383 v) }
  | .xoff c => if clamp 1 4095 v ≤ slot p.xon c then none else some { p with xoff := setSlot p.xoff c (clamp 1 4095 v) }
  | .xon c => if slot p.xoff c ≤ clamp 0 4094 v then none else some { p with xon := setSlot p.xon c (clamp 0 4094 v) }
  | .markLow c => if slot p.markHigh c < clamp 0 65520 v then none else some { p with markLow := setSlot p.markLow c (clamp 0 65520 v) }
  | .markHigh c => if clamp 0 65520 v < slot p.markLow c then none else some { p with markHigh := setSlot p.markHigh c (clamp 0 65520 v) }
  | .m => some { p with m := clamp 0 7 v }
  | .w => some { p with w := clamp 1 6 v }
  | .monitorStep => some { p with monitorStep := clamp 1 255 v }
  | .weight .one => some { p with weight1 := clamp 1 64 v }
  | .weight .two => some { p with weight2 := clamp 1 64 v }
  | .weight .three => some { p with weight3 := clamp 1 64 v }
  | .gap l => some { p with gap := setSlot p.gap l (clamp 0 15 v) }
  | .keepalive => some { p with keepalive := clamp 4 1023 v }
  | .budgetThreshold => some { p with budgetThreshold := clamp 64 65535 v }
  | .holdOff => some { p with holdOff := clamp 100 10000 v }
  | .retrainLimit => some { p with retrainLimit := clamp 0 15 v }
  | .epochPeriod => some { p with epochPeriod := clamp 10 1000 v }
  | .timingLink =>
    if h : v < 32 then some { p with timingLink := some ⟨v, h⟩ }
    else if v = 32 then some { p with timingLink := none } else none
  | .flowstHoldOff => some { p with flowstHoldOff := clamp 0 255 v }
  | .refresh => some { p with refresh := clamp 1 255 v }
  | .recipients => some { p with recipients := recSet record 8 }
  | .poolLow => some { p with poolLow := clamp 0 16383 v }
  | .attnMask => some { p with attnMask := recByte record 8 }
  | .attnHoldOff => some { p with attnHoldOff := clamp 10 10000 v }
  | .scrubStep => some { p with scrubStep := clamp 0 1000 v }

end Sys2Proof.Machine
end

