-- ==== Sys2Proof/Machine/Ops.lean ====
section
/-! DEFINITION. The operations several commands share: the buffer pool (R64 to R70), queues and flushes (R71 to R76), Route Selectors (R35 to R39),
table entries and their verification (R28 to R30), link state changes (R6, R9, R12, R14, R18), the epoch change and the swap (R120, R129),
the end and abort of a long operation (R159, R168), and the taking of a request with the placement of its response (R137 to R139). -/

namespace Sys2Proof.Machine

/-! ### The buffer pool -/

/-- R68: the pool-low latch is SET while the free count is below the threshold. -/
def Pool.relatch (p : Pool) (threshold : Nat) : Pool := { p with latch := decide (p.free.length < threshold) }

/-- The reference count of a handle (R66). -/
def Pool.refCount (p : Pool) (h : Handle) : Nat := Memory.read 0 p.refs h

/-- The cell stored in a buffer, if any. -/
def Pool.stored (p : Pool) (h : Handle) : Option Cell := Memory.read none p.buffers h

/-- R67: a release lowers the count by 1; the one that brings it to 0 appends the handle at the tail of the free list and re-evaluates the latch. -/
def Pool.release (p : Pool) (threshold : Nat) (h : Handle) : Pool :=
  let fewer := { p with refs := Memory.write 0 p.refs h (p.refCount h - 1) }
  if p.refCount h = 1 then Pool.relatch { fewer with free := p.free ++ [h] } threshold else fewer

/-- R55, R65: an allocation takes the head of the free list, stores the cell and sets the count to the number of copies. -/
def Pool.allocate (p : Pool) (threshold : Nat) (cell : Cell) (copies : Nat) : Option (Handle × Pool) :=
  match p.free with
  | [] => none
  | h :: rest =>
    some (h, Pool.relatch { p with free := rest, refs := Memory.write 0 p.refs h copies,
                                   buffers := Memory.write none p.buffers h (some cell) } threshold)

/-- R70 step 1: every free handle moves to the under-test set. -/
def Pool.startTest (p : Pool) (threshold : Nat) : Pool :=
  Pool.relatch { p with free := [], underTest := HandleSet.union p.free p.underTest } threshold

/-- R70 steps 2 and 3: the verdict on a handle. What its buffer held is no stored cell any more (R166). -/
def Pool.verdict (p : Pool) (h : Handle) (passes : Bool) : Pool :=
  let tested := { p with buffers := Memory.write none p.buffers h none }
  if passes = true then
    if h ∈ p.retired then { tested with retired := HandleSet.remove h p.retired, underTest := HandleSet.insert h p.underTest } else tested
  else { tested with retired := HandleSet.insert h p.retired, underTest := HandleSet.remove h p.underTest }

/-- R70 step 4: the free list is rebuilt in ascending order from every handle under test. -/
def Pool.rebuild (p : Pool) (threshold : Nat) : Pool := Pool.relatch { p with free := p.underTest, underTest := [] } threshold

/-- A release at the device's threshold (R67). -/
def State.release (s : State) (h : Handle) : State := { s with pool := s.pool.release s.params.poolLow h }

/-- An allocation; one that takes the latch from CLEAR to SET raises PoolLow (R68). -/
def State.allocate (s : State) (cell : Cell) (copies : Nat) : Option (Handle × State) :=
  match s.pool.allocate s.params.poolLow cell copies with
  | none => none
  | some (h, pool) =>
    let stored := { s with pool := pool }
    some (h, if s.pool.latch = false ∧ pool.latch = true then stored.raise .poolLow else stored)

/-! ### Queues and flushes -/

/-- The four queues of a link, in queue order. -/
def linkQueues (l : Link) : List QueueId := [queueId l 0, queueId l 1, queueId l 2, queueId l 3]

/-- Append one entry at the tail of a queue and count it as enqueued (R53, R72). -/
def State.enqueue (s : State) (q : QueueId) (e : QueueEntry) : State :=
  let out := s.queue q
  s.setQueue q { out with entries := out.entries ++ [e], counters := { out.counters with enqueued := bump out.counters.enqueued 1 } }

/-- What a flush leaves of a queue: no entries, congestion items at their initial values, each removed entry counted (R74, R75). -/
def OutQueue.flushed (out : OutQueue) : OutQueue :=
  { entries := [], average := 0, level := .none, pause := .clear, markCount := 0,
    counters := { out.counters with flushed := bump out.counters.flushed out.entries.length } }

/-- The flush of one queue: every entry is removed head first with a release (R74, R75). -/
def State.flushQueue (s : State) (q : QueueId) : State :=
  let out := s.queue q
  let emptied := s.setQueue q out.flushed
  { emptied with pool := out.entries.foldl (fun p e => p.release s.params.poolLow e.handle) s.pool }

/-- A flush event over queues, in the order given; one report if any of them was PAUSED (R75, R76). -/
def State.flushQueues (s : State) (qs : List QueueId) : State :=
  let emptied := qs.foldl State.flushQueue s
  if qs.any (fun q => decide ((s.queue q).pause = .paused)) = true then emptied.reportPause else emptied

/-! ### Table entries -/

/-- The tables of a bank. -/
def State.bank (s : State) (b : Bank) : BankTables := slot s.tables.banks b

/-- The state with other tables in a bank. -/
def State.setBank (s : State) (b : Bank) (t : BankTables) : State :=
  { s with tables := { s.tables with banks := setSlot s.tables.banks b t } }

/-- The stored entry at an index of a table of a bank: its fields and its check code. -/
def State.entry (s : State) (t : Table) (b : Bank) (i : Nat) : Stored EntryFields :=
  match t with
  | .group => let e := Memory.read powerOnGroup (s.bank b).groups i; ⟨.group e.fields, e.code⟩
  | .destination => let e := Memory.read powerOnDest (s.bank b).dests i; ⟨.destination e.fields, e.code⟩

/-- Content and check code put at an index; the entry gives the table. -/
def State.putEntry (s : State) (b : Bank) (i : Nat) (e : EntryFields) (code : Byte) : State :=
  match e with
  | .group g => s.setBank b { s.bank b with groups := Memory.write powerOnGroup (s.bank b).groups i ⟨g, code⟩ }
  | .destination d => s.setBank b { s.bank b with dests := Memory.write powerOnDest (s.bank b).dests i ⟨d, code⟩ }

/-- A write of an entry with a fresh check code (R28). -/
def State.writeEntry (s : State) (b : Bank) (i : Nat) (e : EntryFields) : State := s.putEntry b i e e.checkCode

/-- The bank that holds a role (R22). -/
def State.bankOf (s : State) : Role → Bank
  | .active => s.tables.active
  | .standby => otherBank s.tables.active

/-- R30: marking an entry CORRUPT. -/
def State.markCorrupt (s : State) (t : Table) (b : Bank) (i : Nat) : State :=
  let e := s.entry t b i
  let marked := s.putEntry b i (e.fields.withState (corruptCode t)) e.code
  let counted := marked.countGlobal fun g => { g with corruptFound := bump g.corruptFound 1 }
  let recorded := { counted with attn := { counted.attn with lastCorrupt := some ⟨t, b, i⟩ } }
  recorded.raise .entryCorrupt

/-- R29: a verifying read. It answers whether the entry may be used, and the state with the entry marked where it found a mismatch. -/
def State.verify (s : State) (t : Table) (b : Bank) (i : Nat) : Bool × State :=
  let e := s.entry t b i
  if e.fields.isCorrupt = true then (false, s)
  else if e.fields.mismatch e.code = true then (false, s.markCorrupt t b i)
  else (true, s)

/-! ### Route Selectors -/

/-- The entry of a destination in the active bank, as stored. -/
def State.activeDest (s : State) (d : Nat) : DestFields := (Memory.read powerOnDest (s.bank s.tables.active).dests d).fields

/-- Whether a link number names a link in UP; one over 31 does not (R35). -/
def State.numberUp (s : State) (n : Nat) : Bool := if h : n < 32 then decide ((s.link ⟨n, h⟩).state = .up) else false

/-- The number of the selected link (R35); none when the selector is SPARE and the entry names no spare (log entry 9). -/
def selectedNumber (e : DestFields) : Selector → Option Nat
  | .primary => some e.primary.toNat
  | .spare => e.spare.map BitVec.toNat

/-- The number of the other candidate (R35); a destination with no spare link has none. -/
def otherNumber (e : DestFields) : Selector → Option Nat
  | .primary => e.spare.map BitVec.toNat
  | .spare => e.spare.map fun _ => e.primary.toNat

/-- The selector's other value. -/
def Selector.flip : Selector → Selector
  | .primary => .spare
  | .spare => .primary

/-- R37: destination d moves when link l has left UP. -/
def State.movesOnLeaving (s : State) (l d : Link) : Bool :=
  let e := s.activeDest d.val
  let sel := slot s.tables.selectors d
  e.isActive && decide (selectedNumber e sel = some l.val) && (otherNumber e sel).any s.numberUp

/-- R38: destination d moves when link l has entered UP. -/
def State.movesOnEntering (s : State) (l d : Link) : Bool :=
  let e := s.activeDest d.val
  let sel := slot s.tables.selectors d
  e.isActive && decide (otherNumber e sel = some l.val) && !(selectedNumber e sel).any s.numberUp

/-- The destinations of a rule fail over, each counted (R37, R38). -/
def State.failOver (s : State) (moves : Link → Bool) : State :=
  let moved := { s with tables := { s.tables with
    selectors := Vector.ofFn fun d => if moves d = true then (slot s.tables.selectors d).flip else slot s.tables.selectors d } }
  moved.countGlobal fun g => { g with failOvers := bump g.failOvers ((List.finRange 32).countP moves) }

/-- R36: the selector of destination d by the entry and the link states. -/
def State.reselected (s : State) (d : Link) : Selector :=
  let e := s.activeDest d.val
  if e.isActive = true ∧ s.numberUp e.primary.toNat = false ∧ (e.spare.map BitVec.toNat).any s.numberUp = true then .spare else .primary

/-! ### Link changes -/

/-- R14: what follows a link change; `s` holds the new state and `old` is the one before (log entry 10). -/
def State.linkChange (s : State) (l : Link) (old : LinkState) : State :=
  let listed := { s with attn := { s.attn with links := s.attn.links ||| LinkSet.single l } }
  let selected :=
    if old = .up ∧ (s.link l).state ≠ .up then listed.failOver (listed.movesOnLeaving l)
    else if old ≠ .up ∧ (s.link l).state = .up then listed.failOver (listed.movesOnEntering l)
    else listed
  selected.raise .linkChange

/-- The IDLE cell of this plane. -/
def State.idleSending (s : State) : Sending := .cell .idle (idleCell s.straps.plane)

/-- Whether a transmitter is sending an MRSP. -/
def Sending.isMrsp : Sending → Bool
  | .cell .mrsp _ => true
  | _ => false

/-- The responses lost when a link leaves UP: those queued, an MRSP cut off, and the one held for the link (R12, R18, R21, R139). -/
def State.lostResponses (s : State) (l : Link) : Nat :=
  (s.link l).respQueue.length + (if (s.link l).sending.isMrsp = true then 1 else 0)
    + (if s.agent.held.any (fun c => decide (c.link = l)) = true then 1 else 0)

/-- What every departure of a link to FAULTED, DISABLED or TRAINING does to the port's senders and receive buffer (R12, R15, R18, R21, R139):
the keepalive stops, the receive buffer is emptied into overruns, the responses are discarded and counted, the pending flags and disable-pending
are cleared, and the transmitter goes on with `next`. -/
def State.quiet (s : State) (l : Link) (next : Sending) : State :=
  let quieted := s.modLink l fun p =>
    { p with keepalive := .idle, disablePending := false, rxBuf := [], respQueue := [], pendFlowst := false, pendAttn := false, sending := next,
             counters := { p.counters with overruns := bump p.counters.overruns p.rxBuf.length } }
  let counted := quieted.countGlobal fun g => { g with discarded := bump g.discarded (s.lostResponses l) }
  { counted with agent := { s.agent with held := s.agent.held.filter fun c => decide (c.link ≠ l) } }

/-- The abort of an in-flight data cell (R16, R97). -/
def State.abortInFlight (s : State) (l : Link) : State :=
  match (s.link l).inFlight with
  | none => s
  | some h => (s.release h).modLink l fun p => { p with inFlight := none, counters := { p.counters with aborted := bump p.counters.aborted 1 } }

/-- R6: entry into TRAINING from the state `old`. -/
def State.enterTraining (s : State) (l : Link) (old : LinkState) : State :=
  let entered := s.modLink l fun p =>
    { p with state := .training, trainCount := 0, window := .running Config.trainingWindow, holdOff := .idle, sending := s.idleSending,
             counters := { p.counters with retrains := if old = .up ∨ old = .faulted then bump p.counters.retrains 1 else p.counters.retrains } }
  entered.linkChange l old

/-- R9: entry into UP. -/
def State.enterUp (s : State) (l : Link) : State :=
  let entered := s.modLink l fun p =>
    { p with state := .up, disablePending := false, window := .idle, keepalive := .running s.params.keepalive, budget := 0, retrainCount := 0,
             cause := .none, gapCount := Config.gapMax }
  entered.linkChange l (s.link l).state

/-- R12: entry into FAULTED. The link has its new state before its queues are flushed (log entries 10, 11). -/
def State.enterFaulted (s : State) (l : Link) (cause : FaultCause) : State :=
  let aborted := s.abortInFlight l
  let faulted := aborted.modLink l fun p =>
    { p with state := .faulted, farGap := 0, retrainCount := min Config.retrainMax (p.retrainCount + 1), cause := cause, window := .idle,
             holdOff := .running s.params.holdOff }
  ((faulted.quiet l s.idleSending).flushQueues (linkQueues l)).linkChange l (s.link l).state

/-- R18: entry into DISABLED; the queues are held. -/
def State.enterDisabled (s : State) (l : Link) : State :=
  let disabled := s.modLink l fun p => { p with state := .disabled, window := .idle, holdOff := .idle }
  (disabled.quiet l .nothing).linkChange l (s.link l).state

/-- R21: Retrain from UP or FAULTED, the actions of fault entry without a hold-off and one link change to TRAINING. -/
def State.retrainLink (s : State) (l : Link) : State :=
  let aborted := s.abortInFlight l
  let left := aborted.modLink l fun p => { p with state := .training, farGap := 0 }
  ((left.quiet l s.idleSending).flushQueues (linkQueues l)).enterTraining l (s.link l).state

/-! ### Epochs -/

/-- A restart of the epoch timer (R119). -/
def State.restartEpochTimer (s : State) : State := { s with epoch := { s.epoch with timer := .running s.params.epochPeriod } }

/-- R114: the refresh countdown at an epoch change. -/
def State.tickRefresh (s : State) : State :=
  if s.flow.refresh ≤ 1 then ({ s with flow := { s.flow with refresh := s.params.refresh } }).oweFlowst
  else { s with flow := { s.flow with refresh := s.flow.refresh - 1 } }

/-- R129: the swap. -/
def State.performSwap (s : State) : State :=
  let swapped := { s with tables := { s.tables with active := otherBank s.tables.active } }
  let selected := { swapped with tables := { swapped.tables with selectors := Vector.ofFn fun d => swapped.reselected d } }
  let recorded := { selected with epoch := { s.epoch with swapPending := false, lastSwap := some s.epoch.number } }
  recorded.raise .swapCompleted

/-- R128: the reached test of a pending swap on the new E. -/
def State.swapReached (s : State) : Bool := s.epoch.swapPending && decide ((s.epoch.number - s.epoch.target).toNat < 32768)

/-- R120: an epoch change; `s` holds the new E. -/
def State.epochChange (s : State) : State :=
  let ticked := s.tickRefresh
  if ticked.swapReached = true then ticked.performSwap else ticked

/-! ### Long operations -/

/-- Whether a long operation is RUNNING (R157). -/
def State.opRunning (s : State) : Bool := s.op.any fun r => decide (r.state = .running)

/-- The work of the running operation. -/
def State.runningWork (s : State) : Option Work := (s.op.filter fun r => decide (r.state = .running)).map OpRecord.work

/-- Whether the running operation is a memory test. -/
def State.memtestRunning (s : State) : Bool :=
  match s.runningWork with
  | some (.memtest _ _ _ _) => true
  | _ => false

/-- Whether the running operation is a Fill or a Copy, which write the standby bank (R125). -/
def State.standbyWriterRunning (s : State) : Bool :=
  match s.runningWork with
  | some (.fill _ _ _ _ _) => true
  | some (.copy _ _ _ _) => true
  | _ => false

/-- Whether a running Fill or Copy has that table of that bank in its scope (R147). -/
def State.writerCovers (s : State) (t : Table) (b : Bank) : Bool :=
  match s.runningWork with
  | some (.fill bank e _ _ _) => decide (bank = b ∧ e.table = t)
  | some (.copy _ dest _ _) => decide (dest = b)
  | _ => false

/-- Whether a running Digest has that table of that bank as its scope (R148, R149). -/
def State.digestCovers (s : State) (t : Table) (b : Bank) : Bool :=
  match s.runningWork with
  | some (.digest table bank _ _ _ _) => decide (bank = b ∧ table = t)
  | _ => false

/-- R159: the end of an operation with its final record. -/
def State.endOp (s : State) (progress : Nat) (w : Work) : State := ({ s with op := some ⟨.done, progress, w⟩ }).raise .operationEnded

/-- A step that is not the last: the record goes on RUNNING. -/
def State.continueOp (s : State) (progress : Nat) (w : Work) : State := { s with op := some ⟨.running, progress, w⟩ }

/-- R168: the abort of a running operation. A memory test rebuilds the free list and records the retired count. -/
def State.abortOp (s : State) : State :=
  match s.op with
  | some ⟨.running, progress, .memtest tested failed first _⟩ =>
    let rebuilt := { s with pool := s.pool.rebuild s.params.poolLow }
    ({ rebuilt with op := some ⟨.aborted, progress, .memtest tested failed first (some s.pool.retired.length)⟩ }).raise .operationEnded
  | some ⟨.running, progress, w⟩ => ({ s with op := some ⟨.aborted, progress, w⟩ }).raise .operationEnded
  | _ => s

/-! ### The Management Agent -/

/-- R138: the placement of a response on the link that carried the request. -/
def State.place (s : State) (l : Link) (record : Payload) : State :=
  if (s.link l).state ≠ .up then s.countGlobal fun g => { g with discarded := bump g.discarded 1 }
  else if (s.link l).respQueue.length < Config.respDepth then s.modLink l fun p => { p with respQueue := p.respQueue ++ [record] }
  else { s with agent := { s.agent with held := some ⟨l, record⟩ } }

/-- The free response byte at position n of the record being formed (log entry 8). -/
def State.freeByte (s : State) (n : Nat) : Byte := Config.freeByte (s.freeCtr + n)

/-- The record to execute: the head of the request queue while the agent is READY, if it is a request of this row (R137). -/
def State.headRequest (s : State) (row : RequestRow) : Option Carried :=
  match s.rstN, s.agent.held, s.agent.queue with
  | true, none, r :: _ => if requestRow r.record = row then some r else none
  | _, _, _ => none

/-- R137, R138: taking the head request, executing it and placing its response are one event. A command whose request does not stand at the
head changes nothing (log entry 1). -/
def State.serve (s : State) (row : RequestRow) (execute : Payload → State → Answer × State) : State :=
  match s.headRequest row with
  | none => s
  | some r =>
    let answered := execute r.record { s with agent := { s.agent with queue := s.agent.queue.tail } }
    ({ answered.2 with freeCtr := answered.2.freeCtr + 64 }).place r.link (responseRecord r.record answered.1)

end Sys2Proof.Machine
end

