-- ==== Sys2Proof/Machine/Admission.lean ====
section
/-! DEFINITION. ADMISSION (R41 to R62): the round robin over receive buffers, the unicast tests, the member walk. -/

namespace Sys2Proof.Machine

/-- R42: the links in the order the engine looks at them, starting after the pointer and wrapping. -/
def State.serviceOrder (s : State) : List Link := (List.finRange 32).map fun i => s.rrPtr + 1 + i

/-- R42: the link served, the first in that order whose receive buffer holds a cell. -/
def State.servedLink (s : State) : Option Link := s.serviceOrder.find? fun l => !(s.link l).rxBuf.isEmpty

/-- R49: whether new entries for a link may be appended. -/
def State.accepting (s : State) (l : Link) : Bool :=
  match (s.link l).state with
  | .up => true
  | .disabled => true
  | .training => false
  | .faulted => false

/-- R51: the class floor test. -/
def State.floorPasses (s : State) (c : Class) : Bool := decide (slot s.params.floor c < s.pool.free.length)

/-- R52: the queue limit test of Q(L,c). -/
def State.limitPasses (s : State) (l : Link) (c : Class) : Bool :=
  decide ((s.queue (queueId l c)).entries.length < slot s.params.limit c)

/-- A tail drop counted on Q(L,c) (R52, R58). -/
def State.countTailDrop (s : State) (l : Link) (c : Class) : State :=
  s.countQueue (queueId l c) fun k => { k with tailDrops := bump k.tailDrops 1 }

/-- R55, R53, R59: the cell is stored once and one entry is appended for each link of the list, in its order. The floor test has left a
free buffer, so the free list is not empty here (R51). -/
def State.storeCell (s : State) (cell : Cell) (cc : Class) (members : List Link) : State :=
  match s.allocate cell members.length with
  | none => s
  | some (h, stored) => members.foldl (fun acc l => acc.enqueue (queueId l cc) ⟨h, cc, cellMark cell⟩) stored

/-- R49 to R53: the tests after a route has been found. -/
def State.admitUnicast (s : State) (ingress : Link) (cell : Cell) (l : Link) : State :=
  let c := cellClass cell
  if s.accepting l = false then s.countLink ingress fun k => { k with unreachable := bump k.unreachable 1 }
  else if s.floorPasses c = false then s.countLink ingress fun k => { k with floorDrops := bump k.floorDrops 1 }
  else if s.limitPasses l c = false then s.countTailDrop l c
  else s.storeCell cell c [l]

/-- The link a route leads to (R27, R35). Where the selector stands at SPARE and the entry names no spare, a free link (log entry 9). -/
def State.routeLink (s : State) (d : Link) : Link × State :=
  match (selectedNumber (s.activeDest d.val) (slot s.tables.selectors d)).bind (fun n => if h : n < 32 then some (⟨n, h⟩ : Link) else none) with
  | some l => (l, s)
  | none => (Config.freeLink s.freeCtr, { s with freeCtr := s.freeCtr + 1 })

/-- R48: the outcome of a good entry by its State: ACTIVE is a route, ISOLATED is isolated, UNASSIGNED is no route. -/
def State.routeUnicast (s : State) (ingress : Link) (cell : Cell) (d : Link) : State :=
  let e := s.activeDest d.val
  if e.isActive = true then (s.routeLink d).2.admitUnicast ingress cell (s.routeLink d).1
  else if e.state = 2 then s.countLink ingress fun k => { k with isolated := bump k.isolated 1 }
  else s.countLink ingress fun k => { k with noRoute := bump k.noRoute 1 }

/-- R47, R48: the unicast path. -/
def State.unicast (s : State) (ingress : Link) (cell : Cell) : State :=
  if h : cellDest cell < 32 then
    let d : Link := ⟨cellDest cell, h⟩
    let checked := s.verify .destination s.tables.active d.val
    if checked.1 = true then checked.2.routeUnicast ingress cell d
    else checked.2.countLink ingress fun k => { k with corruptRoute := bump k.corruptRoute 1 }
  else s.countLink ingress fun k => { k with noRoute := bump k.noRoute 1 }

/-- What the member walk decides for a member (R58). -/
inductive Decision where
  | suppressed | unreachable | tailDrop | admitted
  deriving DecidableEq, Repr

/-- R58: the decision for member `mem`, read at the admission event. -/
def State.decideMember (s : State) (ingress : Link) (suppress : Bool) (cc : Class) (mem : Link) : Decision :=
  if suppress = true ∧ mem = ingress then .suppressed
  else if s.accepting mem = false then .unreachable
  else if s.limitPasses mem cc = false then .tailDrop
  else .admitted

/-- The members of a set in ascending link order (R24, R58). -/
def LinkSet.members (set : LinkSet) : List Link := (List.finRange 32).filter fun l => LinkSet.has set l

/-- R57: the copy class, the override where one is present and the cell's class otherwise. A verified override is at most 3 (R29). -/
def copyClass (g : GroupFields) (cell : Cell) : Class :=
  match g.classOverride with
  | none => cellClass cell
  | some v => Fin.ofNat 4 v.toNat

/-- R58, R59: the member walk and its outcome. -/
def State.walkMembers (s : State) (ingress : Link) (cell : Cell) (g : GroupFields) (cc : Class) : State :=
  let decided := fun d => (LinkSet.members g.members).filter fun mem => decide (s.decideMember ingress g.sourceSuppress cc mem = d)
  let lost := s.countLink ingress fun k => { k with unreachable := bump k.unreachable (decided .unreachable).length }
  let counted := (decided .tailDrop).foldl (fun acc mem => acc.countTailDrop mem cc) lost
  if decided .admitted = [] then counted.countLink ingress fun k => { k with noCopies := bump k.noCopies 1 }
  else counted.storeCell cell cc (decided .admitted)

/-- R181: an offer to the miss record. -/
def State.offerMiss (s : State) (group : Nat) (l : Link) : State :=
  match s.attn.miss with
  | none => ({ s with attn := { s.attn with miss := some ⟨group, l, s.epoch.number, 0⟩ } }).raise .groupMiss
  | some r => { s with attn := { s.attn with miss := some { r with count := min Config.missMax (r.count + 1) } } }

/-- R56: a group miss. -/
def State.groupMiss (s : State) (ingress : Link) (group : Nat) : State :=
  (s.countLink ingress fun k => { k with groupMisses := bump k.groupMisses 1 }).offerMiss group ingress

/-- The group entry of the active bank, as stored. -/
def State.activeGroup (s : State) (g : Nat) : GroupFields := (Memory.read powerOnGroup (s.bank s.tables.active).groups g).fields

/-- R56, R57: the multicast path. A VALID entry has State code 1 (R186). -/
def State.multicast (s : State) (ingress : Link) (cell : Cell) : State :=
  let group := cellDest cell
  let checked := s.verify .group s.tables.active group
  let g := checked.2.activeGroup group
  if checked.1 = true ∧ g.state = 1 then
    let cc := copyClass g cell
    if checked.2.floorPasses cc = false then checked.2.countLink ingress fun k => { k with floorDrops := bump k.floorDrops 1 }
    else checked.2.walkMembers ingress cell g cc
  else checked.2.groupMiss ingress group

/-- R45, R46: the outcome of the cell taken. -/
def State.admitCell (s : State) (ingress : Link) (cell : Cell) : State :=
  if s.memtestRunning = true then s.countLink ingress fun k => { k with testDrops := bump k.testDrops 1 }
  else if cellKind cell = some .ucast then s.unicast ingress cell
  else s.multicast ingress cell

/-- R41 to R43: the oldest cell of the served link leaves its buffer, the pointer names that link, and the cell's outcome is decided. -/
def State.admission (s : State) : State :=
  match s.servedLink with
  | none => s
  | some l =>
    match (s.link l).rxBuf with
    | [] => s
    | cell :: rest => ({ s.modLink l (fun p => { p with rxBuf := rest }) with rrPtr := l }).admitCell l cell

/-- ADMISSION (R42). With every receive buffer empty no admission is taken (log entry 1). -/
def execAdmission (s : State) : Host.Outcome State Fault Refusal :=
  .next (if s.rstN = true then s.admission else s)

end Sys2Proof.Machine
end

