-- ==== Sys2Proof/Machine/Congestion.lean ====
section
/-! DEFINITION. MONITOR_STEP and COALESCING_TIMER_EXPIRY (R99 to R110, R113). -/

namespace Sys2Proof.Machine

/-- A signed whole number divided by 2^w, rounded to the nearest whole number and to the even one at a half (R103 step 2). -/
def roundedQuotient (d : Int) (w : Nat) : Int :=
  let unit : Int := 2 ^ w
  let q := d / unit
  let twice := 2 * (d % unit)
  if twice < unit then q else if unit < twice then q + 1 else if q % 2 = 0 then q else q + 1

/-- R103: the new average from the old one, the sampled depth and the weight shift. -/
def nextAverage (average depth w : Nat) : Nat := ((average : Int) + roundedQuotient (16 * (depth : Int) - (average : Int)) w).toNat

/-- R105: the level of an average. -/
def levelOf (average low high : Nat) : MarkLevel := if average < low then .none else if average < high then .part else .full

/-- R107: the pause state after a sampled depth. -/
def nextPause (before : PauseState) (depth xoff xon : Nat) : PauseState :=
  match before with
  | .clear => if xoff ≤ depth then .paused else .clear
  | .paused => if depth ≤ xon then .clear else .paused

/-- R101: whether a queue is eligible, by the state of its link. -/
def State.eligible (s : State) (q : QueueId) : Bool :=
  match (s.link (queueLink q)).state with
  | .up => true
  | .disabled => true
  | .training => false
  | .faulted => false

/-- R101: the queues in the order the monitor searches them, from after the cursor round to the cursor itself. -/
def State.scanOrder (s : State) : List QueueId := (List.finRange 128).map fun i => s.monitor.cursor + 1 + i

/-- R102, R103, R105, R107: what a visit leaves of a queue of class c. -/
def OutQueue.visited (out : OutQueue) (p : Params) (c : Class) : OutQueue :=
  let average := nextAverage out.average out.entries.length p.w
  let level := levelOf average (slot p.markLow c) (slot p.markHigh c)
  { out with
    average := average
    level := level
    markCount := if out.level = .part ∧ level ≠ .part then 0 else out.markCount
    pause := nextPause out.pause out.entries.length (slot p.xoff c) (slot p.xon c) }

/-- R102, R107: a visit; a pause change is reported at the same event. -/
def State.visit (s : State) (q : QueueId) : State :=
  let after := (s.queue q).visited s.params (queueClass q)
  let visited := s.setQueue q after
  if after.pause ≠ (s.queue q).pause then visited.reportPause else visited

/-- R100, R101: a step of the monitor visits the next eligible queue, if any, and restarts the timer. -/
def State.monitorStep (s : State) : State :=
  match s.scanOrder.find? s.eligible with
  | none => { s with monitor := { s.monitor with timer := .running s.params.monitorStep } }
  | some q => ({ s with monitor := ⟨q, .running s.params.monitorStep⟩ }).visit q

/-- MONITOR_STEP (R100). The step timer runs at all times while RST_N is high (log entry 1). -/
def execMonitorStep (s : State) : Host.Outcome State Fault Refusal :=
  .next (if s.rstN = true ∧ s.monitor.timer ≠ .idle then s.monitorStep else s)

/-- COALESCING_TIMER_EXPIRY (R113): the timer goes to IDLE and a FLOWST is owed. -/
def execCoalescingTimerExpiry (s : State) : Host.Outcome State Fault Refusal :=
  .next (
    if s.rstN = true ∧ s.flow.coalescing ≠ .idle then ({ s with flow := { s.flow with coalescing := .idle } }).oweFlowst else s)

end Sys2Proof.Machine
end

