-- ==== Sys2Proof/Machine/ReadRequests.lean ====
section
/-! DEFINITION. The requests that report: READ_IDENTITY, READ_STATUS, READ_QUEUE_SNAPSHOT, READ_COUNTERS, READ_ATTENTION, READ_MISS_RECORD,
READ_PARAMETER, and UNDEFINED_REQUEST (R137, R143 to R146, R155). -/

namespace Sys2Proof.Machine

/-- R182: the identity values. -/
def identityData (straps : Straps) : List Byte :=
  num16 Config.vendorCode ++ num16 Config.partCode ++ [num8 Config.revision, num8 Config.linkCount] ++ num16 Config.bufferCount
    ++ num16 Config.groupEntries ++ [straps.plane.zeroExtend 8, num8 straps.mgp.val, num8 straps.mgs.val]

/-- R143: Read Identity. -/
def answerReadIdentity (_ : Payload) (s : State) : Answer × State := (⟨.done, identityData s.straps⟩, s)

/-- READ_IDENTITY (R143). -/
def execReadIdentity (s : State) : Host.Outcome State Fault Refusal := .next (s.serve .readIdentity answerReadIdentity)

/-- A link-state code (R183). -/
def LinkState.code : LinkState → Nat
  | .disabled => 0 | .training => 1 | .up => 2 | .faulted => 3

/-- A fault-cause code (R183). -/
def FaultCause.code : FaultCause → Nat
  | .none => 0 | .training => 1 | .keepalive => 2 | .errors => 3

/-- The set of the links that have a property. -/
def setOf (member : Link → Bool) : LinkSet :=
  (List.finRange 32).foldl (fun acc l => if member l = true then acc ||| LinkSet.single l else acc) 0

/-- The state code of the link at a number. -/
def State.linkCodeAt (s : State) (n : Nat) : Nat := if h : n < 32 then (s.link ⟨n, h⟩).state.code else 0

/-- R187: the states of the links, two bits each. -/
def State.linkStateBytes (s : State) : List Byte :=
  (List.range 8).map fun k =>
    num8 (s.linkCodeAt (4 * k) + 4 * s.linkCodeAt (4 * k + 1) + 16 * s.linkCodeAt (4 * k + 2) + 64 * s.linkCodeAt (4 * k + 3))

/-- An operation state code (R187). -/
def OpState.code : OpState → Byte
  | .running => 0 | .done => 1 | .aborted => 2

/-- A table code (R183). -/
def Table.code : Table → Byte
  | .group => 0 | .destination => 1

/-- A role code (R183). -/
def Role.code : Role → Byte
  | .active => 0 | .standby => 1

/-- The four bytes of a digest value; free while it is absent, since the layout names them and the spec gives them no value (log entry 8). -/
def digestBytes (free : Nat → Byte) : Option (BitVec 32) → List Byte
  | some v => be32 v
  | none => [free 0, free 1, free 2, free 3]

/-- R187: an operation record as 16 bytes; `free` gives the bytes that have no value. -/
def opBytes (free : Nat → Byte) : Option OpRecord → List Byte
  | none => List.replicate 16 0
  | some ⟨st, progress, .fill bank e _ _ written⟩ =>
    [1, st.code, Table.code e.table, num8 bank.val, 0, 0] ++ num16 progress ++ num16 written ++ List.replicate 6 0
  | some ⟨st, progress, .copy source dest written asInitial⟩ =>
    [2, st.code, 2, num8 dest.val, num8 source.val, 0] ++ num16 progress ++ num16 written ++ num16 asInitial ++ List.replicate 4 0
  | some ⟨st, progress, .digest t bank role digested _ value⟩ =>
    [3, st.code, Table.code t, num8 bank.val, role.code, 0] ++ num16 progress ++ num16 digested ++ [flagByte value.isSome, 0] ++ digestBytes free value
  | some ⟨st, progress, .memtest tested failed first retired⟩ =>
    [4, st.code, 3, 0, 0, 0] ++ num16 progress ++ num16 tested ++ num16 failed ++ opt16 first ++ opt16 retired

/-- R187: the last swap epoch with its presence byte; 0 when absent. -/
def lastSwapBytes : Option Epoch → List Byte
  | none => [0, 0, 0]
  | some e => 1 :: be16 e

/-- R143, R187: the Read Status data from byte 4 on. The digest value stands at bytes 51 to 54. -/
def State.statusData (s : State) (l : Link) : List Byte :=
  let p := s.link l
  s.linkStateBytes
    ++ setBytes (setOf fun k => decide ((s.link k).state = .up) && (s.link k).disablePending)
    ++ [num8 l.val, num8 p.cause.code] ++ num16 p.budget ++ [num8 p.retrainCount, num8 p.farGap]
    ++ setBytes (setOf fun d => decide (slot s.tables.selectors d = .spare))
    ++ be16 s.epoch.number ++ [flagByte s.epoch.swapPending] ++ be16 s.epoch.target ++ lastSwapBytes s.epoch.lastSwap
    ++ [num8 s.tables.active.val] ++ num16 s.pool.free.length ++ num16 s.pool.retired.length
    ++ opBytes (fun i => s.freeByte (51 + i)) s.op ++ [num8 s.agent.queue.length]

/-- R143: Read Status. -/
def answerReadStatus (r : Payload) (s : State) : Answer × State :=
  match linkOf (recByte r 4) with
  | none => (.refuse .badRange, s)
  | some l => (⟨.done, s.statusData l⟩, s)

/-- READ_STATUS (R143). -/
def execReadStatus (s : State) : Host.Outcome State Fault Refusal := .next (s.serve .readStatus answerReadStatus)

/-- A mark-level code (R183). -/
def MarkLevel.code : MarkLevel → Byte
  | .none => 0 | .part => 1 | .full => 2

/-- A pause-state code (R183). -/
def PauseState.code : PauseState → Byte
  | .clear => 0 | .paused => 1

/-- R144: the snapshot record of a queue. -/
def OutQueue.snapshot (out : OutQueue) : List Byte := num16 out.entries.length ++ num16 out.average ++ [out.level.code, out.pause.code]

/-- R144: Read Queue Snapshot. -/
def answerReadQueueSnapshot (r : Payload) (s : State) : Answer × State :=
  match linkOf (recByte r 4) with
  | none => (.refuse .badRange, s)
  | some l => (⟨.done, num8 l.val :: (linkQueues l).flatMap fun q => (s.queue q).snapshot⟩, s)

/-- READ_QUEUE_SNAPSHOT (R144). -/
def execReadQueueSnapshot (s : State) : Host.Outcome State Fault Refusal := .next (s.serve .readQueueSnapshot answerReadQueueSnapshot)

/-- R175: the link counters in the table's order. -/
def LinkCounters.values (c : LinkCounters) : List Nat :=
  [c.goodCells, c.headerErrors, c.payloadErrors, c.overruns, c.noRoute, c.isolated, c.corruptRoute, c.unreachable, c.groupMisses, c.floorDrops,
   c.noCopies, c.testDrops, c.dataCellsTransmitted, c.aborted, c.retrains]

/-- R176: the queue counters in the table's order. -/
def QueueCounters.values (c : QueueCounters) : List Nat := [c.enqueued, c.tailDrops, c.flushed, c.marked]

/-- R176: the global counters in the table's order. -/
def GlobalCounters.values (c : GlobalCounters) : List Nat :=
  [c.epochSlips, c.straySyncs, c.strayCells, c.unpermitted, c.dropped, c.discarded, c.corruptFound, c.failOvers]

/-- R145: Read Counters. Groups: link 0, queue 1, global 2; a byte the group does not use is not read. -/
def answerReadCounters (r : Payload) (s : State) : Answer × State :=
  match (recByte r 4).toNat with
  | 0 =>
    match linkOf (recByte r 5) with
    | none => (.refuse .badRange, s)
    | some l =>
      (⟨.done, (s.link l).counters.values.flatMap num32⟩, if recClear r = true then s.countLink l fun _ => LinkCounters.zero else s)
  | 1 =>
    match linkOf (recByte r 5), classOf (recByte r 6) with
    | some l, some c =>
      (⟨.done, (s.queue (queueId l c)).counters.values.flatMap num32⟩,
        if recClear r = true then s.countQueue (queueId l c) fun _ => ⟨0, 0, 0, 0⟩ else s)
    | _, _ => (.refuse .badRange, s)
  | 2 =>
    (⟨.done, s.globals.values.flatMap num32⟩, if recClear r = true then s.countGlobal fun _ => ⟨0, 0, 0, 0, 0, 0, 0, 0⟩ else s)
  | _ => (.refuse .badRange, s)

/-- READ_COUNTERS (R145). -/
def execReadCounters (s : State) : Host.Outcome State Fault Refusal := .next (s.serve .readCounters answerReadCounters)

/-- R173, R187: the last-corrupt record at bytes 9 to 13; free bytes for the fields of an empty record (log entry 8). -/
def State.lastCorruptBytes (s : State) : List Byte :=
  match s.attn.lastCorrupt with
  | none => [0, s.freeByte 10, s.freeByte 11, s.freeByte 12, s.freeByte 13]
  | some c => [1, Table.code c.table, num8 c.bank.val] ++ num16 c.index

/-- R146, R180: Read Attention reports the flags, the link set and the last-corrupt record, and clears the flags and the link set. -/
def answerReadAttention (_ : Payload) (s : State) : Answer × State :=
  (⟨.done, [s.attn.flags] ++ setBytes s.attn.links ++ s.lastCorruptBytes⟩, { s with attn := { s.attn with flags := 0, links := 0 } })

/-- READ_ATTENTION (R180). -/
def execReadAttention (s : State) : Host.Outcome State Fault Refusal := .next (s.serve .readAttention answerReadAttention)

/-- R181, R187: the miss record at bytes 4 to 11; free bytes for the fields of an empty record (log entry 8). -/
def State.missBytes (s : State) : List Byte :=
  match s.attn.miss with
  | none => [0, s.freeByte 5, s.freeByte 6, s.freeByte 7, s.freeByte 8, s.freeByte 9, s.freeByte 10, s.freeByte 11]
  | some r => [1] ++ num16 r.group ++ [num8 r.link.val] ++ be16 r.epoch ++ num16 r.count

/-- R146, R181: Read Miss Record reports the record and empties it. -/
def answerReadMissRecord (_ : Payload) (s : State) : Answer × State :=
  (⟨.done, s.missBytes⟩, { s with attn := { s.attn with miss := none } })

/-- READ_MISS_RECORD (R146). -/
def execReadMissRecord (s : State) : Host.Outcome State Fault Refusal := .next (s.serve .readMissRecord answerReadMissRecord)

/-- R155: Read Parameter. -/
def answerReadParameter (r : Payload) (s : State) : Answer × State :=
  match paramOf (recByte r 4) (recByte r 5) with
  | none => (.refuse .badRange, s)
  | some p => (⟨.done, [recByte r 4, recByte r 5, 0, 0] ++ s.params.valueBytes p⟩, s)

/-- READ_PARAMETER (R155). -/
def execReadParameter (s : State) : Host.Outcome State Fault Refusal := .next (s.serve .readParameter answerReadParameter)

/-- R137: a request of undefined kind changes nothing. -/
def answerUndefined (_ : Payload) (s : State) : Answer × State := (.refuse .unknown, s)

/-- UNDEFINED_REQUEST (R137). -/
def execUndefinedRequest (s : State) : Host.Outcome State Fault Refusal := .next (s.serve .undefinedRequest answerUndefined)

end Sys2Proof.Machine
end

