-- ==== Sys2Proof/Machine/ControlRequests.lean ====
section
/-! DEFINITION. The requests that control the device: Link Control (ENABLE, DISABLE, FLUSH, RETRAIN), SCHEDULE_SWAP, CANCEL_SWAP, DATAPATH_RESET,
SEND_FLOW_STATUS_NOW, SET_MANAGEMENT_LINKS and SET_PARAMETER (R17 to R21, R78, R115, R125, R127, R135, R152, R154). -/

namespace Sys2Proof.Machine

/-- R152: the data of a Link Control that is DONE: the link, its state after the execution and disable-pending. -/
def linkControlDone (l : Link) (s : State) : Answer × State :=
  (⟨.done, [num8 l.val, num8 (s.link l).state.code, flagByte (s.link l).disablePending]⟩, s)

/-- R17: what Enable does to a link. -/
def State.enableLink (s : State) (l : Link) : State :=
  match (s.link l).state with
  | .disabled => s.enterTraining l .disabled
  | .faulted => (s.modLink l fun p => { p with retrainCount := 0 }).enterTraining l .faulted
  | .training => s
  | .up => s.modLink l fun p => { p with disablePending := false }

/-- R17: Enable. The range of link and action is judged first, then BUSY while a memory test is RUNNING. -/
def answerEnable (r : Payload) (s : State) : Answer × State :=
  match linkOf (recByte r 4) with
  | none => (.refuse .badRange, s)
  | some l =>
    if recByte r 5 ≠ 0 then (.refuse .badRange, s)
    else if s.memtestRunning = true then (.refuse .busy, s)
    else linkControlDone l (s.enableLink l)

/-- ENABLE (R17). A Link Control whose action names none of the four is answered here too (log entry 7). -/
def execEnable (s : State) : Host.Outcome State Fault Refusal := .next (s.serve .enable answerEnable)

/-- R18: what Disable does to a link. -/
def State.disableLink (s : State) (l : Link) : State :=
  match (s.link l).state with
  | .disabled => s
  | .training => s.enterDisabled l
  | .faulted => s.enterDisabled l
  | .up => if (s.link l).inFlight.isSome = true then s.modLink l fun p => { p with disablePending := true } else s.enterDisabled l

/-- R18: Disable. -/
def answerDisable (r : Payload) (s : State) : Answer × State :=
  match linkOf (recByte r 4) with
  | none => (.refuse .badRange, s)
  | some l => linkControlDone l (s.disableLink l)

/-- DISABLE (R18). -/
def execDisable (s : State) : Host.Outcome State Fault Refusal := .next (s.serve .disable answerDisable)

/-- R20: Flush. -/
def answerFlush (r : Payload) (s : State) : Answer × State :=
  match linkOf (recByte r 4) with
  | none => (.refuse .badRange, s)
  | some l => linkControlDone l (s.flushQueues (linkQueues l))

/-- FLUSH (R20). -/
def execFlush (s : State) : Host.Outcome State Fault Refusal := .next (s.serve .flush answerFlush)

/-- R21: Retrain, refused with BAD_STATE in DISABLED and TRAINING. -/
def answerRetrain (r : Payload) (s : State) : Answer × State :=
  match linkOf (recByte r 4) with
  | none => (.refuse .badRange, s)
  | some l =>
    if (s.link l).state = .disabled ∨ (s.link l).state = .training then (.refuse .badState, s)
    else linkControlDone l (s.retrainLink l)

/-- RETRAIN (R21). -/
def execRetrain (s : State) : Host.Outcome State Fault Refusal := .next (s.serve .retrain answerRetrain)

/-- R152: the data of a DONE Schedule Swap or Cancel Swap: E at the execution and the swap record as the request leaves it. -/
def swapDone (s : State) : Answer × State :=
  (⟨.done, be16 s.epoch.number ++ [flagByte s.epoch.swapPending] ++ be16 s.epoch.target⟩, s)

/-- R125: Schedule Swap, judged BAD_STATE, BUSY, BAD_RANGE. -/
def answerScheduleSwap (r : Payload) (s : State) : Answer × State :=
  let target : Epoch := recWord r 4
  let lead := (target - s.epoch.number).toNat
  if s.epoch.swapPending = true then (.refuse .badState, s)
  else if s.standbyWriterRunning = true then (.refuse .busy, s)
  else if lead < 2 ∨ 4096 < lead then (.refuse .badRange, s)
  else swapDone { s with epoch := { s.epoch with swapPending := true, target := target } }

/-- SCHEDULE_SWAP (R125). -/
def execScheduleSwap (s : State) : Host.Outcome State Fault Refusal := .next (s.serve .scheduleSwap answerScheduleSwap)

/-- R127: Cancel Swap. -/
def answerCancelSwap (_ : Payload) (s : State) : Answer × State :=
  if s.epoch.swapPending = true then swapDone { s with epoch := { s.epoch with swapPending := false } } else (.refuse .badState, s)

/-- CANCEL_SWAP (R127). -/
def execCancelSwap (s : State) : Host.Outcome State Fault Refusal := .next (s.serve .cancelSwap answerCancelSwap)

/-- R78 step 3: every receive buffer is emptied, its cells counted as flushed at ingress (R15). -/
def State.emptyReceiveBuffers (s : State) : State :=
  s.mapLinks fun _ p => { p with rxBuf := [], counters := { p.counters with overruns := bump p.counters.overruns p.rxBuf.length } }

/-- R78 step 4: every scheduler's WRR state is reset. Its mark counters are already 0 by the flush (R75). -/
def State.resetSchedulers (s : State) : State := s.mapLinks fun _ p => { p with wrrClass := .one, wrrCount := s.params.weight1 }

/-- All 128 queues in queue order. -/
def allQueues : List QueueId := List.finRange 128

/-- R78: Datapath Reset. -/
def State.resetDatapath (s : State) : State := ((s.abortOp.flushQueues allQueues).emptyReceiveBuffers).resetSchedulers

/-- R78, R152: Datapath Reset is answered DONE with no data. -/
def answerDatapathReset (_ : Payload) (s : State) : Answer × State := (⟨.done, []⟩, s.resetDatapath)

/-- DATAPATH_RESET (R78). -/
def execDatapathReset (s : State) : Host.Outcome State Fault Refusal := .next (s.serve .datapathReset answerDatapathReset)

/-- R115: a FLOWST is owed at once. -/
def answerSendFlowStatusNow (_ : Payload) (s : State) : Answer × State := (⟨.done, []⟩, s.oweFlowst)

/-- SEND_FLOW_STATUS_NOW (R115). -/
def execSendFlowStatusNow (s : State) : Host.Outcome State Fault Refusal := .next (s.serve .sendFlowStatusNow answerSendFlowStatusNow)

/-- R135: Set Management Links; the empty set is refused. -/
def answerSetManagementLinks (r : Payload) (s : State) : Answer × State :=
  if recSet r 16 = 0 then (.refuse .badRange, s)
  else (⟨.done, []⟩, { s with agent := { s.agent with permitted := recSet r 16 } })

/-- SET_MANAGEMENT_LINKS (R135). -/
def execSetManagementLinks (s : State) : Host.Outcome State Fault Refusal := .next (s.serve .setManagementLinks answerSetManagementLinks)

/-- R170: what a write of the scrub step does to its timer. -/
def scrubTimerAfterWrite (timer : Timer) (value : Nat) : Timer :=
  if value = 0 then .idle
  else match timer with
    | .idle => .running value
    | .running period => .running period

/-- The action an owning rule ties to the write of a parameter: the latch for the pool-low threshold (R69), the timer for the scrub step (R170).
`s` holds the new value. -/
def State.afterWrite (s : State) (p : Param) : State :=
  match p with
  | .poolLow => { s with pool := s.pool.relatch s.params.poolLow }
  | .scrubStep => { s with scrub := { s.scrub with timer := scrubTimerAfterWrite s.scrub.timer s.params.scrubStep } }
  | _ => s

/-- The first four data bytes of a Set Parameter answer: id and index echoed (R154, R187). -/
def parameterEcho (r : Payload) : List Byte := [recByte r 4, recByte r 5, 0, 0]

/-- R154: Set Parameter. The value in force is answered also where the value or the pair test is refused; where no parameter is named there is
none, and its bytes are free (log entry 8). -/
def answerSetParameter (r : Payload) (s : State) : Answer × State :=
  match paramOf (recByte r 4) (recByte r 5) with
  | none => (⟨.badRange, parameterEcho r ++ [s.freeByte 8, s.freeByte 9, s.freeByte 10, s.freeByte 11]⟩, s)
  | some p =>
    match s.params.store p r with
    | none => (⟨.badRange, parameterEcho r ++ s.params.valueBytes p⟩, s)
    | some params => (⟨.done, parameterEcho r ++ params.valueBytes p⟩, ({ s with params := params }).afterWrite p)

/-- SET_PARAMETER (R154). -/
def execSetParameter (s : State) : Host.Outcome State Fault Refusal := .next (s.serve .setParameter answerSetParameter)

end Sys2Proof.Machine
end

