-- ==== Sys2Proof/Machine/Egress.lean ====
section
/-! DEFINITION. NEXT_CELL_EVENT (R82 to R98): the end of the cell a link in UP is sending, and the choice of the next one. -/

namespace Sys2Proof.Machine

/-- Begin a non-data cell: it is being sent and counts toward the gap (R89). -/
def State.sendNonData (s : State) (l : Link) (kind : SentKind) (bytes : Cell) : State :=
  s.modLink l fun p => { p with sending := .cell kind bytes, gapCount := min Config.gapMax (p.gapCount + 1) }

/-- R139: the response held for a link is appended when its transmitter has taken an MRSP. -/
def State.placeHeld (s : State) (l : Link) : State :=
  match s.agent.held with
  | none => s
  | some c =>
    if c.link = l then
      { s.modLink l (fun p => { p with respQueue := p.respQueue ++ [c.record] }) with agent := { s.agent with held := none } }
    else s

/-- R84: the oldest MRSP leaves the response queue and is sent. -/
def State.sendMrsp (s : State) (l : Link) (record : Payload) (rest : List Payload) : State :=
  ((s.modLink l fun p => { p with respQueue := rest }).placeHeld l).sendNonData l .mrsp (mrspCell s.straps.plane record)

/-- R85: an ATTN cell with the flags, link set and epoch as they stand. -/
def State.sendAttn (s : State) (l : Link) : State :=
  (s.modLink l fun p => { p with pendAttn := false }).sendNonData l .attn
    (attnCell s.straps.plane s.epoch.number s.attn.flags s.attn.links)

/-- Whether the queue at a number of queue order is PAUSED (R86). -/
def State.pausedAt (s : State) (n : Nat) : Bool := if h : n < 128 then decide ((s.queue ⟨n, h⟩).pause = .paused) else false

/-- R86: a FLOWST cell with the epoch and the paused set of the whole device. -/
def State.sendFlowst (s : State) (l : Link) : State :=
  (s.modLink l fun p => { p with pendFlowst := false }).sendNonData l .flowst (flowstCell s.straps.plane s.epoch.number s.pausedAt)

/-- R87: an IDLE cell. -/
def State.sendIdle (s : State) (l : Link) : State := s.sendNonData l .idle (idleCell s.straps.plane)

/-- The class a WRR class stands for. -/
def WrrClass.toClass : WrrClass → Class
  | .one => 1
  | .two => 2
  | .three => 3

/-- The next class in the cycle 1, 2, 3, 1 (R91). -/
def WrrClass.next : WrrClass → WrrClass
  | .one => .two
  | .two => .three
  | .three => .one

/-- Whether Q(L,c) holds an entry. -/
def State.waiting (s : State) (l : Link) (c : Class) : Bool := !(s.queue (queueId l c)).entries.isEmpty

/-- R91: the WRR walk with at most `advances` advances. It answers the class selected from and the remaining count left. -/
def State.wrrWalk (s : State) (l : Link) : Nat → WrrClass → Nat → Option (WrrClass × Nat)
  | advances, k, r =>
    if s.waiting l k.toClass = true ∧ 0 < r then some (k, r - 1)
    else match advances with
      | 0 => none
      | n + 1 => s.wrrWalk l n k.next (s.params.weight k.next)

/-- R94: the marking decision for a queue: whether it marks the cell, and the mark counter it leaves. -/
def markDecision (m : Nat) (level : MarkLevel) (count : Nat) : Bool × Nat :=
  match level with
  | .full => (true, count)
  | .part => if 2 ^ m ≤ count + 1 then (true, 0) else (false, count + 1)
  | .none => (false, 0)

/-- R93, R94, R96: the head entry of Q(L,c) is selected and becomes the in-flight data cell. -/
def State.selectFrom (s : State) (l : Link) (c : Class) : Host.Outcome State Fault Refusal :=
  match (s.queue (queueId l c)).entries with
  | [] => .fault .schedulerStuck
  | e :: rest =>
    match s.pool.stored e.handle with
    | none => .fault .noStoredCell
    | some cell =>
      let out := s.queue (queueId l c)
      let decision := markDecision s.params.m out.level out.markCount
      let mark := e.arrivedMarked || decision.1
      let taken := s.setQueue (queueId l c)
        { out with entries := rest, markCount := decision.2,
                   counters := { out.counters with marked := if mark = true then bump out.counters.marked 1 else out.counters.marked } }
      .next (taken.modLink l fun p =>
        { p with inFlight := some e.handle, sending := .cell .data (egressCell cell mark), gapCount := 0 })

/-- R90, R91: a data cell, class 0 strictly first and the others by weighted round robin. -/
def State.sendData (s : State) (l : Link) : Host.Outcome State Fault Refusal :=
  if s.waiting l 0 = true then s.selectFrom l 0
  else match s.wrrWalk l 3 (s.link l).wrrClass (s.link l).wrrCount with
    | none => .fault .schedulerStuck
    | some (k, r) => (s.modLink l fun p => { p with wrrClass := k, wrrCount := r }).selectFrom l k.toClass

/-- R88: the effective gap. -/
def State.effectiveGap (s : State) (l : Link) : Nat := max (slot s.params.gap l) (s.link l).farGap

/-- R83 order 4: some queue of the link is non-empty and the gap count has reached the effective gap. -/
def State.dataReady (s : State) (l : Link) : Bool :=
  (s.waiting l 0 || s.waiting l 1 || s.waiting l 2 || s.waiting l 3) && decide (s.effectiveGap l ≤ (s.link l).gapCount)

/-- R83, orders 3 to 5. -/
def State.chooseAfterAttn (s : State) (l : Link) : Host.Outcome State Fault Refusal :=
  if (s.link l).pendFlowst = true then .next (s.sendFlowst l)
  else if s.dataReady l = true then s.sendData l
  else .next (s.sendIdle l)

/-- R83: the next cell. On a link no longer permitted the pending ATTN flag is dropped and the choice goes on (R85). -/
def State.chooseNext (s : State) (l : Link) : Host.Outcome State Fault Refusal :=
  match (s.link l).respQueue with
  | record :: rest => .next (s.sendMrsp l record rest)
  | [] =>
    if (s.link l).pendAttn = true then
      if LinkSet.has s.agent.permitted l = true then .next (s.sendAttn l)
      else (s.modLink l fun p => { p with pendAttn := false }).chooseAfterAttn l
    else s.chooseAfterAttn l

/-- R16, R96: the normal end of an in-flight data cell. -/
def State.endData (s : State) (l : Link) (h : Handle) : State :=
  (s.release h).modLink l fun p =>
    { p with inFlight := none, counters := { p.counters with dataCellsTransmitted := bump p.counters.dataCellsTransmitted 1 } }

/-- R82, R19: the end of the cell being sent; a data cell whose end resolves disable-pending is followed by no choice. -/
def State.nextCell (s : State) (l : Link) : Host.Outcome State Fault Refusal :=
  match (s.link l).inFlight with
  | none => s.chooseNext l
  | some h =>
    if (s.link l).disablePending = true then .next ((s.endData l h).enterDisabled l) else (s.endData l h).chooseNext l

/-- NEXT_CELL_EVENT (R82). A link outside UP has none (log entry 1). -/
def execNextCellEvent (link : Link) (s : State) : Host.Outcome State Fault Refusal :=
  if s.rstN = true ∧ (s.link link).state = .up then s.nextCell link else .next s

end Sys2Proof.Machine
end

