-- ==== Sys2Proof/Machine/LinkEvents.lean ====
section
/-! DEFINITION. CELL_ARRIVAL and the expiries of a link port's timers (R2 to R15, R122, R134). -/

namespace Sys2Proof.Machine

/-- R11: a bad cell in UP adds to the error budget; at the threshold the link enters FAULTED. -/
def State.badCell (s : State) (l : Link) : State :=
  let charged := s.modLink l fun p => { p with budget := min Config.budgetMax (p.budget + Config.budgetStep) }
  if s.params.budgetThreshold ≤ (charged.link l).budget then charged.enterFaulted l .errors else charged

/-- R15: a good data cell in UP is appended to the receive buffer, or overruns it. -/
def State.receiveData (s : State) (l : Link) (cell : Cell) : State :=
  if (s.link l).rxBuf.length < Config.rxDepth then s.modLink l fun p => { p with rxBuf := p.rxBuf ++ [cell] }
  else s.countLink l fun c => { c with overruns := bump c.overruns 1 }

/-- R134: a good MREQ is checked for permission and room, then queued with its arrival link. -/
def State.arriveRequest (s : State) (l : Link) (cell : Cell) : State :=
  if LinkSet.has s.agent.permitted l = false then s.countGlobal fun g => { g with unpermitted := bump g.unpermitted 1 }
  else if Config.requestDepth ≤ s.agent.queue.length then
    (s.countGlobal fun g => { g with dropped := bump g.dropped 1 }).raise .requestDropped
  else { s with agent := { s.agent with queue := s.agent.queue ++ [⟨l, cellPayload cell⟩] } }

/-- R122, R123: a SYNC with the number n. -/
def State.arriveSync (s : State) (l : Link) (n : Epoch) : State :=
  if s.params.timingLink ≠ some l then s.countGlobal fun g => { g with straySyncs := bump g.straySyncs 1 }
  else if n = s.epoch.number then s.restartEpochTimer
  else
    let stepped := ({ s with epoch := { s.epoch with number := n } }).restartEpochTimer
    if n = s.epoch.number + 1 then stepped.epochChange
    else ((stepped.countGlobal fun g => { g with epochSlips := bump g.epochSlips 1 }).raise .epochSlip).epochChange

/-- R3: delivery of a good cell in UP by its kind. -/
def State.deliver (s : State) (l : Link) (kind : CellKind) (cell : Cell) : State :=
  match kind with
  | .ucast => s.receiveData l cell
  | .mcast => s.receiveData l cell
  | .mreq => s.arriveRequest l cell
  | .sync => s.arriveSync l (syncEpoch cell)
  | .idle => s
  | .flowst => s.countGlobal fun g => { g with strayCells := bump g.strayCells 1 }
  | .mrsp => s.countGlobal fun g => { g with strayCells := bump g.strayCells 1 }
  | .attn => s.countGlobal fun g => { g with strayCells := bump g.strayCells 1 }

/-- R2, R3: a header error. -/
def State.arriveHeaderError (s : State) (l : Link) : State :=
  let counted := s.countLink l fun c => { c with headerErrors := bump c.headerErrors 1 }
  match (s.link l).state with
  | .training => counted.modLink l fun p => { p with trainCount := 0 }
  | .up => counted.badCell l
  | .faulted => counted
  | .disabled => s

/-- R7, R9: a cell with a good header in TRAINING. -/
def State.train (s : State) (l : Link) (kind : CellKind) : State :=
  if kind = .idle then
    let counted := s.modLink l fun p => { p with trainCount := p.trainCount + 1 }
    if Config.trainingTarget ≤ (counted.link l).trainCount then counted.enterUp l else counted
  else s.modLink l fun p => { p with trainCount := 0 }

/-- R10, R11, R3: a good cell in UP. -/
def State.arriveGood (s : State) (l : Link) (kind : CellKind) (cell : Cell) : State :=
  let credited := s.modLink l fun p =>
    { p with budget := p.budget - 1,
             counters := if kind = .idle then p.counters else { p.counters with goodCells := bump p.counters.goodCells 1 } }
  credited.deliver l kind cell

/-- R2 to R4, R10: a cell with a good header and a defined kind. -/
def State.arriveGoodHeader (s : State) (l : Link) (kind : CellKind) (cell : Cell) : State :=
  let payloadGood := payloadCheckGood cell
  let judged := s.countLink l fun c => if payloadGood = true then c else { c with payloadErrors := bump c.payloadErrors 1 }
  match (s.link l).state with
  | .training => (judged.modLink l fun p => { p with farGap := cellGap cell }).train l kind
  | .up =>
    let paced := judged.modLink l fun p => { p with farGap := cellGap cell, keepalive := .running s.params.keepalive }
    if payloadGood = true then paced.arriveGood l kind cell else paced.badCell l
  | .faulted => judged
  | .disabled => s

/-- CELL_ARRIVAL (R2, R3): a complete cell on a link. A DISABLED link ignores it. -/
def execCellArrival (link : Link) (cell : Cell) (s : State) : Host.Outcome State Fault Refusal :=
  .next (
    if s.rstN = false ∨ (s.link link).state = .disabled then s
    else match goodHeaderKind cell with
      | none => s.arriveHeaderError link
      | some kind => s.arriveGoodHeader link kind cell)

/-- TRAINING_WINDOW_EXPIRY (R8). The window runs only in TRAINING (log entry 1). -/
def execTrainingWindowExpiry (link : Link) (s : State) : Host.Outcome State Fault Refusal :=
  .next (if s.rstN = true ∧ (s.link link).state = .training ∧ (s.link link).window ≠ .idle then s.enterFaulted link .training else s)

/-- KEEPALIVE_EXPIRY (R10). The keepalive runs only in UP (log entry 1). -/
def execKeepaliveExpiry (link : Link) (s : State) : Host.Outcome State Fault Refusal :=
  .next (if s.rstN = true ∧ (s.link link).state = .up ∧ (s.link link).keepalive ≠ .idle then s.enterFaulted link .keepalive else s)

/-- HOLD_OFF_EXPIRY (R13). The hold-off runs only in FAULTED (log entry 1). -/
def execHoldOffExpiry (link : Link) (s : State) : Host.Outcome State Fault Refusal :=
  .next (
    if s.rstN = true ∧ (s.link link).state = .faulted ∧ (s.link link).holdOff ≠ .idle then
      if s.params.retrainLimit = 0 ∨ (s.link link).retrainCount < s.params.retrainLimit then s.enterTraining link .faulted
      else s.modLink link fun p => { p with holdOff := .idle }
    else s)

end Sys2Proof.Machine
end

