-- ==== Sys2Proof/Machine/LongOps.lean ====
section
/-! DEFINITION. The steps of the Operation Unit: FILL_STEP, COPY_STEP, DIGEST_STEP, MEMTEST_STEP (R158 to R167). A step comes only while an
operation of its kind is RUNNING (log entry 1). -/

namespace Sys2Proof.Machine

/-- R160: a Fill step writes the carried entry at the index named by progress; the one at the last index ends the Fill. -/
def State.fillStep (s : State) : State :=
  match s.op with
  | some ⟨.running, at', .fill bank e first last written⟩ =>
    let stepped := s.writeEntry bank at' e
    if at' < last then stepped.continueOp (at' + 1) (.fill bank e first last (written + 1))
    else stepped.endOp (at' + 1) (.fill bank e first last (written + 1))
  | _ => s

/-- FILL_STEP (R160). -/
def execFillStep (s : State) : Host.Outcome State Fault Refusal := .next (if s.rstN = true then s.fillStep else s)

/-- R162: the table and index of a copy position. -/
def copyItem (position : Nat) : Table × Nat :=
  if position < 4096 then (.group, position) else (.destination, position - 4096)

/-- R163: whether a Copy writes the initial entry, for a source whose State is CORRUPT or names no state of the table. -/
def EntryFields.copiedAsInitial (e : EntryFields) : Bool := e.isCorrupt || e.stateUndefined

/-- R162, R163: a Copy step. -/
def State.copyStep (s : State) : State :=
  match s.op with
  | some ⟨.running, at', .copy source dest written asInitial⟩ =>
    let item := copyItem at'
    let e := (s.entry item.1 source item.2).fields
    let initial := EntryFields.copiedAsInitial e
    let stepped := s.writeEntry dest item.2 (if initial = true then initialEntry item.1 else e)
    let w := Work.copy source dest (written + 1) (if initial = true then asInitial + 1 else asInitial)
    if at' + 1 < Config.copyItems then stepped.continueOp (at' + 1) w else stepped.endOp (at' + 1) w
  | _ => s

/-- COPY_STEP (R163). -/
def execCopyStep (s : State) : Host.Outcome State Fault Refusal := .next (if s.rstN = true then s.copyStep else s)

/-- R164: a Digest step feeds the serialization of the next entry into the register; the last gives the digest value. -/
def State.digestStep (s : State) : State :=
  match s.op with
  | some ⟨.running, at', .digest t bank role digested register _⟩ =>
    let fed := digestFeed register (s.entry t bank at').fields.serialize
    if at' + 1 < t.size then s.continueOp (at' + 1) (.digest t bank role (digested + 1) fed none)
    else s.endOp (at' + 1) (.digest t bank role (digested + 1) fed (some (digestValue fed)))
  | _ => s

/-- DIGEST_STEP (R164). -/
def execDigestStep (s : State) : Host.Outcome State Fault Refusal := .next (if s.rstN = true then s.digestStep else s)

/-- R166, R167: a Memory Test step applies the verdict on the handle named by progress; the one for the last handle rebuilds the free list. -/
def State.memtestStep (s : State) (passes : Bool) : State :=
  match s.op with
  | some ⟨.running, at', .memtest tested failed first _⟩ =>
    let failed' := if passes = true then failed else failed + 1
    let first' := if passes = true then first else some (first.getD at')
    let judged := { s with pool := s.pool.verdict at' passes }
    if at' + 1 < Config.bufferCount then judged.continueOp (at' + 1) (.memtest (tested + 1) failed' first' none)
    else
      ({ judged with pool := judged.pool.rebuild s.params.poolLow }).endOp (at' + 1)
        (.memtest (tested + 1) failed' first' (some judged.pool.retired.length))
  | _ => s

/-- MEMTEST_STEP (R166). -/
def execMemtestStep (passes : Bool) (s : State) : Host.Outcome State Fault Refusal :=
  .next (if s.rstN = true then s.memtestStep passes else s)

end Sys2Proof.Machine
end

