-- ==== Sys2Proof/Machine/ResetEvents.lean ====
section
/-! DEFINITION. RST_N_RISE and RST_N_FALL (R189, R190). -/

namespace Sys2Proof.Machine

/-- RST_N_RISE (R190, R189): every item takes its power-on value, the straps are sampled, every link enters TRAINING and the timers start.
A rise comes only while RST_N is low (log entry 1). -/
def execRstNRise (plane : BitVec 3) (mgp mgs : Link) (s : State) : Host.Outcome State Fault Refusal :=
  .next (if s.rstN = true then s else { State.powerOn ⟨plane, mgp, mgs⟩ with freeCtr := s.freeCtr, pending := s.pending })

/-- A link port while RST_N is low: no timer runs and the transmitter sends nothing (R190). -/
def LinkPort.heldInReset (plane : BitVec 3) : LinkPort := { LinkPort.powerOn plane with window := .idle, sending := .nothing }

/-- The block while RST_N is low (R190; log entry 2): held in reset, no timer running, the sampled straps kept (R189). -/
def State.heldInReset (s : State) : State :=
  let items := State.powerOn s.straps
  { items with
    rstN := false
    links := Vector.replicate 32 (LinkPort.heldInReset s.straps.plane)
    monitor := { items.monitor with timer := .idle }
    epoch := { items.epoch with timer := .idle }
    scrub := { items.scrub with timer := .idle }
    freeCtr := s.freeCtr
    pending := s.pending }

/-- RST_N_FALL (R190): all activity ends at once; nothing is counted, flagged or ended. -/
def execRstNFall (s : State) : Host.Outcome State Fault Refusal :=
  .next (if s.rstN = true then s.heldInReset else s)

end Sys2Proof.Machine
end

