-- ==== Sys2Proof/Machine/TableEvents.lean ====
section
/-! DEFINITION. SCRUB_STEP (R170, R171) and TABLE_DISTURBANCE (R28). -/

namespace Sys2Proof.Machine

/-- R171: the entry at a position of scrub order, counted from 0. -/
def scrubEntry (position : Nat) : Table × Bank × Nat :=
  if position < 4096 then (.group, 0, position)
  else if position < 4128 then (.destination, 0, position - 4096)
  else if position < 8224 then (.group, 1, position - 4128)
  else (.destination, 1, position - 8224)

/-- The scrub step timer restarted with the parameter's value; a value of 0 leaves it IDLE (R170). -/
def scrubTimer (period : Nat) : Timer := if period = 0 then .idle else .running period

/-- R171: a visit verifies the entry at the cursor, or passes it over if CORRUPT, and moves the cursor to the next position. -/
def State.scrubVisit (s : State) : State :=
  let e := scrubEntry s.scrub.cursor.val
  let moved := { s with scrub := ⟨s.scrub.cursor + 1, scrubTimer s.params.scrubStep⟩ }
  (moved.verify e.1 e.2.1 e.2.2).2

/-- SCRUB_STEP (R170): one visit, and the timer is restarted. -/
def execScrubStep (s : State) : Host.Outcome State Fault Refusal :=
  .next (if s.rstN = true ∧ s.scrub.timer ≠ .idle then s.scrubVisit else s)

/-- TABLE_DISTURBANCE (R28): the stored content and check code of an entry are altered; nothing records it. An index past the table's end
names no stored entry, so nothing is altered. -/
def execTableDisturbance (bank : Bank) (index : Nat) (content : EntryFields) (code : Byte) (s : State) : Host.Outcome State Fault Refusal :=
  .next (if index < content.table.size then s.putEntry bank index content code else s)

end Sys2Proof.Machine
end

