-- ==== Sys2Proof/Machine/TableRequests.lean ====
section
/-! DEFINITION. The requests on the tables and the long requests: READ_ENTRIES, WRITE_ENTRIES, REPAIR_ENTRY, FILL_ENTRIES, COPY_BANK,
DIGEST_BANK, START_MEMORY_TEST (R147 to R151). -/

namespace Sys2Proof.Machine

/-- R147, R148: a count of 1..6 and a range that ends inside the table. -/
def rangeGood (t : Table) (first count : Nat) : Bool := decide (1 ≤ count) && decide (count ≤ 6) && decide (first + count ≤ t.size)

/-- R147: the entries of a range as stored, in ascending index. -/
def State.entriesBytes (s : State) (t : Table) (b : Bank) (first count : Nat) : List Byte :=
  (List.range count).flatMap fun k => (s.entry t b (first + k)).fields.serialize

/-- R147: Read Entries. -/
def answerReadEntries (r : Payload) (s : State) : Answer × State :=
  match tableOf (recByte r 4), roleOf (recByte r 5) with
  | some t, some role =>
    let first := (recWord r 6).toNat
    let count := (recByte r 8).toNat
    if rangeGood t first count = false then (.refuse .badRange, s)
    else if s.writerCovers t (s.bankOf role) = true then (.refuse .busy, s)
    else (⟨.done, [num8 (s.bankOf role).val, 0, 0, 0] ++ s.entriesBytes t (s.bankOf role) first count⟩, s)
  | _, _ => (.refuse .badRange, s)

/-- READ_ENTRIES (R147). -/
def execReadEntries (s : State) : Host.Outcome State Fault Refusal := .next (s.serve .readEntries answerReadEntries)

/-- The entry carried at place k of a request's data (R187). -/
def carriedEntry (r : Payload) (t : Table) (k : Nat) : EntryFields := recEntry r t (16 + 8 * k)

/-- R148: the carried entries written from an index on, each with a fresh check code. -/
def State.writeRange (s : State) (b : Bank) (first count : Nat) (e : Nat → EntryFields) : State :=
  (List.range count).foldl (fun acc k => acc.writeEntry b (first + k) (e k)) s

/-- R148: Write Entries, judged BAD_RANGE, BAD_STATE, BUSY. -/
def answerWriteEntries (r : Payload) (s : State) : Answer × State :=
  match tableOf (recByte r 4) with
  | none => (.refuse .badRange, s)
  | some t =>
    let first := (recWord r 6).toNat
    let count := (recByte r 8).toNat
    let bank := s.bankOf .standby
    if rangeGood t first count = false then (.refuse .badRange, s)
    else if (List.range count).all (fun k => (carriedEntry r t k).carriedGood) = false then (.refuse .badRange, s)
    else if s.epoch.swapPending = true then (.refuse .badState, s)
    else if s.writerCovers t bank = true ∨ s.digestCovers t bank = true then (.refuse .busy, s)
    else (⟨.done, [num8 bank.val]⟩, s.writeRange bank first count (carriedEntry r t))

/-- WRITE_ENTRIES (R148). -/
def execWriteEntries (s : State) : Host.Outcome State Fault Refusal := .next (s.serve .writeEntries answerWriteEntries)

/-- R39: the selector of a repaired destination is set by the rule of R36. -/
def State.reselectOne (s : State) (n : Nat) : State :=
  if h : n < 32 then { s with tables := { s.tables with selectors := setSlot s.tables.selectors ⟨n, h⟩ (s.reselected ⟨n, h⟩) } } else s

/-- R149, R39: the repair of an entry of the active bank. -/
def State.repair (s : State) (t : Table) (i : Nat) (e : EntryFields) : State :=
  let written := s.writeEntry s.tables.active i e
  match t with
  | .group => written
  | .destination => written.reselectOne i

/-- R149: Repair Entry, judged BAD_RANGE, BUSY, BAD_STATE. -/
def answerRepairEntry (r : Payload) (s : State) : Answer × State :=
  match tableOf (recByte r 4) with
  | none => (.refuse .badRange, s)
  | some t =>
    let index := (recWord r 6).toNat
    let e := carriedEntry r t 0
    if t.size ≤ index ∨ e.carriedGood = false then (.refuse .badRange, s)
    else if s.digestCovers t s.tables.active = true then (.refuse .busy, s)
    else if (s.entry t s.tables.active index).fields.isCorrupt = false then (.refuse .badState, s)
    else (⟨.done, [num8 s.tables.active.val]⟩, s.repair t index e)

/-- REPAIR_ENTRY (R149). -/
def execRepairEntry (s : State) : Host.Outcome State Fault Refusal := .next (s.serve .repairEntry answerRepairEntry)

/-- R150: a long operation starts; the response reports the new record, its digest value absent (bytes 16 to 19). -/
def startOp (s : State) (progress : Nat) (w : Work) : Answer × State :=
  (⟨.accepted, opBytes (fun i => s.freeByte (16 + i)) (some ⟨.running, progress, w⟩)⟩, s.continueOp progress w)

/-- R151: Fill Entries, judged BAD_RANGE, BAD_STATE, BUSY. -/
def answerFillEntries (r : Payload) (s : State) : Answer × State :=
  match tableOf (recByte r 4) with
  | none => (.refuse .badRange, s)
  | some t =>
    let first := (recWord r 6).toNat
    let last := (recWord r 8).toNat
    let e := carriedEntry r t 0
    if last < first ∨ t.size ≤ last ∨ e.carriedGood = false then (.refuse .badRange, s)
    else if s.epoch.swapPending = true then (.refuse .badState, s)
    else if s.opRunning = true then (.refuse .busy, s)
    else startOp s first (.fill (s.bankOf .standby) e first last 0)

/-- FILL_ENTRIES (R151). -/
def execFillEntries (s : State) : Host.Outcome State Fault Refusal := .next (s.serve .fillEntries answerFillEntries)

/-- R151: Copy Bank, judged BAD_STATE, BUSY. -/
def answerCopyBank (_ : Payload) (s : State) : Answer × State :=
  if s.epoch.swapPending = true then (.refuse .badState, s)
  else if s.opRunning = true then (.refuse .busy, s)
  else startOp s 0 (.copy s.tables.active (s.bankOf .standby) 0 0)

/-- COPY_BANK (R151). -/
def execCopyBank (s : State) : Host.Outcome State Fault Refusal := .next (s.serve .copyBank answerCopyBank)

/-- R151: Digest Bank, judged BAD_RANGE, BUSY. -/
def answerDigestBank (r : Payload) (s : State) : Answer × State :=
  match tableOf (recByte r 4), roleOf (recByte r 5) with
  | some t, some role =>
    if s.opRunning = true then (.refuse .busy, s) else startOp s 0 (.digest t (s.bankOf role) role 0 digestStart none)
  | _, _ => (.refuse .badRange, s)

/-- DIGEST_BANK (R151). -/
def execDigestBank (s : State) : Host.Outcome State Fault Refusal := .next (s.serve .digestBank answerDigestBank)

/-- R151, R166: Start Memory Test, judged BUSY, BAD_STATE; every free handle moves to the under-test set. -/
def answerStartMemoryTest (_ : Payload) (s : State) : Answer × State :=
  if s.opRunning = true then (.refuse .busy, s)
  else if s.pool.free.length + s.pool.retired.length ≠ Config.bufferCount then (.refuse .badState, s)
  else startOp { s with pool := s.pool.startTest s.params.poolLow } 0 (.memtest 0 0 none none)

/-- START_MEMORY_TEST (R166). -/
def execStartMemoryTest (s : State) : Host.Outcome State Fault Refusal := .next (s.serve .startMemoryTest answerStartMemoryTest)

end Sys2Proof.Machine
end

