-- ==== Sys2Proof/Machine/TimeEvents.lean ====
section
/-! DEFINITION. EPOCH_TIMER_EXPIRY and ATTENTION_HOLD_OFF_EXPIRY (R119, R120, R179). -/

namespace Sys2Proof.Machine

/-- EPOCH_TIMER_EXPIRY (R119): E becomes (E + 1) mod 65536, the timer is restarted and an epoch change is made. -/
def execEpochTimerExpiry (s : State) : Host.Outcome State Fault Refusal :=
  .next (
    if s.rstN = true ∧ s.epoch.timer ≠ .idle then
      (({ s with epoch := { s.epoch with number := s.epoch.number + 1 } }).restartEpochTimer).epochChange
    else s)

/-- R179: what the expiry of the attention hold-off timer does. -/
def State.attentionExpiry (s : State) : State :=
  if s.attn.raisedWhileRunning = true then
    let flagged := s.pendAttention
    { flagged with attn := { s.attn with timer := .running s.params.attnHoldOff, raisedWhileRunning := false } }
  else { s with attn := { s.attn with timer := .idle } }

/-- ATTENTION_HOLD_OFF_EXPIRY (R179). -/
def execAttentionHoldOffExpiry (s : State) : Host.Outcome State Fault Refusal :=
  .next (if s.rstN = true ∧ s.attn.timer ≠ .idle then s.attentionExpiry else s)

end Sys2Proof.Machine
end

