-- ==== Sys2Proof/Machine/Dispatch.lean ====
section
/-! DEFINITION. The meaning of every command: one arm per row of spec/opcode_table.json, in the table's order. -/

namespace Sys2Proof.Machine

def exec (i : Instr) (s : State) : Host.Outcome State Fault Refusal :=
  match i with
  | .rstNRise plane mgp mgs => Sys2Proof.Machine.execRstNRise plane mgp mgs s
  | .rstNFall => Sys2Proof.Machine.execRstNFall s
  | .cellArrival link cell => Sys2Proof.Machine.execCellArrival link cell s
  | .trainingWindowExpiry link => Sys2Proof.Machine.execTrainingWindowExpiry link s
  | .keepaliveExpiry link => Sys2Proof.Machine.execKeepaliveExpiry link s
  | .holdOffExpiry link => Sys2Proof.Machine.execHoldOffExpiry link s
  | .admission => Sys2Proof.Machine.execAdmission s
  | .nextCellEvent link => Sys2Proof.Machine.execNextCellEvent link s
  | .monitorStep => Sys2Proof.Machine.execMonitorStep s
  | .coalescingTimerExpiry => Sys2Proof.Machine.execCoalescingTimerExpiry s
  | .epochTimerExpiry => Sys2Proof.Machine.execEpochTimerExpiry s
  | .attentionHoldOffExpiry => Sys2Proof.Machine.execAttentionHoldOffExpiry s
  | .scrubStep => Sys2Proof.Machine.execScrubStep s
  | .tableDisturbance bank index content code => Sys2Proof.Machine.execTableDisturbance bank index content code s
  | .fillStep => Sys2Proof.Machine.execFillStep s
  | .copyStep => Sys2Proof.Machine.execCopyStep s
  | .digestStep => Sys2Proof.Machine.execDigestStep s
  | .memtestStep passes => Sys2Proof.Machine.execMemtestStep passes s
  | .readIdentity => Sys2Proof.Machine.execReadIdentity s
  | .readStatus => Sys2Proof.Machine.execReadStatus s
  | .readQueueSnapshot => Sys2Proof.Machine.execReadQueueSnapshot s
  | .readCounters => Sys2Proof.Machine.execReadCounters s
  | .readAttention => Sys2Proof.Machine.execReadAttention s
  | .readMissRecord => Sys2Proof.Machine.execReadMissRecord s
  | .readEntries => Sys2Proof.Machine.execReadEntries s
  | .writeEntries => Sys2Proof.Machine.execWriteEntries s
  | .repairEntry => Sys2Proof.Machine.execRepairEntry s
  | .fillEntries => Sys2Proof.Machine.execFillEntries s
  | .copyBank => Sys2Proof.Machine.execCopyBank s
  | .digestBank => Sys2Proof.Machine.execDigestBank s
  | .startMemoryTest => Sys2Proof.Machine.execStartMemoryTest s
  | .enable => Sys2Proof.Machine.execEnable s
  | .disable => Sys2Proof.Machine.execDisable s
  | .flush => Sys2Proof.Machine.execFlush s
  | .retrain => Sys2Proof.Machine.execRetrain s
  | .scheduleSwap => Sys2Proof.Machine.execScheduleSwap s
  | .cancelSwap => Sys2Proof.Machine.execCancelSwap s
  | .datapathReset => Sys2Proof.Machine.execDatapathReset s
  | .sendFlowStatusNow => Sys2Proof.Machine.execSendFlowStatusNow s
  | .setManagementLinks => Sys2Proof.Machine.execSetManagementLinks s
  | .setParameter => Sys2Proof.Machine.execSetParameter s
  | .readParameter => Sys2Proof.Machine.execReadParameter s
  | .undefinedRequest => Sys2Proof.Machine.execUndefinedRequest s

end Sys2Proof.Machine
end

