-- ==== Sys2Proof/Safety.lean ====
section
/-! DEFINITION. What counts as a lawful state, in the terms the statements use: the laws the manual calls laws of the device and the ranges it
gives its items, one predicate for each kind of state; and the words in which statements speak of requests. -/

/-- A command of the RST_N pin (R190), at which every item takes another value. -/
def Sys2Proof.Instr.isReset : Sys2Proof.Instr → Bool
  | .rstNRise _ _ _ => true
  | .rstNFall => true
  | _ => false

/-- The row of the table whose requests a command of the Management Agent executes. -/
def Sys2Proof.Instr.serves : Sys2Proof.Instr → Option Sys2Proof.Machine.RequestRow
  | .readIdentity => some .readIdentity
  | .readStatus => some .readStatus
  | .readQueueSnapshot => some .readQueueSnapshot
  | .readCounters => some .readCounters
  | .readAttention => some .readAttention
  | .readMissRecord => some .readMissRecord
  | .readEntries => some .readEntries
  | .writeEntries => some .writeEntries
  | .repairEntry => some .repairEntry
  | .fillEntries => some .fillEntries
  | .copyBank => some .copyBank
  | .digestBank => some .digestBank
  | .startMemoryTest => some .startMemoryTest
  | .enable => some .enable
  | .disable => some .disable
  | .flush => some .flush
  | .retrain => some .retrain
  | .scheduleSwap => some .scheduleSwap
  | .cancelSwap => some .cancelSwap
  | .datapathReset => some .datapathReset
  | .sendFlowStatusNow => some .sendFlowStatusNow
  | .setManagementLinks => some .setManagementLinks
  | .setParameter => some .setParameter
  | .readParameter => some .readParameter
  | .undefinedRequest => some .undefinedRequest
  | _ => none

namespace Sys2Proof.Machine

/-! ### Power-on -/

/-- Every item stands at its power-on value (R5, R23, R35, R41, 04 tables, R81, R99, R111, R118, R133, R153, R157, R171, R174, 10 tables), for the
straps given; `running` makes of a period what the four timers are that start at the rise (R190), and `sending` is what each transmitter sends. -/
def State.itemsAtPowerOn (t : State) (straps : Straps) (running : Nat → Timer) (sending : Sending) : Prop :=
  t.straps = straps ∧
  (∀ l, t.link l =
    { state := .training, disablePending := false, trainCount := 0, window := running 10000, keepalive := .idle, budget := 0, retrainCount := 0,
      holdOff := .idle, cause := .none, farGap := 0, rxBuf := [], respQueue := [], pendFlowst := false, pendAttn := false, inFlight := none,
      sending := sending, gapCount := 15, wrrClass := .one, wrrCount := 8, counters := ⟨0, 0, 0, 0, 0, 0, 0, 0, 0, 0, 0, 0, 0, 0, 0⟩ }) ∧
  (∀ q, t.queue q = { entries := [], average := 0, level := .none, pause := .clear, markCount := 0, counters := ⟨0, 0, 0, 0⟩ }) ∧
  t.rrPtr = 31 ∧
  t.pool.free = List.range 16384 ∧ (∀ h, t.pool.refCount h = 0 ∧ t.pool.stored h = none) ∧ t.pool.retired = [] ∧ t.pool.underTest = [] ∧
  t.pool.latch = false ∧
  t.tables.active = 0 ∧ (∀ d, slot t.tables.selectors d = .primary) ∧
  (∀ b i, t.entry .group b i = ⟨.group ⟨0, false, none, 0⟩, (EntryFields.group ⟨0, false, none, 0⟩).checkCode⟩) ∧
  (∀ b i, t.entry .destination b i = ⟨.destination ⟨0, 0, none⟩, (EntryFields.destination ⟨0, 0, none⟩).checkCode⟩) ∧
  t.params = Params.default ∧ t.monitor = ⟨127, running 4⟩ ∧ t.flow = ⟨.idle, 10⟩ ∧ t.epoch = ⟨0, running 100, false, 0, none⟩ ∧
  t.agent.queue = [] ∧ t.agent.held = none ∧ (∀ l, LinkSet.has t.agent.permitted l = true ↔ l = straps.mgp ∨ l = straps.mgs) ∧
  t.op = none ∧ t.scrub = ⟨0, running 1⟩ ∧ t.attn = ⟨0, 0, .idle, false, none, none⟩ ∧ t.globals = ⟨0, 0, 0, 0, 0, 0, 0, 0⟩

/-! ### Stores -/

/-- Every addressed store is in canonical form and the two handle sets are ascending (log entry 15). -/
def State.storesCanonical (s : State) : Prop :=
  (∀ b : Bank, Memory.wf powerOnGroup (s.bank b).groups = true ∧ Memory.wf powerOnDest (s.bank b).dests = true) ∧
  Memory.wf none s.pool.buffers = true ∧ Memory.wf 0 s.pool.refs = true ∧
  s.pool.retired.Pairwise (· < ·) ∧ s.pool.underTest.Pairwise (· < ·)

/-! ### Parameters -/

/-- Every parameter lies in its range and each threshold pair passes its test (08, table of R152; R106, R108). -/
def Params.inRange (p : Params) : Prop :=
  (∀ k : Class,
    (1 ≤ slot p.limit k ∧ slot p.limit k ≤ 4095) ∧ slot p.floor k ≤ 16383 ∧
    (1 ≤ slot p.xoff k ∧ slot p.xoff k ≤ 4095) ∧ slot p.xon k ≤ 4094 ∧ slot p.xon k < slot p.xoff k ∧
    slot p.markLow k ≤ slot p.markHigh k ∧ slot p.markHigh k ≤ 65520) ∧
  p.m ≤ 7 ∧ (1 ≤ p.w ∧ p.w ≤ 6) ∧ (1 ≤ p.monitorStep ∧ p.monitorStep ≤ 255) ∧
  (∀ k : WrrClass, 1 ≤ p.weight k ∧ p.weight k ≤ 64) ∧ (∀ l : Link, slot p.gap l ≤ 15) ∧
  (4 ≤ p.keepalive ∧ p.keepalive ≤ 1023) ∧ (64 ≤ p.budgetThreshold ∧ p.budgetThreshold ≤ 65535) ∧
  (100 ≤ p.holdOff ∧ p.holdOff ≤ 10000) ∧ p.retrainLimit ≤ 15 ∧ (10 ≤ p.epochPeriod ∧ p.epochPeriod ≤ 1000) ∧
  p.flowstHoldOff ≤ 255 ∧ (1 ≤ p.refresh ∧ p.refresh ≤ 255) ∧ p.poolLow ≤ 16383 ∧
  (10 ≤ p.attnHoldOff ∧ p.attnHoldOff ≤ 10000) ∧ p.scrubStep ≤ 1000

/-! ### Queues -/

/-- R71, R73, R103, R81: no queue holds more than 4095 entries, each entry has the class of its queue, the average stays within 0..65520 and the
mark counter within 0..127. -/
def State.queuesLawful (s : State) : Prop :=
  ∀ q : QueueId, (s.queue q).entries.length ≤ 4095 ∧ (∀ e ∈ (s.queue q).entries, e.copyClass = queueClass q) ∧
    (s.queue q).average ≤ 65520 ∧ (s.queue q).markCount ≤ 127

/-! ### Link ports -/

/-- The ranges of a link port's items (R5, R81). -/
def LinkPort.inRange (p : LinkPort) : Prop :=
  p.trainCount ≤ 64 ∧ (p.state = .training → p.trainCount < 64) ∧ p.budget ≤ 65535 ∧ p.retrainCount ≤ 15 ∧ p.farGap ≤ 15 ∧
  p.rxBuf.length ≤ 4 ∧ p.respQueue.length ≤ 2 ∧ p.gapCount ≤ 15 ∧ p.wrrCount ≤ 64

/-- What a port holds outside UP (R12, R15, R16, R18, R139): no received cell, no response, no pending flag, no disable-pending, no data cell in
flight, no keepalive. -/
def LinkPort.quietOutsideUp (p : LinkPort) : Prop :=
  p.state ≠ .up → p.rxBuf = [] ∧ p.respQueue = [] ∧ p.pendFlowst = false ∧ p.pendAttn = false ∧ p.disablePending = false ∧
    p.inFlight = none ∧ p.keepalive = .idle

/-- The training window runs only in TRAINING and the hold-off timer only in FAULTED (R8, R12, R13). -/
def LinkPort.timersLawful (p : LinkPort) : Prop :=
  (p.window ≠ .idle → p.state = .training) ∧ (p.holdOff ≠ .idle → p.state = .faulted)

/-- R46: a receive buffer holds cells of kind UCAST and MCAST only. -/
def LinkPort.buffersData (p : LinkPort) : Prop :=
  ∀ cell ∈ p.rxBuf, cellKind cell = some .ucast ∨ cellKind cell = some .mcast

/-- The laws of every link port, with the agent's wait on it (R139) and the empty queues of a FAULTED link (R72). -/
def State.linksLawful (s : State) : Prop :=
  ∀ l : Link, (s.link l).inRange ∧ (s.link l).quietOutsideUp ∧ (s.link l).timersLawful ∧ (s.link l).buffersData ∧
    ((s.link l).state = .faulted → ∀ k : Class, (s.queue (queueId l k)).entries = []) ∧
    (∀ record, s.agent.held = some ⟨l, record⟩ → (s.link l).state = .up ∧ (s.link l).respQueue.length = 2)

/-! ### The buffer pool -/

/-- How many holders on a link name a handle: entries of its four queues, and its in-flight data cell (R66). -/
def State.holdersAt (s : State) (l : Link) (h : Handle) : Nat :=
  ((linkQueues l).map fun q => (s.queue q).entries.countP fun e => decide (e.handle = h)).sum + (if (s.link l).inFlight = some h then 1 else 0)

/-- How many holders in the device name a handle (R66). -/
def State.holders (s : State) (h : Handle) : Nat := ((List.finRange 32).map fun l => s.holdersAt l h).sum

/-- In how many of the conditions FREE, IN USE, RETIRED and UNDER TEST a handle is (R63). -/
def Pool.conditions (p : Pool) (h : Handle) : Nat :=
  (if h ∈ p.free then 1 else 0) + (if 1 ≤ p.refCount h then 1 else 0) + (if h ∈ p.retired then 1 else 0) + (if h ∈ p.underTest then 1 else 0)

/-- The number of buffers whose reference count is 1 or more (R63). -/
def Pool.inUse (p : Pool) : Nat := (List.range Config.bufferCount).countP fun h => decide (1 ≤ p.refCount h)

/-- The laws of the pool: R66 (a count is the number of holders, and no link holds a buffer twice), R63 (each handle in exactly one condition,
an IN USE buffer stores a cell), R64 (a handle is on the free list once at most), R70 and R166 (during a memory test nothing is free or in use;
outside one nothing is under test). -/
def State.poolLawful (s : State) : Prop :=
  (∀ h, s.pool.refCount h = s.holders h) ∧ (∀ l h, s.holdersAt l h ≤ 1) ∧
  (∀ h, h < Config.bufferCount → s.pool.conditions h = 1) ∧ (∀ h, Config.bufferCount ≤ h → s.pool.conditions h = 0) ∧
  s.pool.free.Nodup ∧ (∀ h, 1 ≤ s.pool.refCount h → (s.pool.stored h).isSome = true) ∧
  (s.memtestRunning = true → s.pool.free = [] ∧ ∀ h, s.pool.refCount h = 0) ∧ (s.memtestRunning = false → s.pool.underTest = [])

/-- R68: the pool-low latch is SET exactly while the free count is below the threshold. -/
def State.latchLawful (s : State) : Prop := s.pool.latch = decide (s.pool.free.length < s.params.poolLow)

/-! ### The operation record -/

/-- What a record holds of its work at a progress, by kind (R157 to R168): its range, the counts that go with the progress, and the result
fields that are absent until the end. -/
def Work.lawful (st : OpState) (progress : Nat) : Work → Prop
  | .fill _ e first last written =>
    first ≤ progress ∧ progress ≤ last + 1 ∧ last < e.table.size ∧ written = progress - first ∧ (st = .running → progress ≤ last) ∧
      (st = .done → progress = last + 1)
  | .copy source dest written asInitial =>
    progress ≤ 4128 ∧ written = progress ∧ asInitial ≤ written ∧ dest = otherBank source ∧ (st = .running → progress < 4128) ∧
      (st = .done → progress = 4128)
  | .digest t _ _ digested _ value =>
    progress ≤ t.size ∧ digested = progress ∧ (st = .running → progress < t.size) ∧ (st = .done → progress = t.size) ∧
      (value.isSome = true ↔ st = .done)
  | .memtest tested failed first retiredAtEnd =>
    progress ≤ 16384 ∧ tested = progress ∧ failed ≤ tested ∧ (first.isSome = true ↔ 1 ≤ failed) ∧ (∀ h ∈ first, h < 16384) ∧
      (st = .running → progress < 16384) ∧ (st = .done → progress = 16384) ∧ (retiredAtEnd.isSome = true ↔ st ≠ .running)

/-- The operation record is lawful. -/
def State.opLawful (s : State) : Prop := ∀ r ∈ s.op, r.work.lawful r.state r.progress

/-- R34, R126, R130: while a Fill or a Copy runs, no swap is PENDING and the bank written is the standby bank. -/
def State.standbyWriterLawful (s : State) : Prop :=
  s.standbyWriterRunning = true →
    s.epoch.swapPending = false ∧ ∀ t b, s.writerCovers t b = true → b = s.bankOf .standby

/-! ### The agent, the records and the counters -/

/-- R135, R136, R114, R181: the permitted set is never empty, the request queue holds at most 8 requests, the refresh countdown lies in 1..255,
a miss record names a group and counts to 65535. -/
def State.recordsLawful (s : State) : Prop :=
  s.agent.permitted ≠ 0 ∧ s.agent.queue.length ≤ 8 ∧ (1 ≤ s.flow.refresh ∧ s.flow.refresh ≤ 255) ∧
  ∀ r ∈ s.attn.miss, r.group ≤ 4095 ∧ r.count ≤ 65535

/-- The counters of a link in the order of R175. -/
def LinkCounters.all (k : LinkCounters) : List Nat :=
  [k.goodCells, k.headerErrors, k.payloadErrors, k.overruns, k.noRoute, k.isolated, k.corruptRoute, k.unreachable, k.groupMisses, k.floorDrops,
   k.noCopies, k.testDrops, k.dataCellsTransmitted, k.aborted, k.retrains]

/-- The counters of a queue in the order of R176. -/
def QueueCounters.all (k : QueueCounters) : List Nat := [k.enqueued, k.tailDrops, k.flushed, k.marked]

/-- The global counters in the order of R176. -/
def GlobalCounters.all (k : GlobalCounters) : List Nat :=
  [k.epochSlips, k.straySyncs, k.strayCells, k.unpermitted, k.dropped, k.discarded, k.corruptFound, k.failOvers]

/-- R174: every counter is a number 0..4294967295. -/
def State.countersBounded (s : State) : Prop :=
  (∀ l, ∀ n ∈ (s.link l).counters.all, n ≤ 4294967295) ∧ (∀ q, ∀ n ∈ (s.queue q).counters.all, n ≤ 4294967295) ∧
  ∀ n ∈ s.globals.all, n ≤ 4294967295

/-! ### Requests -/

/-- The agent is READY and the request at the head of its queue is `record`, which arrived on `l`; `rest` is queued behind it (R137). -/
def State.hasRequest (s : State) (l : Link) (record : Payload) (rest : List Carried) : Prop :=
  s.rstN = true ∧ s.agent.held = none ∧ s.agent.queue = ⟨l, record⟩ :: rest

/-- The head request leaves the queue, which becomes `rest`, and its response `record` is placed on the link `l` that carried it (R137, R138):
discarded and counted when the link is not in UP, appended when its response queue holds fewer than two, held by the agent otherwise. (The
model's own free-value counter advances by one record, log entry 8.) -/
def State.replied (s : State) (l : Link) (rest : List Carried) (record : Payload) : State :=
  let taken : State := { s with agent := { s.agent with queue := rest }, freeCtr := s.freeCtr + 64 }
  if (s.link l).state ≠ .up then { taken with globals := { s.globals with discarded := min (s.globals.discarded + 1) 4294967295 } }
  else if (s.link l).respQueue.length < 2 then taken.modLink l fun p => { p with respQueue := p.respQueue ++ [record] }
  else { taken with agent := { taken.agent with held := some ⟨l, record⟩ } }

/-- A request command answers: it gives the next state `u` with the head request gone and its response `reply` placed on `l`. What the model's own
free-value counter becomes is left open (log entry 8). -/
def State.answers (s : State) (i : Instr) (u : State) (l : Link) (rest : List Carried) (reply : Payload) : Prop :=
  ∃ free : Nat, exec i s = .next { u.replied l rest reply with freeCtr := free }

/-- The 64 bytes of a response: kind and tag echoed from the request, the result's code, the data, and 0 in every byte after them (R142, R187). -/
def replyBytes (request : Payload) (result : Byte) (data : List Byte) : Payload :=
  packBytes 64 ([recByte request 0, result, recByte request 2, recByte request 3] ++ data)

/-! ### Frames -/

/-- Port `p` is port `q` but for the pending FLOWST and ATTN flags, which an owing or a raise may have set and nothing has cleared (R116, R178). -/
def LinkPort.sameButPending (p q : LinkPort) : Prop :=
  { p with pendFlowst := false, pendAttn := false } = { q with pendFlowst := false, pendAttn := false } ∧
  (q.pendFlowst = true → p.pendFlowst = true) ∧ (q.pendAttn = true → p.pendAttn = true)

/-- Every link but `l` is unchanged but for its pending flags. -/
def State.otherLinksKept (s t : State) (l : Link) : Prop := ∀ k, k ≠ l → (t.link k).sameButPending (s.link k)

/-- Every queue but those of `l` is unchanged. -/
def State.otherQueuesKept (s t : State) (l : Link) : Prop := ∀ q, queueLink q ≠ l → t.queue q = s.queue q

/-- What no event of the data path, the links or the requests about them touches: pins, straps, parameters, monitor walk, scrubber, time, the
permitted set and the request queue, the operation record and the waiting commands. -/
def State.restKept (s t : State) : Prop :=
  t.rstN = s.rstN ∧ t.straps = s.straps ∧ t.rrPtr = s.rrPtr ∧ t.params = s.params ∧ t.monitor = s.monitor ∧ t.epoch = s.epoch ∧ t.op = s.op ∧
  t.scrub = s.scrub ∧ t.freeCtr = s.freeCtr ∧ t.pending = s.pending ∧ t.agent.queue = s.agent.queue ∧ t.agent.permitted = s.agent.permitted

/-- What a link change or a fault leaves of the tables: the designation and the content of both banks (the selectors may move, R37, R38). -/
def State.banksKept (s t : State) : Prop := t.tables.active = s.tables.active ∧ t.tables.banks = s.tables.banks

/-- The miss record and the last-corrupt record are kept: only a group miss and a marking write them (R173, R181). -/
def State.recordsKept (s t : State) : Prop := t.attn.miss = s.attn.miss ∧ t.attn.lastCorrupt = s.attn.lastCorrupt

/-! ### Events -/

/-- The handles a link gives up at fault entry or Retrain, in the order of their releases: the in-flight cell's, then those of its queues, head
first, in queue order (R12, R74, R76). -/
def State.heldHandles (s : State) (l : Link) : List Handle :=
  (s.link l).inFlight.toList ++ (linkQueues l).flatMap fun q => (s.queue q).entries.map QueueEntry.handle

/-- The pool after releases in the order given (R67). -/
def State.poolReleasing (s : State) (handles : List Handle) : Pool :=
  handles.foldl (fun p h => p.release s.params.poolLow h) s.pool

/-- What a flush leaves of a queue (R74, R75). -/
def State.queueFlushed (s t : State) (q : QueueId) : Prop :=
  t.queue q = { entries := [], average := 0, level := .none, pause := .clear, markCount := 0,
                counters := { (s.queue q).counters with
                  flushed := min ((s.queue q).counters.flushed + (s.queue q).entries.length) 4294967295 } }

/-- R76: the command `i` makes a flush event that takes in queue `q`, from `s` to `t`: a Link Control Flush or Retrain of the queue's link, a Datapath
Reset, or an event at which the queue's link enters FAULTED. -/
def State.flushEvent (s : State) (i : Instr) (q : QueueId) (t : State) : Prop :=
  (∃ l record rest, s.hasRequest l record rest ∧
    ((i = .flush ∧ requestRow record = .flush ∧ (recByte record 4).toNat = (queueLink q).val) ∨
     (i = .retrain ∧ requestRow record = .retrain ∧ (recByte record 4).toNat = (queueLink q).val) ∨
     (i = .datapathReset ∧ requestRow record = .datapathReset))) ∨
  ((s.link (queueLink q)).state ≠ .faulted ∧ (t.link (queueLink q)).state = .faulted)

/-- R112, R116: what the pause change report of a flush event, if there was one, did to the Flow-Status Unit, and to the pending FLOWST flag of
link `k`: an IDLE coalescing timer is started, or, with a hold-off of 0, a FLOWST is owed at once; the refresh countdown is kept. -/
def State.flushReported (s : State) (report : Bool) (t : State) (k : Link) : Prop :=
  let heard := report && decide (s.flow.coalescing = .idle)
  t.flow = (if heard = true ∧ s.params.flowstHoldOff ≠ 0 then { s.flow with coalescing := .running s.params.flowstHoldOff } else s.flow) ∧
  (t.link k).pendFlowst = ((s.link k).pendFlowst ||
    (heard && decide (s.params.flowstHoldOff = 0) && LinkSet.has s.params.recipients k && decide ((s.link k).state = .up)))

/-- R75: some queue of a link is PAUSED, so that a flush of the link's queues makes a report. -/
def State.anyPaused (s : State) (l : Link) : Bool := decide (∃ k : Class, (s.queue (queueId l k)).pause = .paused)

/-- The responses that a link loses when it leaves UP: those in its response queue, an MRSP being sent, and the one held for it (R12, R18, R139). -/
def State.responsesOn (s : State) (l : Link) : Nat :=
  (s.link l).respQueue.length + (match (s.link l).sending with | .cell .mrsp _ => 1 | _ => 0)
    + (match s.agent.held with | some r => if r.link = l then 1 else 0 | none => 0)

/-- R12, R75, R112: `t` is `s` after link `l` has entered FAULTED with a cause. -/
def State.entersFaulted (s : State) (l : Link) (cause : FaultCause) (t : State) : Prop :=
  t.link l = { s.link l with
    state := .faulted, disablePending := false, window := .idle, keepalive := .idle, retrainCount := min 15 ((s.link l).retrainCount + 1),
    holdOff := .running s.params.holdOff, cause := cause, farGap := 0, rxBuf := [], respQueue := [], pendFlowst := false, pendAttn := false,
    inFlight := none, sending := .cell .idle (idleCell s.straps.plane),
    counters := { (s.link l).counters with
      overruns := min ((s.link l).counters.overruns + (s.link l).rxBuf.length) 4294967295,
      aborted := if (s.link l).inFlight.isSome = true then min ((s.link l).counters.aborted + 1) 4294967295 else (s.link l).counters.aborted } } ∧
  (∀ k, s.queueFlushed t (queueId l k)) ∧ t.pool = s.poolReleasing (s.heldHandles l) ∧
  t.globals = { s.globals with
    discarded := min (s.globals.discarded + s.responsesOn l) 4294967295, failOvers := t.globals.failOvers } ∧
  t.agent.held = (match s.agent.held with | some r => if r.link = l then none else some r | none => none) ∧
  (∀ k, k ≠ l → s.flushReported (s.anyPaused l) t k) ∧
  s.otherLinksKept t l ∧ s.otherQueuesKept t l ∧ s.banksKept t ∧ s.recordsKept t ∧ s.restKept t

/-- R120: `t` is `s` after an epoch change to the number `n` by an expiry or an accepted SYNC, which restarts the timer (R119, R122): the refresh
countdown falls, a FLOWST may be owed (R114, R116), and a pending swap whose target is reached is performed (R128, R129, R36). -/
def State.epochChanged (s : State) (n : Epoch) (t : State) : Prop :=
  t.epoch.number = n ∧ t.epoch.timer = .running s.params.epochPeriod ∧ t.epoch.target = s.epoch.target ∧ t.flow.coalescing = s.flow.coalescing ∧
  (if s.flow.refresh ≤ 1 then t.flow.refresh = s.params.refresh else t.flow.refresh = s.flow.refresh - 1) ∧
  (∀ l, (t.link l).pendFlowst =
    ((s.link l).pendFlowst || (decide (s.flow.refresh ≤ 1) && LinkSet.has s.params.recipients l && decide ((s.link l).state = .up)))) ∧
  (∀ l, (t.link l).sameButPending (s.link l)) ∧ t.tables.banks = s.tables.banks ∧
  (if s.epoch.swapPending = true ∧ (n - s.epoch.target).toNat < 32768 then
    t.tables.active = otherBank s.tables.active ∧ t.epoch.swapPending = false ∧ t.epoch.lastSwap = some n ∧
    FlagSet.has t.attn.flags .swapCompleted = true ∧
    ∀ d : Link, slot t.tables.selectors d =
      (if (t.activeDest d.val).isActive = true ∧ s.numberUp (t.activeDest d.val).primary.toNat = false ∧
          ((t.activeDest d.val).spare.map BitVec.toNat).any s.numberUp = true then .spare else .primary)
  else
    t.tables = s.tables ∧ t.epoch.swapPending = s.epoch.swapPending ∧ t.epoch.lastSwap = s.epoch.lastSwap)

/-- R42: link `l` is served with its oldest cell: no link between the pointer and it, going up and wrapping, holds a cell. -/
def State.serves (s : State) (l : Link) (cell : Cell) (rest : List Cell) : Prop :=
  (s.link l).rxBuf = cell :: rest ∧ ∀ k : Link, (k - s.rrPtr - 1).val < (l - s.rrPtr - 1).val → (s.link k).rxBuf = []

/-- R41, R42: the state after the cell has left its buffer and the pointer names the link. -/
def State.taking (s : State) (l : Link) (rest : List Cell) : State := { s.modLink l (fun p => { p with rxBuf := rest }) with rrPtr := l }

/-- A stored entry verifies good: it is not CORRUPT, its State is defined, its fields are in range and its code is that of its content (R29). -/
def goodEntry (e : Stored EntryFields) : Prop :=
  e.fields.state.toNat < (corruptCode e.fields.table).toNat ∧ e.fields.fieldOutOfRange = false ∧ e.code = crc8 e.fields.serialize

/-- A stored entry is found bad by a verifying read: it is not CORRUPT and it does not verify good (R29). -/
def badEntry (e : Stored EntryFields) : Prop := e.fields.state ≠ corruptCode e.fields.table ∧ ¬ goodEntry e

/-- R30: `t` is `s` after an entry has been marked CORRUPT. -/
def State.marks (s : State) (tb : Table) (b : Bank) (i : Nat) (t : State) : Prop :=
  t.entry tb b i = ⟨(s.entry tb b i).fields.withState (corruptCode tb), (s.entry tb b i).code⟩ ∧
  (∀ tb' b' i', (tb', b', i') ≠ (tb, b, i) → t.entry tb' b' i' = s.entry tb' b' i') ∧
  t.globals = { s.globals with corruptFound := min (s.globals.corruptFound + 1) 4294967295 } ∧
  t.attn.lastCorrupt = some ⟨tb, b, i⟩ ∧ t.attn.links = s.attn.links ∧ FlagSet.has t.attn.flags .entryCorrupt = true

/-- R53, R55, R59, R65: `t` is `s` after a cell has been stored in the head buffer `h` of the free list, with `rest` behind it, and one entry for
each link of `members` has been appended; PoolLow is set if the allocation took the latch from CLEAR to SET (R68). -/
def State.stores (s : State) (cell : Cell) (k : Class) (members : List Link) (h : Handle) (rest : List Handle) (t : State) : Prop :=
  t.pool.free = rest ∧ (∀ a, t.pool.refCount a = if a = h then members.length else s.pool.refCount a) ∧
  (∀ a, t.pool.stored a = if a = h then some cell else s.pool.stored a) ∧ t.pool.latch = decide (rest.length < s.params.poolLow) ∧
  t.pool.retired = s.pool.retired ∧ t.pool.underTest = s.pool.underTest ∧
  (∀ q, t.queue q = if queueLink q ∈ members ∧ queueClass q = k then
    { s.queue q with entries := (s.queue q).entries ++ [⟨h, k, cellMark cell⟩],
                     counters := { (s.queue q).counters with enqueued := min ((s.queue q).counters.enqueued + 1) 4294967295 } }
    else s.queue q) ∧
  (s.pool.latch = false → rest.length < s.params.poolLow → FlagSet.has t.attn.flags .poolLow = true) ∧
  (¬ (s.pool.latch = false ∧ rest.length < s.params.poolLow) → t.attn = s.attn ∧ t.links = s.links)

/-- R18: `t` is `s` after link `l`, in UP, has entered DISABLED: nothing is received, held, pending or sent, and the queues are kept. -/
def State.entersDisabled (s : State) (l : Link) (t : State) : Prop :=
  t.link l = { s.link l with
    state := .disabled, disablePending := false, window := .idle, keepalive := .idle, holdOff := .idle, rxBuf := [], respQueue := [],
    pendFlowst := false, pendAttn := false, sending := .nothing,
    counters := { (s.link l).counters with overruns := min ((s.link l).counters.overruns + (s.link l).rxBuf.length) 4294967295 } } ∧
  t.queues = s.queues ∧ t.pool = s.pool ∧ t.flow = s.flow ∧
  t.globals = { s.globals with
    discarded := min (s.globals.discarded + s.responsesOn l) 4294967295, failOvers := t.globals.failOvers } ∧
  t.agent.held = (match s.agent.held with | some r => if r.link = l then none else some r | none => none) ∧
  s.otherLinksKept t l ∧ s.banksKept t ∧ s.recordsKept t ∧ s.restKept t

/-- R116: `t` is `s` after a FLOWST has been owed: the pending FLOWST flag is set on every recipient in UP, and nothing else of a link changes. -/
def State.owed (s t : State) : Prop :=
  ∀ l, t.link l = { s.link l with
    pendFlowst := (s.link l).pendFlowst || (LinkSet.has s.params.recipients l && decide ((s.link l).state = .up)) }

/-- R112: `t` is `s` after a pause change report, if there was one: an IDLE coalescing timer is started with the hold-off, or, with a hold-off of 0,
a FLOWST is owed at once; a RUNNING timer is left as it is. -/
def State.pauseReported (s : State) (report : Bool) (t : State) : Prop :=
  if report = true ∧ s.flow.coalescing = .idle then
    if s.params.flowstHoldOff = 0 then t.flow = s.flow ∧ s.owed t
    else t.flow = { s.flow with coalescing := .running s.params.flowstHoldOff } ∧ t.links = s.links
  else t.flow = s.flow ∧ t.links = s.links

/-- R28: `t` is `s` after one entry has been written with a fresh check code: every other entry, the designation and the selectors are kept. -/
def State.writes (s : State) (tb : Table) (b : Bank) (i : Nat) (e : EntryFields) (t : State) : Prop :=
  t.entry tb b i = ⟨e, crc8 e.serialize⟩ ∧ (∀ tb' b' i', (tb', b', i') ≠ (tb, b, i) → t.entry tb' b' i' = s.entry tb' b' i') ∧
  t.tables.active = s.tables.active ∧ t.tables.selectors = s.tables.selectors

/-- R158, R159: what else a step of an operation changes: nothing while it goes on; OperationEnded at its end. -/
def State.operationStepped (s : State) (goesOn : Bool) (t : State) : Prop :=
  (if goesOn = true then t.attn = s.attn ∧ t.links = s.links
    else FlagSet.has t.attn.flags .operationEnded = true ∧ t.attn.links = s.attn.links ∧ s.recordsKept t ∧
      ∀ k, (t.link k).sameButPending (s.link k)) ∧
  t.queues = s.queues ∧ t.flow = s.flow ∧ t.agent = s.agent ∧ t.globals = s.globals ∧ t.params = s.params ∧ t.epoch = s.epoch ∧
  t.monitor = s.monitor ∧ t.scrub = s.scrub ∧ t.rrPtr = s.rrPtr

/-! ### Records and parameters -/

/-- R187: the 16 bytes from position `o` of a record hold an operation record. (The four bytes of an absent digest value are free, log entry 8.) -/
def operationAt (reply : Payload) (o : Nat) : Option OpRecord → Prop
  | none => ∀ n, n < 16 → recByte reply (o + n) = 0
  | some r =>
    recByte reply (o + 1) = (match r.state with | .running => 0 | .done => 1 | .aborted => 2) ∧ recByte reply (o + 5) = 0 ∧
    recWord reply (o + 6) = BitVec.ofNat 16 r.progress ∧
    match r.work with
    | .fill b e _ _ written =>
      recByte reply o = 1 ∧ recByte reply (o + 2) = (match e.table with | .group => 0 | .destination => 1) ∧
      (recByte reply (o + 3)).toNat = b.val ∧ recByte reply (o + 4) = 0 ∧ recWord reply (o + 8) = BitVec.ofNat 16 written ∧
      ∀ n, 10 ≤ n → n < 16 → recByte reply (o + n) = 0
    | .copy source dest written asInitial =>
      recByte reply o = 2 ∧ recByte reply (o + 2) = 2 ∧ (recByte reply (o + 3)).toNat = dest.val ∧ (recByte reply (o + 4)).toNat = source.val ∧
      recWord reply (o + 8) = BitVec.ofNat 16 written ∧ recWord reply (o + 10) = BitVec.ofNat 16 asInitial ∧
      ∀ n, 12 ≤ n → n < 16 → recByte reply (o + n) = 0
    | .digest t b role digested _ value =>
      recByte reply o = 3 ∧ recByte reply (o + 2) = (match t with | .group => 0 | .destination => 1) ∧ (recByte reply (o + 3)).toNat = b.val ∧
      recByte reply (o + 4) = (match role with | .active => 0 | .standby => 1) ∧ recWord reply (o + 8) = BitVec.ofNat 16 digested ∧
      recByte reply (o + 10) = (if value.isSome = true then 1 else 0) ∧ recByte reply (o + 11) = 0 ∧
      ∀ v ∈ value, recLong reply (o + 12) = v
    | .memtest tested failed first retiredAtEnd =>
      recByte reply o = 4 ∧ recByte reply (o + 2) = 3 ∧ recByte reply (o + 3) = 0 ∧ recByte reply (o + 4) = 0 ∧
      recWord reply (o + 8) = BitVec.ofNat 16 tested ∧ recWord reply (o + 10) = BitVec.ofNat 16 failed ∧
      recWord reply (o + 12) = BitVec.ofNat 16 (first.getD 65535) ∧ recWord reply (o + 14) = BitVec.ofNat 16 (retiredAtEnd.getD 65535)

/-- R33: an entry that a request may write: its State is a defined one other than CORRUPT and no field is out of range. -/
def mayBeWritten (e : EntryFields) : Prop := e.state.toNat < (corruptCode e.table).toNat ∧ e.fieldOutOfRange = false

/-- Whether a parameter is a set (R156). -/
def Param.isSet : Param → Bool
  | .recipients => true
  | .attnMask => true
  | _ => false

/-- The value of a parameter that is a number; a timing link of NONE is 32 (R154, R155). -/
def Params.number (ps : Params) : Param → Option Nat
  | .limit k => some (slot ps.limit k)
  | .floor k => some (slot ps.floor k)
  | .xoff k => some (slot ps.xoff k)
  | .xon k => some (slot ps.xon k)
  | .markLow k => some (slot ps.markLow k)
  | .markHigh k => some (slot ps.markHigh k)
  | .m => some ps.m
  | .w => some ps.w
  | .monitorStep => some ps.monitorStep
  | .weight .one => some ps.weight1
  | .weight .two => some ps.weight2
  | .weight .three => some ps.weight3
  | .gap l => some (slot ps.gap l)
  | .keepalive => some ps.keepalive
  | .budgetThreshold => some ps.budgetThreshold
  | .holdOff => some ps.holdOff
  | .retrainLimit => some ps.retrainLimit
  | .epochPeriod => some ps.epochPeriod
  | .timingLink => some (match ps.timingLink with | none => 32 | some l => l.val)
  | .flowstHoldOff => some ps.flowstHoldOff
  | .refresh => some ps.refresh
  | .recipients => none
  | .poolLow => some ps.poolLow
  | .attnMask => none
  | .attnHoldOff => some ps.attnHoldOff
  | .scrubStep => some ps.scrubStep

/-- R155, R188: bytes 8 to 11 of a record hold the value in force of a parameter: a number high byte first, or a set. -/
def Params.valueAt (ps : Params) (reply : Payload) : Param → Prop
  | .recipients => ∀ k : Link, (recByte reply (8 + k.val / 8)).getLsbD (k.val % 8) = LinkSet.has ps.recipients k
  | .attnMask => recByte reply 8 = ps.attnMask ∧ recByte reply 9 = 0 ∧ recByte reply 10 = 0 ∧ recByte reply 11 = 0
  | p => ∀ n ∈ ps.number p, recLong reply 8 = BitVec.ofNat 32 n

/-- The range a written value is clamped into (08, table of R152); the timing link is not clamped. -/
def Param.range : Param → Nat × Nat
  | .limit _ => (1, 4095)
  | .floor _ => (0, 16383)
  | .xoff _ => (1, 4095)
  | .xon _ => (0, 4094)
  | .markLow _ => (0, 65520)
  | .markHigh _ => (0, 65520)
  | .m => (0, 7)
  | .w => (1, 6)
  | .monitorStep => (1, 255)
  | .weight _ => (1, 64)
  | .gap _ => (0, 15)
  | .keepalive => (4, 1023)
  | .budgetThreshold => (64, 65535)
  | .holdOff => (100, 10000)
  | .retrainLimit => (0, 15)
  | .epochPeriod => (10, 1000)
  | .timingLink => (0, 32)
  | .flowstHoldOff => (0, 255)
  | .refresh => (1, 255)
  | .recipients => (0, 0)
  | .poolLow => (0, 16383)
  | .attnMask => (0, 0)
  | .attnHoldOff => (10, 10000)
  | .scrubStep => (0, 1000)

/-- What a written value is stored as: clamped into the parameter's range (R154 step 3). -/
def Param.stored (p : Param) (v : Nat) : Nat := if v < p.range.1 then p.range.1 else if p.range.2 < v then p.range.2 else v

end Sys2Proof.Machine
end

