-- ==== Sys2Proof/Certificates/Slice0/Obligations.lean ====
section
/-! DEFINITION. The statements for the provers. Each docstring names the rules of spec/ it formalises; what rests on a choice of the model names
the log entry. -/

open Sys2Proof Sys2Proof.Machine

/-! ### The block as a machine -/

/-- One step takes the command at the front of the queue and executes it on the state with the queue's rest; on an empty queue the block idles.
That commands wait in one queue, and that an empty one idles, is the model's choice (log entry 5). -/
def Obligations.StepRunsFrontCommand : Prop :=
  (∀ (i : Instr) (s : State) (rest : List Instr), s.pending = i :: rest → step s = exec i { s with pending := rest }) ∧
  ∀ s : State, s.pending = [] → step s = .next s

/-- Executing a command leaves the commands that wait behind it alone, and only the rise of RST_N samples the straps and raises the pin, only
the fall lowers it (R189, R190; the queue is the model's, log entry 5). -/
def Obligations.CommandsKeepQueueStrapsAndPin : Prop :=
  ∀ (i : Instr) (s t : State), exec i s = .next t →
    t.pending = s.pending ∧ ((∀ p a b, i ≠ .rstNRise p a b) → t.straps = s.straps) ∧ (i.isReset = false → t.rstN = s.rstN)

/-- An event that the state does not allow changes nothing (the model's choice, log entry 1): a second rise or fall of RST_N; anything but a
disturbance while RST_N is low; the expiry of a timer that is not RUNNING; an admission with every receive buffer empty; a next-cell event outside
UP; a step of an operation of a kind that is not RUNNING; a request that is not at the head of the queue of a READY agent; a disturbance of an index
past the end of its table. -/
def Obligations.EventsNotAllowedChangeNothing : Prop :=
  ∀ s : State,
    (∀ p a b, s.rstN = true → exec (.rstNRise p a b) s = .next s) ∧
    (∀ i, s.rstN = false → (∀ p a b, i ≠ .rstNRise p a b) → (∀ b n e k, i ≠ .tableDisturbance b n e k) → exec i s = .next s) ∧
    (∀ l, (s.link l).window = .idle ∨ (s.link l).state ≠ .training → exec (.trainingWindowExpiry l) s = .next s) ∧
    (∀ l, (s.link l).keepalive = .idle ∨ (s.link l).state ≠ .up → exec (.keepaliveExpiry l) s = .next s) ∧
    (∀ l, (s.link l).holdOff = .idle ∨ (s.link l).state ≠ .faulted → exec (.holdOffExpiry l) s = .next s) ∧
    (s.monitor.timer = .idle → exec .monitorStep s = .next s) ∧ (s.flow.coalescing = .idle → exec .coalescingTimerExpiry s = .next s) ∧
    (s.epoch.timer = .idle → exec .epochTimerExpiry s = .next s) ∧ (s.attn.timer = .idle → exec .attentionHoldOffExpiry s = .next s) ∧
    (s.scrub.timer = .idle → exec .scrubStep s = .next s) ∧
    ((∀ l, (s.link l).rxBuf = []) → exec .admission s = .next s) ∧ (∀ l, (s.link l).state ≠ .up → exec (.nextCellEvent l) s = .next s) ∧
    ((∀ n b e first last k, s.op ≠ some ⟨.running, n, .fill b e first last k⟩) → exec .fillStep s = .next s) ∧
    ((∀ n a b k j, s.op ≠ some ⟨.running, n, .copy a b k j⟩) → exec .copyStep s = .next s) ∧
    ((∀ n t b r k c v, s.op ≠ some ⟨.running, n, .digest t b r k c v⟩) → exec .digestStep s = .next s) ∧
    (∀ passes, (∀ n k j a b, s.op ≠ some ⟨.running, n, .memtest k j a b⟩) → exec (.memtestStep passes) s = .next s) ∧
    (∀ i row, i.serves = some row → (∀ l r rest, s.hasRequest l r rest → requestRow r ≠ row) → exec i s = .next s) ∧
    ∀ b n (e : EntryFields) k, e.table.size ≤ n → exec (.tableDisturbance b n e k) s = .next s

/-! ### Power-on -/

/-- At the rise of RST_N every item takes its power-on value, the straps are sampled (R189), the four timers of R190 start and every link sends
IDLE; `State.reset` is that state for straps of 0 (log entry 3); and every parameter stands at its default (R153, with the table of R152).
The fall of RST_N ends all activity (R190): no timer runs, nothing is sent, and nothing is queued, held, in use, recorded, counted or flagged. That
every item, among them the pool, the tables, the selectors and the parameters, stands at its power-on value meanwhile, with the straps as last
sampled, is the model's choice (log entry 2). -/
def Obligations.ResetPinGivesPowerOnItems : Prop :=
  (State.reset = State.powerOn ⟨0, 0, 0⟩ ∧
   ∀ (plane : BitVec 3) (mgp mgs : Link) (s : State), s.rstN = false → ∃ t, exec (.rstNRise plane mgp mgs) s = .next t ∧
     t.rstN = true ∧ t.itemsAtPowerOn ⟨plane, mgp, mgs⟩ .running (.cell .idle (idleCell plane)) ∧ t.pending = s.pending) ∧
  (State.reset.params =
     { limit := #v[1024, 1024, 1024, 1024], floor := #v[0, 256, 512, 1024], xoff := #v[768, 768, 768, 768], xon := #v[512, 512, 512, 512],
       markLow := #v[4096, 4096, 4096, 4096], markHigh := #v[8192, 8192, 8192, 8192], m := 3, w := 3, monitorStep := 4, weight1 := 8, weight2 := 4,
       weight3 := 2, gap := Vector.replicate 32 0, keepalive := 32, budgetThreshold := 1024, holdOff := 1000, retrainLimit := 0, epochPeriod := 100,
       timingLink := none, flowstHoldOff := 2, refresh := 10, recipients := BitVec.allOnes 32, poolLow := 1024, attnMask := 0, attnHoldOff := 100,
       scrubStep := 1 }) ∧
  (∀ s : State, s.rstN = true → ∃ t, exec .rstNFall s = .next t ∧
     t.rstN = false ∧ t.itemsAtPowerOn s.straps (fun _ => .idle) .nothing ∧ t.pending = s.pending)

/-! ### Laws of the device that every step keeps -/

/-- The state after power-on reset meets every law below. -/
def Obligations.ResetMeetsEveryLaw : Prop :=
  State.reset.storesCanonical ∧ State.reset.params.inRange ∧ State.reset.queuesLawful ∧ State.reset.linksLawful ∧ State.reset.poolLawful ∧
  State.reset.latchLawful ∧ State.reset.opLawful ∧ State.reset.standbyWriterLawful ∧ State.reset.recordsLawful ∧ State.reset.countersBounded

/-- Every step keeps the stores in canonical form and the handle sets ascending (the model's form of the stores, log entry 15). -/
def Obligations.StoresStayCanonical : Prop := ∀ s t : State, s.storesCanonical → step s = .next t → t.storesCanonical

/-- Every step keeps every parameter in its range and every threshold pair in order (08, table of R152; R73, R106, R108, R154), and a parameter
changes only at the execution of a Set Parameter, or at a reset (R153). -/
def Obligations.ParametersStayInRange : Prop :=
  (∀ s t : State, s.params.inRange → step s = .next t → t.params.inRange) ∧
  (∀ (i : Instr) (s t : State), i.isReset = false → i ≠ .setParameter → exec i s = .next t → t.params = s.params)

/-- Law of R73, with R71, R103 and R81: no output queue ever holds more than 4095 entries, its entries have its class, its average stays within
0..65520 and its mark counter within 0..127. -/
def Obligations.QueuesStayLawful : Prop :=
  ∀ s t : State, s.params.inRange ∧ s.queuesLawful → step s = .next t → t.queuesLawful

/-- Every step keeps the link ports lawful (R5, R8, R12, R13, R15, R16, R18, R46, R72, R81, R138, R139): the ranges of the items, a port that
holds nothing outside UP, timers that run in their own state only, empty queues in FAULTED, a held response only for an UP link with two
responses queued. -/
def Obligations.LinkPortsStayLawful : Prop :=
  ∀ s t : State, s.params.inRange ∧ s.linksLawful → step s = .next t → t.linksLawful

/-- The laws of R63 and R66 (with R64, R70, R166): every step keeps each handle in exactly one condition, and every reference count equal to the
number of queue entries and in-flight cells that name the buffer. -/
def Obligations.PoolStaysLawful : Prop :=
  ∀ s t : State, s.storesCanonical ∧ s.opLawful ∧ s.poolLawful → step s = .next t → t.poolLawful

/-- What the pool laws give (R63, R66): the free count, the buffers in use, the retired handles and the handles under test add up to 16384, and
a reference count lies in 0..32. -/
def Obligations.PoolLawGivesTheSum : Prop :=
  ∀ s : State, s.storesCanonical → s.poolLawful →
    s.pool.free.length + s.pool.inUse + s.pool.retired.length + s.pool.underTest.length = 16384 ∧ ∀ h, s.pool.refCount h ≤ 32

/-- R68: every step keeps the pool-low latch SET exactly while the free count is below the threshold. Law of R135 with R136, R114 and R181: every
step keeps the permitted set non-empty, at most 8 requests queued, the refresh countdown in 1..255 and the miss record in its ranges. -/
def Obligations.LatchAndRecordsStayLawful : Prop :=
  (∀ s t : State, s.latchLawful → step s = .next t → t.latchLawful) ∧
  (∀ s t : State, s.params.inRange ∧ s.recordsLawful → step s = .next t → t.recordsLawful)

/-- Every step keeps the operation record's progress and result fields as R157 to R168 give them, and a running Fill or Copy on the standby bank with no
swap PENDING (R126, R130, R34). -/
def Obligations.OperationsStayLawful : Prop :=
  (∀ s t : State, s.opLawful → step s = .next t → t.opLawful) ∧
  (∀ s t : State, s.opLawful ∧ s.standbyWriterLawful → step s = .next t → t.standbyWriterLawful)

/-- R174: every step keeps every counter within 0..4294967295, and only Read Counters and a reset lower one. -/
def Obligations.CountersSaturate : Prop :=
  ∀ (i : Instr) (s t : State), s.countersBounded → exec i s = .next t →
    t.countersBounded ∧
    (i.isReset = false → i ≠ .readCounters →
      (∀ l k, (s.link l).counters.all.getD k 0 ≤ (t.link l).counters.all.getD k 0) ∧
      (∀ q k, (s.queue q).counters.all.getD k 0 ≤ (t.queue q).counters.all.getD k 0) ∧
      ∀ k, s.globals.all.getD k 0 ≤ t.globals.all.getD k 0)

/-- No command ever stops the model in a lawful state: a queue entry always names a stored cell (R66) and the WRR walk always ends in a
selection (R91), so neither of the model's two faults (log entry 13) is raised there. -/
def Obligations.LawfulStatesNeverStop : Prop :=
  ∀ (i : Instr) (s : State), s.params.inRange → s.poolLawful → ∃ t, exec i s = .next t

/-! ### Whole-machine rules -/

/-- R71, R72: what can happen to the entries of an output queue at one event: nothing; one entry of the queue's class appended at the tail, by an
admission; the head removed, by a next-cell event of its link in UP; or every entry removed, by one of the flush events of R76, which leaves
the queue as a flush does (R74, R75). Law of R93: a data cell starts transmission only on a
link in UP, at a next-cell event of that link. -/
def Obligations.QueuesAreFirstInFirstOut : Prop :=
  (∀ (i : Instr) (s t : State) (q : QueueId), i.isReset = false → exec i s = .next t →
     (t.queue q).entries = (s.queue q).entries ∨
     (i = .admission ∧ ∃ e, e.copyClass = queueClass q ∧ (t.queue q).entries = (s.queue q).entries ++ [e]) ∨
     (i = .nextCellEvent (queueLink q) ∧ (s.link (queueLink q)).state = .up ∧ ∃ e, (s.queue q).entries = e :: (t.queue q).entries) ∨
     (s.flushEvent i q t ∧ s.queueFlushed t q)) ∧
  (∀ (i : Instr) (s t : State) (l : Link) (h : Handle), i.isReset = false → exec i s = .next t →
     (t.link l).inFlight = some h → (s.link l).inFlight ≠ some h → i = .nextCellEvent l ∧ (s.link l).state = .up ∧ (t.link l).state = .up)

/-- Law of R107: a queue enters PAUSED only at a visit whose sampled depth is at or above XOFF of its class, and returns to CLEAR only at a visit
whose sampled depth is at or below XON or at one of the flush events of R76, which leaves the queue as a flush does (R75). -/
def Obligations.PauseChangesOnlyAtVisitsAndFlushes : Prop :=
  ∀ (i : Instr) (s t : State) (q : QueueId), i.isReset = false → exec i s = .next t →
    ((s.queue q).pause = .clear → (t.queue q).pause = .paused →
      i = .monitorStep ∧ t.monitor.cursor = q ∧ slot s.params.xoff (queueClass q) ≤ (s.queue q).entries.length) ∧
    ((s.queue q).pause = .paused → (t.queue q).pause = .clear →
      (i = .monitorStep ∧ t.monitor.cursor = q ∧ (s.queue q).entries.length ≤ slot s.params.xon (queueClass q)) ∨
      (s.flushEvent i q t ∧ s.queueFlushed t q))

/-- Law of R129: the active role passes to the other bank only by a swap performed at an epoch change that reaches the pending target, and the
swap leaves no swap pending. -/
def Obligations.ActiveRoleMovesOnlyBySwap : Prop :=
  ∀ (i : Instr) (s t : State), i.isReset = false → exec i s = .next t → t.tables.active ≠ s.tables.active →
    s.epoch.swapPending = true ∧ t.epoch.number ≠ s.epoch.number ∧ (t.epoch.number - s.epoch.target).toNat < 32768 ∧
    t.epoch.swapPending = false ∧ t.epoch.lastSwap = some t.epoch.number ∧ FlagSet.has t.attn.flags .swapCompleted = true

/-- R14: at every link change the link is added to the attention link set and LinkChange is set; and the changes are those of R6, R9, R12, R18
and R21: nothing but TRAINING enters UP, and a DISABLED link leaves for TRAINING only. -/
def Obligations.LinkChangesAreFlagged : Prop :=
  ∀ (i : Instr) (s t : State) (l : Link), i.isReset = false → exec i s = .next t → (t.link l).state ≠ (s.link l).state →
    FlagSet.has t.attn.flags .linkChange = true ∧ LinkSet.has t.attn.links l = true ∧
    ((t.link l).state = .up → (s.link l).state = .training) ∧ ((s.link l).state = .disabled → (t.link l).state = .training)

/-- R34: outside a Repair Entry and a disturbance, an entry of the active bank changes only by being marked CORRUPT: its State becomes CORRUPT,
its other fields and its stored check code stay (R30). -/
def Obligations.ActiveBankChangesOnlyByMarking : Prop :=
  ∀ (i : Instr) (s t : State) (tb : Table) (n : Nat), s.storesCanonical → s.standbyWriterLawful → i.isReset = false → i ≠ .repairEntry →
    (∀ b k e code, i ≠ .tableDisturbance b k e code) → exec i s = .next t →
    t.entry tb s.tables.active n = s.entry tb s.tables.active n ∨
    t.entry tb s.tables.active n =
      ⟨(s.entry tb s.tables.active n).fields.withState (corruptCode tb), (s.entry tb s.tables.active n).code⟩

/-! ### Cells and link ports -/

/-- R184, R2: how the fields of an arriving cell are read: the header is good when byte 9 is the CRC-8 of bytes 0 to 8 and the kind code, bits 7..4
of byte 0, is at most 7; the class is bits 3..2 of byte 0, the mark bit 7 of byte 1, the gap request bits 3..0 of byte 1, the destination bits
3..0 of byte 2 and byte 3; the payload is bytes 10 to 73, its CRC-16 stands in bytes 74 and 75, high byte first. -/
def Obligations.CellFieldsAreReadByPosition : Prop :=
  ∀ cell : Cell,
    (∀ k : CellKind, goodHeaderKind cell = some k ↔ crc8 (cell.toList.take 9) = cell[9] ∧ cell[0].toNat / 16 = k.code.toNat) ∧
    (goodHeaderKind cell = none ↔ crc8 (cell.toList.take 9) ≠ cell[9] ∨ 8 ≤ cell[0].toNat / 16) ∧
    (cellClass cell).val = cell[0].toNat / 4 % 4 ∧ (cellMark cell = true ↔ 128 ≤ cell[1].toNat) ∧ cellGap cell = cell[1].toNat % 16 ∧
    cellDest cell = 256 * (cell[2].toNat % 16) + cell[3].toNat ∧
    (∀ n : Fin 64, (cellPayload cell)[n.val] = cell[10 + n.val]) ∧
    (payloadCheckGood cell = true ↔ (crc16 (cellPayload cell).toList).toNat = 256 * cell[74].toNat + cell[75].toNat)

/-- R1, R87, R184, R185: a cell the device builds: class 0, First and Last set, mark clear, gap request 0, destination 0, the plane number as
source slot, sequence 0, length 64 (0 for IDLE), both checks good, and the payload bytes of its kind. A forwarded cell (R1, R96)
differs from the stored one in three things: the mark, which is set where asked and never cleared, the gap request, which is 0, and the header check,
which is good. -/
def Obligations.CellsAreBuiltAndForwardedByteForByte : Prop :=
  (∀ (plane : BitVec 3) (epoch : Epoch) (flags : FlagSet) (links : LinkSet) (paused : Nat → Bool) (record : Payload),
     (∀ cell kind length, (cell, kind, length) ∈
         [(idleCell plane, CellKind.idle, (0 : Byte)), (mrspCell plane record, .mrsp, 64), (attnCell plane epoch flags links, .attn, 64),
          (flowstCell plane epoch paused, .flowst, 64)] →
       goodHeaderKind cell = some kind ∧ payloadCheckGood cell = true ∧ cellClass cell = 0 ∧ cell[0].getLsbD 1 = true ∧ cell[0].getLsbD 0 = true ∧
       cell[1] = 0 ∧ cellDest cell = 0 ∧ cell[4].toNat = plane.toNat ∧ cell[5] = 0 ∧ cell[6] = 0 ∧ cell[7] = length ∧ cell[8] = 0) ∧
     (∀ n : Fin 64, (cellPayload (idleCell plane))[n.val] = 0) ∧ cellPayload (mrspCell plane record) = record ∧
     (let p := cellPayload (attnCell plane epoch flags links)
      p[0].toNat * 256 + p[1].toNat = epoch.toNat ∧ p[2] = flags ∧ (∀ l : Fin 32, (p[3 + l.val / 8]).getLsbD (l.val % 8) = links.getLsbD l.val) ∧
      ∀ n : Fin 57, p[7 + n.val] = 0) ∧
     (let p := cellPayload (flowstCell plane epoch paused)
      p[0].toNat * 256 + p[1].toNat = epoch.toNat ∧ (∀ q : Fin 128, (p[2 + q.val / 8]).getLsbD (q.val % 8) = paused q.val) ∧
      ∀ n : Fin 46, p[18 + n.val] = 0)) ∧
  (∀ (cell : Cell) (mark : Bool),
     (∀ n : Fin 76, n.val ≠ 1 → n.val ≠ 9 → (egressCell cell mark)[n.val] = cell[n.val]) ∧
     cellMark (egressCell cell mark) = (cellMark cell || mark) ∧ cellGap (egressCell cell mark) = 0 ∧
     (egressCell cell mark)[1].toNat / 16 % 8 = cell[1].toNat / 16 % 8 ∧ headerCheckGood (egressCell cell mark) = true)

/-- R2, R3, R4, R7: a cell on a link outside UP. DISABLED ignores it. FAULTED counts an error and discards it. TRAINING counts an error, takes the
gap request of a good header, and adds 1 to the training count for an IDLE that does not reach 64, or sets it to 0 for anything else.
The IDLE that brings the count to 64 takes the link to UP (R9): error budget 0, retrain count 0, gap count 15, cause NONE, the window stopped, the
keepalive started, disable-pending clear, the far-end gap request the one just copied; queues and pool are untouched. -/
def Obligations.CellsOutsideUp : Prop :=
  (∀ (l : Link) (cell : Cell) (s : State), s.rstN = true →
     ((s.link l).state = .disabled → exec (.cellArrival l cell) s = .next s) ∧
     ((s.link l).state = .faulted → goodHeaderKind cell = none →
       exec (.cellArrival l cell) s = .next (s.countLink l fun k => { k with headerErrors := min (k.headerErrors + 1) 4294967295 })) ∧
     ((s.link l).state = .faulted → (goodHeaderKind cell).isSome = true →
       exec (.cellArrival l cell) s = .next (s.countLink l fun k =>
         { k with payloadErrors := if payloadCheckGood cell = true then k.payloadErrors else min (k.payloadErrors + 1) 4294967295 })) ∧
     ((s.link l).state = .training → goodHeaderKind cell = none →
       exec (.cellArrival l cell) s = .next (s.modLink l fun p =>
         { p with trainCount := 0, counters := { p.counters with headerErrors := min (p.counters.headerErrors + 1) 4294967295 } })) ∧
     (∀ kind, (s.link l).state = .training → goodHeaderKind cell = some kind → (kind = .idle → (s.link l).trainCount < 63) →
       exec (.cellArrival l cell) s = .next (s.modLink l fun p =>
         { p with farGap := cellGap cell, trainCount := if kind = .idle then p.trainCount + 1 else 0,
                  counters := { p.counters with
                    payloadErrors := if payloadCheckGood cell = true then p.counters.payloadErrors else min (p.counters.payloadErrors + 1) 4294967295 } }))) ∧
  (∀ (l : Link) (cell : Cell) (s : State), s.rstN = true → (s.link l).state = .training → (s.link l).trainCount = 63 →
     goodHeaderKind cell = some .idle → ∃ t, exec (.cellArrival l cell) s = .next t ∧
       (t.link l).sameButPending { s.link l with
         state := .up, disablePending := false, trainCount := 64, window := .idle, keepalive := .running s.params.keepalive, budget := 0,
         retrainCount := 0, cause := .none, gapCount := 15, farGap := cellGap cell,
         counters := { (s.link l).counters with
           payloadErrors := if payloadCheckGood cell = true then (s.link l).counters.payloadErrors else min ((s.link l).counters.payloadErrors + 1) 4294967295 } } ∧
       s.otherLinksKept t l ∧ t.queues = s.queues ∧ t.pool = s.pool ∧ t.flow = s.flow ∧ t.agent = s.agent ∧ s.banksKept t ∧ s.recordsKept t ∧
       t.globals = { s.globals with failOvers := t.globals.failOvers } ∧ s.restKept t)

/-- R2, R4, R10, R11, R12, R75, R112: a bad cell in UP is counted and adds 32 to the error budget; at the threshold the link enters FAULTED with cause
Errors, which flushes its queues with one pause change report if any was PAUSED. A payload error has a good header, so it also restarts the keepalive and gives its gap request.
At fault entry the in-flight reference is released before those of the queues, and IDLE follows a cell cut off at once: the model's reading (log
entries 11 and 14). -/
def Obligations.BadCellsInUp : Prop :=
  ∀ (l : Link) (cell : Cell) (s : State), s.rstN = true → (s.link l).state = .up →
    (goodHeaderKind cell = none →
      let judged := s.modLink l fun p =>
        { p with budget := min 65535 (p.budget + 32), counters := { p.counters with headerErrors := min (p.counters.headerErrors + 1) 4294967295 } }
      ((judged.link l).budget < s.params.budgetThreshold → exec (.cellArrival l cell) s = .next judged) ∧
      (s.params.budgetThreshold ≤ (judged.link l).budget →
        ∃ t, exec (.cellArrival l cell) s = .next t ∧ judged.entersFaulted l .errors t)) ∧
    ((goodHeaderKind cell).isSome = true → payloadCheckGood cell = false →
      let judged := s.modLink l fun p =>
        { p with budget := min 65535 (p.budget + 32), farGap := cellGap cell, keepalive := .running s.params.keepalive,
                 counters := { p.counters with payloadErrors := min (p.counters.payloadErrors + 1) 4294967295 } }
      ((judged.link l).budget < s.params.budgetThreshold → exec (.cellArrival l cell) s = .next judged) ∧
      (s.params.budgetThreshold ≤ (judged.link l).budget →
        ∃ t, exec (.cellArrival l cell) s = .next t ∧ judged.entersFaulted l .errors t))

/-- R2, R3, R4, R10, R11, R15: a good cell in UP restarts the keepalive, gives its gap request, takes 1 from the error budget and, but for an IDLE,
is counted as good. A data cell joins the receive buffer, or overruns a full one; a FLOWST, MRSP or ATTN is a stray cell.
An MREQ (R134, R135) from a link outside the permitted set is counted as unpermitted; with 8 requests queued it is dropped and RequestDropped is set;
otherwise it joins the request queue with its arrival link. -/
def Obligations.GoodCellsInUp : Prop :=
  (∀ (l : Link) (cell : Cell) (s : State) (kind : CellKind), s.rstN = true → (s.link l).state = .up → goodHeaderKind cell = some kind →
     payloadCheckGood cell = true →
     let credited := s.modLink l fun p =>
       { p with budget := p.budget - 1, farGap := cellGap cell, keepalive := .running s.params.keepalive,
                counters := if kind = .idle then p.counters else { p.counters with goodCells := min (p.counters.goodCells + 1) 4294967295 } }
     (kind = .idle → exec (.cellArrival l cell) s = .next credited) ∧
     (kind = .ucast ∨ kind = .mcast → (s.link l).rxBuf.length < 4 →
       exec (.cellArrival l cell) s = .next (credited.modLink l fun p => { p with rxBuf := p.rxBuf ++ [cell] })) ∧
     (kind = .ucast ∨ kind = .mcast → 4 ≤ (s.link l).rxBuf.length →
       exec (.cellArrival l cell) s = .next (credited.countLink l fun k => { k with overruns := min (k.overruns + 1) 4294967295 })) ∧
     (kind = .flowst ∨ kind = .mrsp ∨ kind = .attn →
       exec (.cellArrival l cell) s = .next (credited.countGlobal fun k => { k with strayCells := min (k.strayCells + 1) 4294967295 }))) ∧
  (∀ (l : Link) (cell : Cell) (s : State), s.rstN = true → (s.link l).state = .up → goodHeaderKind cell = some .mreq → payloadCheckGood cell = true →
     let credited := s.modLink l fun p =>
       { p with budget := p.budget - 1, farGap := cellGap cell, keepalive := .running s.params.keepalive,
                counters := { p.counters with goodCells := min (p.counters.goodCells + 1) 4294967295 } }
     (LinkSet.has s.agent.permitted l = false →
       exec (.cellArrival l cell) s = .next (credited.countGlobal fun k => { k with unpermitted := min (k.unpermitted + 1) 4294967295 })) ∧
     (LinkSet.has s.agent.permitted l = true → 8 ≤ s.agent.queue.length → ∃ t, exec (.cellArrival l cell) s = .next t ∧
       t.globals = { s.globals with dropped := min (s.globals.dropped + 1) 4294967295 } ∧ FlagSet.has t.attn.flags .requestDropped = true ∧
       t.agent = s.agent ∧ (∀ k, (t.link k).sameButPending (credited.link k)) ∧ t.queues = s.queues ∧ t.pool = s.pool ∧ t.tables = s.tables ∧
       t.flow = s.flow ∧ s.recordsKept t ∧ s.restKept t) ∧
     (LinkSet.has s.agent.permitted l = true → s.agent.queue.length < 8 →
       exec (.cellArrival l cell) s =
         .next { credited with agent := { s.agent with queue := s.agent.queue ++ [⟨l, cellPayload cell⟩] } }))

/-- R122, R123, R120: a good SYNC in UP with the number N of its first two payload bytes. Off the timing link it is a stray sync. On it, N = E only
restarts the timer; N = E + 1 is an epoch change; any other N is an epoch change, an epoch slip and a raise of EpochSlip. -/
def Obligations.SyncsArrive : Prop :=
  ∀ (l : Link) (cell : Cell) (s : State), s.rstN = true → (s.link l).state = .up → goodHeaderKind cell = some .sync → payloadCheckGood cell = true →
    let credited := s.modLink l fun p =>
      { p with budget := p.budget - 1, farGap := cellGap cell, keepalive := .running s.params.keepalive,
               counters := { p.counters with goodCells := min (p.counters.goodCells + 1) 4294967295 } }
    ∀ n : Epoch, n.toNat = 256 * cell[10].toNat + cell[11].toNat →
    (s.params.timingLink ≠ some l →
      exec (.cellArrival l cell) s = .next (credited.countGlobal fun k => { k with straySyncs := min (k.straySyncs + 1) 4294967295 })) ∧
    (s.params.timingLink = some l → n = s.epoch.number →
      exec (.cellArrival l cell) s = .next { credited with epoch := { s.epoch with timer := .running s.params.epochPeriod } }) ∧
    (s.params.timingLink = some l → n ≠ s.epoch.number → ∃ t, exec (.cellArrival l cell) s = .next t ∧ credited.epochChanged n t ∧
      t.queues = s.queues ∧ t.pool = s.pool ∧ t.agent = s.agent ∧ t.params = s.params ∧ t.op = s.op ∧ t.scrub = s.scrub ∧ t.monitor = s.monitor ∧
      (n = s.epoch.number + 1 → t.globals = s.globals) ∧
      (n ≠ s.epoch.number + 1 → t.globals = { s.globals with epochSlips := min (s.globals.epochSlips + 1) 4294967295 } ∧
        FlagSet.has t.attn.flags .epochSlip = true))

/-- R8, R10, R12, R75, R112: the expiry of the training window in TRAINING, and of the keepalive timer in UP, puts the link in FAULTED with its
cause, which flushes its queues with one pause change report if any was PAUSED. At hold-off expiry (R13, R6) a link whose retrain count is below the limit, or whose limit is 0, enters TRAINING and counts a retrain;
otherwise it stays FAULTED with the timer stopped and nothing else changes.
The order of the releases at fault entry and the IDLE after a cell cut off are the model's reading (log entries 11 and 14). -/
def Obligations.LinkTimersExpire : Prop :=
  (∀ (l : Link) (s : State), s.rstN = true →
     ((s.link l).state = .training → (s.link l).window ≠ .idle →
       ∃ t, exec (.trainingWindowExpiry l) s = .next t ∧ s.entersFaulted l .training t) ∧
     ((s.link l).state = .up → (s.link l).keepalive ≠ .idle →
       ∃ t, exec (.keepaliveExpiry l) s = .next t ∧ s.entersFaulted l .keepalive t)) ∧
  (∀ (l : Link) (s : State), s.rstN = true → (s.link l).state = .faulted → (s.link l).holdOff ≠ .idle →
     (s.params.retrainLimit = 0 ∨ (s.link l).retrainCount < s.params.retrainLimit →
       ∃ t, exec (.holdOffExpiry l) s = .next t ∧
         (t.link l).sameButPending { s.link l with
           state := .training, trainCount := 0, window := .running 10000, holdOff := .idle, sending := .cell .idle (idleCell s.straps.plane),
           counters := { (s.link l).counters with retrains := min ((s.link l).counters.retrains + 1) 4294967295 } } ∧
         s.otherLinksKept t l ∧ t.queues = s.queues ∧ t.pool = s.pool ∧ t.flow = s.flow ∧ t.agent = s.agent ∧ t.globals = s.globals ∧
         t.tables = s.tables ∧ s.recordsKept t ∧ s.restKept t) ∧
     (s.params.retrainLimit ≠ 0 → s.params.retrainLimit ≤ (s.link l).retrainCount →
       exec (.holdOffExpiry l) s = .next (s.modLink l fun p => { p with holdOff := .idle })))

/-- R37, R38: within a link change that takes a link out of UP or into UP, exactly the destinations named by the rule move to their other
candidate, and each move is counted as a fail-over; the entries read are those of the active bank and the link states those after the change. -/
def Obligations.SelectorsFollowLinkChanges : Prop :=
  ∀ (i : Instr) (s t : State) (l : Link), i.isReset = false → exec i s = .next t →
    ((s.link l).state = .up → (t.link l).state ≠ .up →
      let moved := fun d : Link =>
        (s.activeDest d.val).isActive && decide (selectedNumber (s.activeDest d.val) (slot s.tables.selectors d) = some l.val) &&
          (otherNumber (s.activeDest d.val) (slot s.tables.selectors d)).any t.numberUp
      (∀ d, slot t.tables.selectors d = if moved d = true then (slot s.tables.selectors d).flip else slot s.tables.selectors d) ∧
      t.globals.failOvers = min (s.globals.failOvers + (List.finRange 32).countP moved) 4294967295) ∧
    ((s.link l).state ≠ .up → (t.link l).state = .up →
      let moved := fun d : Link =>
        (s.activeDest d.val).isActive && decide (otherNumber (s.activeDest d.val) (slot s.tables.selectors d) = some l.val) &&
          !(selectedNumber (s.activeDest d.val) (slot s.tables.selectors d)).any t.numberUp
      (∀ d, slot t.tables.selectors d = if moved d = true then (slot s.tables.selectors d).flip else slot s.tables.selectors d) ∧
      t.globals.failOvers = min (s.globals.failOvers + (List.finRange 32).countP moved) 4294967295)

/-- R177, R178: a raise sets its flag, masked or not. Unmasked, it sets the pending ATTN flag on every permitted link in UP and starts the hold-off
timer while that timer is IDLE, and sets raised-while-running while it runs; masked, it does neither. -/
def Obligations.RaisesAlertPermittedLinks : Prop :=
  ∀ (s : State) (f : AttnFlag),
    (∀ g, FlagSet.has (s.raise f).attn.flags g = (decide (g = f) || FlagSet.has s.attn.flags g)) ∧
    (s.raise f).attn.links = s.attn.links ∧ s.recordsKept (s.raise f) ∧
    (FlagSet.has s.params.attnMask f = true →
      (s.raise f).attn.timer = s.attn.timer ∧ (s.raise f).attn.raisedWhileRunning = s.attn.raisedWhileRunning ∧ (s.raise f).links = s.links) ∧
    (FlagSet.has s.params.attnMask f = false → s.attn.timer = .idle →
      (s.raise f).attn.timer = .running s.params.attnHoldOff ∧ (s.raise f).attn.raisedWhileRunning = s.attn.raisedWhileRunning ∧
      ∀ l, (s.raise f).link l =
        { s.link l with pendAttn := (s.link l).pendAttn || (LinkSet.has s.agent.permitted l && decide ((s.link l).state = .up)) }) ∧
    (FlagSet.has s.params.attnMask f = false → s.attn.timer ≠ .idle →
      (s.raise f).attn.timer = s.attn.timer ∧ (s.raise f).attn.raisedWhileRunning = true ∧ (s.raise f).links = s.links) ∧
    (s.raise f).queues = s.queues ∧ (s.raise f).pool = s.pool ∧ (s.raise f).tables = s.tables ∧ (s.raise f).flow = s.flow ∧
    (s.raise f).globals = s.globals ∧ (s.raise f).agent = s.agent ∧ s.restKept (s.raise f)

/-! ### Admission -/

/-- R47: a UCAST cell whose destination field is over 31 is dropped as no-route; no Destination entry is read and no Route Selector consulted. -/
def Obligations.UnicastBeyondMapIsNoRoute : Prop :=
  ∀ (l : Link) (cell : Cell) (rest : List Cell) (s : State), s.rstN = true → s.serves l cell rest → s.memtestRunning = false →
    cellKind cell = some .ucast → 32 ≤ cellDest cell →
    exec .admission s = .next ((s.taking l rest).countLink l fun k => { k with noRoute := min (k.noRoute + 1) 4294967295 })

/-- R41, R42, R45: every admission serves the first link after the pointer that holds a cell and takes its oldest cell; while a memory test is
RUNNING the cell is a test drop, whatever its kind, and nothing else changes.
R27, R48, R29, R30: a UCAST cell whose destination gives no route: an entry CORRUPT or found bad by this lookup, which is then marked, is
a corrupt route; a good UNASSIGNED entry is no route; a good ISOLATED entry is isolated. -/
def Obligations.CellsWithoutRouteAreDropped : Prop :=
  (∀ (l : Link) (cell : Cell) (rest : List Cell) (s : State), s.rstN = true → s.serves l cell rest → s.memtestRunning = true →
     exec .admission s = .next ((s.taking l rest).countLink l fun k => { k with testDrops := min (k.testDrops + 1) 4294967295 })) ∧
  (∀ (l : Link) (cell : Cell) (rest : List Cell) (s : State), s.rstN = true → s.serves l cell rest → s.memtestRunning = false →
     cellKind cell = some .ucast → cellDest cell < 32 →
     let e := s.entry .destination s.tables.active (cellDest cell)
     (e.fields.state = 3 →
       exec .admission s = .next ((s.taking l rest).countLink l fun k => { k with corruptRoute := min (k.corruptRoute + 1) 4294967295 })) ∧
     (s.storesCanonical → badEntry e → ∃ t, exec .admission s = .next t ∧ s.marks .destination s.tables.active (cellDest cell) t ∧
       (∀ k, (t.link k).sameButPending
         (((s.taking l rest).countLink l fun c => { c with corruptRoute := min (c.corruptRoute + 1) 4294967295 }).link k)) ∧
       t.queues = s.queues ∧ t.pool = s.pool ∧ t.tables.selectors = s.tables.selectors ∧ t.tables.active = s.tables.active ∧
       t.flow = s.flow ∧ t.agent = s.agent ∧ t.attn.miss = s.attn.miss ∧ (s.taking l rest).restKept t) ∧
     (goodEntry e → e.fields.state = 0 →
       exec .admission s = .next ((s.taking l rest).countLink l fun k => { k with noRoute := min (k.noRoute + 1) 4294967295 })) ∧
     (goodEntry e → e.fields.state = 2 →
       exec .admission s = .next ((s.taking l rest).countLink l fun k => { k with isolated := min (k.isolated + 1) 4294967295 })))

/-- R50: a unicast cell whose selected link is in TRAINING or FAULTED is dropped as unreachable, and the ingress link's unreachable counter is
incremented; no floor and no limit is consulted. -/
def Obligations.UnicastUnreachable : Prop :=
  ∀ (l d k : Link) (cell : Cell) (rest : List Cell) (s : State), s.rstN = true → s.serves l cell rest → s.memtestRunning = false →
    cellKind cell = some .ucast → cellDest cell = d.val →
    goodEntry (s.entry .destination s.tables.active d.val) → (s.activeDest d.val).state = 1 → s.routeLink d = (k, s) →
    (s.link k).state = .training ∨ (s.link k).state = .faulted →
    exec .admission s = .next ((s.taking l rest).countLink l fun c => { c with unreachable := min (c.unreachable + 1) 4294967295 })

/-- R49, R51 to R55, R65, R68: a unicast cell with a route to an accepting link: a free count not above the class floor is a floor drop; a queue at
its limit is a tail drop; otherwise the cell is stored in the head buffer of the free list with count 1 and one entry is appended to the queue.
The route (R35, R27) is the primary link when the selector is PRIMARY and the spare link when it is SPARE. -/
def Obligations.UnicastAdmission : Prop :=
  (∀ (s : State) (d k : Link) (primary : Byte) (spare : Option (BitVec 7)), s.activeDest d.val = ⟨1, primary, spare⟩ →
     (slot s.tables.selectors d = .primary → primary.toNat = k.val → s.routeLink d = (k, s)) ∧
     (slot s.tables.selectors d = .spare → spare.map BitVec.toNat = some k.val → s.routeLink d = (k, s))) ∧
  (∀ (l d k : Link) (cell : Cell) (rest : List Cell) (s : State), s.rstN = true → s.serves l cell rest → s.memtestRunning = false →
     cellKind cell = some .ucast → cellDest cell = d.val →
     goodEntry (s.entry .destination s.tables.active d.val) → (s.activeDest d.val).state = 1 → s.routeLink d = (k, s) →
     (s.link k).state = .up ∨ (s.link k).state = .disabled →
     let u := s.taking l rest
     let c := cellClass cell
     (s.pool.free.length ≤ slot s.params.floor c →
       exec .admission s = .next (u.countLink l fun n => { n with floorDrops := min (n.floorDrops + 1) 4294967295 })) ∧
     (slot s.params.floor c < s.pool.free.length → slot s.params.limit c ≤ (s.queue (queueId k c)).entries.length →
       exec .admission s = .next (u.countQueue (queueId k c) fun n => { n with tailDrops := min (n.tailDrops + 1) 4294967295 })) ∧
     (∀ h free, s.storesCanonical → slot s.params.floor c < s.pool.free.length → (s.queue (queueId k c)).entries.length < slot s.params.limit c →
       s.pool.free = h :: free → ∃ t, exec .admission s = .next t ∧ u.stores cell c [k] h free t ∧
         (∀ n, (t.link n).sameButPending (u.link n)) ∧ t.tables = s.tables ∧ t.globals = s.globals ∧ t.flow = s.flow ∧ t.agent = s.agent ∧
         s.recordsKept t ∧ u.restKept t))

/-- R25, R56, R181: an MCAST cell whose group is CORRUPT, or INVALID with a good check, is a group miss: it is counted on the ingress link and
offered to the miss record, which an empty record takes with GroupMiss set and a full one only counts, GroupMiss not raised; a bad entry is marked
first (R30), and the offer follows in the same way. -/
def Obligations.MulticastMisses : Prop :=
  ∀ (l : Link) (cell : Cell) (rest : List Cell) (s : State), s.rstN = true → s.serves l cell rest → s.memtestRunning = false →
    cellKind cell = some .mcast →
    let e := s.entry .group s.tables.active (cellDest cell)
    let missed := (s.taking l rest).countLink l fun c => { c with groupMisses := min (c.groupMisses + 1) 4294967295 }
    (e.fields.state = 2 ∨ (goodEntry e ∧ e.fields.state = 0) →
      (s.attn.miss = none → ∃ t, exec .admission s = .next t ∧ t.attn.miss = some ⟨cellDest cell, l, s.epoch.number, 0⟩ ∧
        FlagSet.has t.attn.flags .groupMiss = true ∧ (∀ k, (t.link k).sameButPending (missed.link k)) ∧ t.queues = s.queues ∧ t.pool = s.pool ∧
        t.tables = s.tables ∧ t.globals = s.globals ∧ t.flow = s.flow ∧ t.agent = s.agent ∧ t.attn.links = s.attn.links ∧
        t.attn.lastCorrupt = s.attn.lastCorrupt ∧ (s.taking l rest).restKept t) ∧
      (∀ r, s.attn.miss = some r →
        exec .admission s = .next { missed with attn := { s.attn with miss := some { r with count := min 65535 (r.count + 1) } } })) ∧
    (s.storesCanonical → badEntry e → ∃ t, exec .admission s = .next t ∧ s.marks .group s.tables.active (cellDest cell) t ∧
      (∀ k, (t.link k).sameButPending (missed.link k)) ∧ t.queues = s.queues ∧ t.pool = s.pool ∧ t.flow = s.flow ∧ t.agent = s.agent ∧
      (s.taking l rest).restKept t ∧ t.tables.selectors = s.tables.selectors ∧ t.tables.active = s.tables.active ∧
      t.attn.miss = (match s.attn.miss with
        | none => some ⟨cellDest cell, l, s.epoch.number, 0⟩
        | some r => some { r with count := min 65535 (r.count + 1) }) ∧
      FlagSet.has t.attn.flags .groupMiss = (s.attn.miss.isNone || FlagSet.has s.attn.flags .groupMiss))

/-- R57, R58, R59: an MCAST cell of a VALID group with a good check. On the copy class a failed floor test drops the whole cell, counted once. Then
each member is suppressed (the ingress link, with Source suppress set), unreachable, a tail drop or admitted, by the state and the depth before
the admission; with no member admitted the cell is dropped as no copies; with some it is stored once, with a count of the members admitted. -/
def Obligations.MulticastWalk : Prop :=
  ∀ (l : Link) (cell : Cell) (rest : List Cell) (s : State) (g : GroupFields) (c : Sys2Proof.Class), s.rstN = true → s.serves l cell rest →
    s.memtestRunning = false → cellKind cell = some .mcast →
    (s.entry .group s.tables.active (cellDest cell)).fields = .group g → goodEntry (s.entry .group s.tables.active (cellDest cell)) → g.state = 1 →
    (match g.classOverride with | some v => v.toNat = c.val | none => c = cellClass cell) →
    let members := (List.finRange 32).filter fun m => LinkSet.has g.members m && !(g.sourceSuppress && decide (m = l))
    let accepting := fun m : Link => decide ((s.link m).state = .up ∨ (s.link m).state = .disabled)
    let room := fun m : Link => decide ((s.queue (queueId m c)).entries.length < slot s.params.limit c)
    let admitted := members.filter fun m => accepting m && room m
    let u := s.taking l rest
    (s.pool.free.length ≤ slot s.params.floor c →
      exec .admission s = .next (u.countLink l fun n => { n with floorDrops := min (n.floorDrops + 1) 4294967295 })) ∧
    (slot s.params.floor c < s.pool.free.length → s.storesCanonical → ∃ v : State,
      -- what the walk counts
      (∀ k, v.link k = if k = l then
        { u.link l with counters := { (u.link l).counters with
            unreachable := min ((u.link l).counters.unreachable + members.countP fun m => !accepting m) 4294967295,
            noCopies := if admitted = [] then min ((u.link l).counters.noCopies + 1) 4294967295 else (u.link l).counters.noCopies } }
        else u.link k) ∧
      (∀ q, v.queue q = if queueClass q = c ∧ queueLink q ∈ members ∧ accepting (queueLink q) = true ∧ room (queueLink q) = false then
        { s.queue q with counters := { (s.queue q).counters with tailDrops := min ((s.queue q).counters.tailDrops + 1) 4294967295 } }
        else s.queue q) ∧
      v = { u with links := v.links, queues := v.queues } ∧
      -- what it does with the cell
      (admitted = [] → exec .admission s = .next v) ∧
      (∀ h free, admitted ≠ [] → s.pool.free = h :: free → ∃ t, exec .admission s = .next t ∧ v.stores cell c admitted h free t ∧
        (∀ k, (t.link k).sameButPending (v.link k)) ∧ t.tables = s.tables ∧ t.globals = s.globals ∧ t.flow = s.flow ∧ t.agent = s.agent ∧
        s.recordsKept t ∧ u.restKept t))

/-! ### Egress -/

/-- R82, R83, R84, R85, R86, R87, R89, R139: with no data cell in flight, the next cell of a link in UP is the oldest MRSP, whose place a response
held for the link takes; else an ATTN if that flag is set and the link is permitted; else a FLOWST if that flag is set; else, with no data to
send, an IDLE. The ATTN flag is dropped unsent on a link that is not permitted. Each adds 1 to the gap count, up to 15. -/
def Obligations.NonDataCellsInOrder : Prop :=
  ∀ (l : Link) (s : State), s.rstN = true → (s.link l).state = .up → (s.link l).inFlight = none →
    (∀ record more, (s.link l).respQueue = record :: more → (∀ r, s.agent.held = some r → r.link ≠ l) →
      exec (.nextCellEvent l) s = .next (s.modLink l fun p =>
        { p with respQueue := more, sending := .cell .mrsp (mrspCell s.straps.plane record), gapCount := min 15 (p.gapCount + 1) })) ∧
    (∀ record more waiting, (s.link l).respQueue = record :: more → s.agent.held = some ⟨l, waiting⟩ →
      exec (.nextCellEvent l) s = .next { s.modLink l (fun p =>
        { p with respQueue := more ++ [waiting], sending := .cell .mrsp (mrspCell s.straps.plane record), gapCount := min 15 (p.gapCount + 1) })
        with agent := { s.agent with held := none } }) ∧
    ((s.link l).respQueue = [] → (s.link l).pendAttn = true → LinkSet.has s.agent.permitted l = true →
      exec (.nextCellEvent l) s = .next (s.modLink l fun p =>
        { p with pendAttn := false, sending := .cell .attn (attnCell s.straps.plane s.epoch.number s.attn.flags s.attn.links),
                 gapCount := min 15 (p.gapCount + 1) })) ∧
    ((s.link l).respQueue = [] → ((s.link l).pendAttn = true → LinkSet.has s.agent.permitted l = false) →
      ((s.link l).pendFlowst = true →
        exec (.nextCellEvent l) s = .next (s.modLink l fun p =>
          { p with pendAttn := false, pendFlowst := false, gapCount := min 15 (p.gapCount + 1),
                   sending := .cell .flowst (flowstCell s.straps.plane s.epoch.number fun n =>
                     decide (∃ q : QueueId, q.val = n ∧ (s.queue q).pause = .paused)) })) ∧
      ((s.link l).pendFlowst = false →
        (∀ k, (s.queue (queueId l k)).entries = []) ∨ (s.link l).gapCount < max (slot s.params.gap l) (s.link l).farGap →
        exec (.nextCellEvent l) s = .next (s.modLink l fun p =>
          { p with pendAttn := false, sending := .cell .idle (idleCell s.straps.plane), gapCount := min 15 (p.gapCount + 1) })))

/-- R83, R85, R89, R90, R91, R93, R94, R96, R1: a data cell is chosen when nothing goes before it, a queue holds an entry and the gap count has
reached the effective gap. A pending ATTN flag on a link that is not permitted does not go before it: the flag is dropped unsent. The head of the chosen queue leaves it and is in flight; the cell sent is the stored one with the mark set if it arrived
marked or the decision marks it, the gap request 0 and the header check recomputed; the mark counter follows the level; the gap count is 0.
The round robin (R91) keeps its class while that has entries and credit, and otherwise moves to the next class of the cycle 1, 2, 3, 1 that has
entries, its credit reloaded. -/
def Obligations.DataCellsAreSelectedAndMarked : Prop :=
  (∀ (l : Link) (s : State) (k : WrrClass) (r : Nat), s.params.inRange →
     (s.waiting l k.toClass = true → 0 < r → s.wrrWalk l 3 k r = some (k, r - 1)) ∧
     (s.waiting l k.toClass = false ∨ r = 0 → s.waiting l k.next.toClass = true →
       s.wrrWalk l 3 k r = some (k.next, s.params.weight k.next - 1)) ∧
     (s.waiting l k.toClass = false ∨ r = 0 → s.waiting l k.next.toClass = false → s.waiting l k.next.next.toClass = true →
       s.wrrWalk l 3 k r = some (k.next.next, s.params.weight k.next.next - 1)) ∧
     (s.waiting l k.toClass = true → r = 0 → s.waiting l k.next.toClass = false → s.waiting l k.next.next.toClass = false →
       s.wrrWalk l 3 k r = some (k, s.params.weight k - 1))) ∧
  (∀ (l : Link) (s : State) (c : Sys2Proof.Class) (k : WrrClass) (r : Nat) (e : QueueEntry) (more : List QueueEntry) (cell : Cell),
     s.rstN = true → (s.link l).state = .up → (s.link l).inFlight = none → (s.link l).respQueue = [] →
     ((s.link l).pendAttn = true → LinkSet.has s.agent.permitted l = false) → (s.link l).pendFlowst = false →
     max (slot s.params.gap l) (s.link l).farGap ≤ (s.link l).gapCount →
     (if s.waiting l 0 = true then c = 0 ∧ k = (s.link l).wrrClass ∧ r = (s.link l).wrrCount
       else s.wrrWalk l 3 (s.link l).wrrClass (s.link l).wrrCount = some (k, r) ∧ c = k.toClass) →
     (s.queue (queueId l c)).entries = e :: more → s.pool.stored e.handle = some cell →
     let out := s.queue (queueId l c)
     let marks := match out.level with | .full => true | .part => decide (2 ^ s.params.m ≤ out.markCount + 1) | .none => false
     let mark := e.arrivedMarked || marks
     ∃ t, exec (.nextCellEvent l) s = .next t ∧
       t.link l = { s.link l with
         pendAttn := false, inFlight := some e.handle, gapCount := 0, wrrClass := k, wrrCount := r,
         sending := .cell .data (egressCell cell mark) } ∧
       t.queue (queueId l c) = { out with
         entries := more
         markCount := match out.level with | .full => out.markCount | .part => if marks = true then 0 else out.markCount + 1 | .none => 0
         counters := { out.counters with marked := if mark = true then min (out.counters.marked + 1) 4294967295 else out.counters.marked } } ∧
       (∀ q, q ≠ queueId l c → t.queue q = s.queue q) ∧ (∀ n, n ≠ l → t.link n = s.link n) ∧ t = { s with links := t.links, queues := t.queues })

/-- R16, R19, R82, R96: at the normal end of an in-flight data cell its reference is released and the cell counted as transmitted; then the link
chooses its next cell as any link in UP without one in flight does, or, with disable-pending set, enters DISABLED (R18): the receive buffer, the
responses and the pending flags go with their counts, nothing is sent, and the queues are held.
A release (R67, R68) lowers the count of its handle by 1 and no other; the last one appends the handle at the tail of the free list.
A DISABLED link sends nothing (log entry 14). -/
def Obligations.DataCellsEnd : Prop :=
  (∀ (p : Pool) (threshold : Nat) (h : Handle), Memory.wf 0 p.refs = true → p.latch = decide (p.free.length < threshold) →
     (∀ a, (p.release threshold h).refCount a = if a = h then p.refCount a - 1 else p.refCount a) ∧
     (p.release threshold h).free = (if p.refCount h = 1 then p.free ++ [h] else p.free) ∧
     (p.release threshold h).latch = decide ((p.release threshold h).free.length < threshold) ∧
     (p.release threshold h).buffers = p.buffers ∧ (p.release threshold h).retired = p.retired ∧ (p.release threshold h).underTest = p.underTest) ∧
  (∀ (l : Link) (s : State) (h : Handle), s.rstN = true → (s.link l).state = .up → (s.link l).inFlight = some h →
     let ended := { s.modLink l (fun p =>
         { p with inFlight := none, counters := { p.counters with dataCellsTransmitted := min (p.counters.dataCellsTransmitted + 1) 4294967295 } })
       with pool := s.pool.release s.params.poolLow h }
     ((s.link l).disablePending = false → exec (.nextCellEvent l) s = exec (.nextCellEvent l) ended) ∧
     ((s.link l).disablePending = true → ∃ t, exec (.nextCellEvent l) s = .next t ∧ ended.entersDisabled l t))

/-! ### Congestion, flow status, time and attention -/

/-- R103: the step of the average is the difference divided by 2^w, rounded to the nearest whole number and to the even one at a half: no whole
number is nearer, and at a half it is even. So the new average lies between the old one and 16 times the depth, inclusive. -/
def Obligations.AveragesMoveTowardTheDepth : Prop :=
  (∀ (d : Int) (w : Nat),
    2 * (roundedQuotient d w * 2 ^ w - d) ≤ 2 ^ w ∧ 2 * (d - roundedQuotient d w * 2 ^ w) ≤ 2 ^ w ∧
    (2 * (roundedQuotient d w * 2 ^ w - d) = 2 ^ w ∨ 2 * (d - roundedQuotient d w * 2 ^ w) = 2 ^ w → roundedQuotient d w % 2 = 0)) ∧
  ∀ average depth w : Nat, 1 ≤ w →
    (nextAverage average depth w : Int) = average + roundedQuotient (16 * depth - average) w ∧
    min average (16 * depth) ≤ nextAverage average depth w ∧ nextAverage average depth w ≤ max average (16 * depth)

/-- R100, R101, R102, R103, R105, R107, R112: a monitor step visits the first queue after the cursor, wrapping, whose link is UP or DISABLED, and
sets the cursor to it: the average moves, the level follows the new average, the mark counter is cleared where the level leaves PARTIAL, the
pause state follows the depth; a pause change starts an IDLE coalescing timer, or owes a FLOWST at once with a hold-off of 0.
A step that finds no eligible queue visits none: only the timer is restarted. -/
def Obligations.MonitorSteps : Prop :=
  (∀ (s : State) (q : QueueId), s.rstN = true → s.monitor.timer ≠ .idle →
     ((s.link (queueLink q)).state = .up ∨ (s.link (queueLink q)).state = .disabled) →
     (∀ p : QueueId, (p - s.monitor.cursor - 1).val < (q - s.monitor.cursor - 1).val →
       (s.link (queueLink p)).state = .training ∨ (s.link (queueLink p)).state = .faulted) →
     let out := s.queue q
     let c := queueClass q
     let depth := out.entries.length
     let average := nextAverage out.average depth s.params.w
     let level := if average < slot s.params.markLow c then MarkLevel.none else if average < slot s.params.markHigh c then .part else .full
     let pause := match out.pause with
       | .clear => if slot s.params.xoff c ≤ depth then PauseState.paused else .clear
       | .paused => if depth ≤ slot s.params.xon c then PauseState.clear else .paused
     ∃ t, exec .monitorStep s = .next t ∧
       t.queue q = { out with
         average := average, level := level, pause := pause, markCount := if out.level = .part ∧ level ≠ .part then 0 else out.markCount } ∧
       (∀ p, p ≠ q → t.queue p = s.queue p) ∧ t.monitor = ⟨q, .running s.params.monitorStep⟩ ∧
       s.pauseReported (decide (pause ≠ out.pause)) t ∧ t = { s with queues := t.queues, monitor := t.monitor, flow := t.flow, links := t.links }) ∧
  (∀ s : State, s.rstN = true → s.monitor.timer ≠ .idle → (∀ l, (s.link l).state = .training ∨ (s.link l).state = .faulted) →
     exec .monitorStep s = .next { s with monitor := { s.monitor with timer := .running s.params.monitorStep } })

/-- R119, R120: the expiry of the epoch timer advances E by 1 mod 65536, restarts the timer and makes an epoch change.
R113, R116: the expiry of the coalescing timer sends it to IDLE and owes a FLOWST: the pending flag is set on every recipient in UP and on no
other link.
R179: when the attention hold-off timer expires with raised-while-running set, the pending ATTN flag is set on every permitted link in UP, the
indication is cleared and the timer restarted; with it clear, the timer goes to IDLE. -/
def Obligations.EpochCoalescingAndAttentionTimersExpire : Prop :=
  (∀ s : State, s.rstN = true → s.epoch.timer ≠ .idle → ∃ t, exec .epochTimerExpiry s = .next t ∧
     t.epoch.number.toNat = (s.epoch.number.toNat + 1) % 65536 ∧ s.epochChanged (s.epoch.number + 1) t ∧
     t = { s with epoch := t.epoch, flow := t.flow, links := t.links, tables := t.tables, attn := t.attn }) ∧
  (∀ s : State, s.rstN = true → s.flow.coalescing ≠ .idle → ∃ t, exec .coalescingTimerExpiry s = .next t ∧
     t.flow = { s.flow with coalescing := .idle } ∧ s.owed t ∧ t = { s with flow := t.flow, links := t.links }) ∧
  (∀ s : State, s.rstN = true → s.attn.timer ≠ .idle →
     (s.attn.raisedWhileRunning = true → ∃ t, exec .attentionHoldOffExpiry s = .next t ∧
       t.attn = { s.attn with timer := .running s.params.attnHoldOff, raisedWhileRunning := false } ∧
       (∀ l, t.link l = { s.link l with
         pendAttn := (s.link l).pendAttn || (LinkSet.has s.agent.permitted l && decide ((s.link l).state = .up)) }) ∧
       t = { s with attn := t.attn, links := t.links }) ∧
     (s.attn.raisedWhileRunning = false →
       exec .attentionHoldOffExpiry s = .next { s with attn := { s.attn with timer := .idle } }))

/-! ### Tables, the scrubber and the Operation Unit -/

/-- R28, R29: a disturbance alters the stored content and check code of one entry and nothing else: no flag, counter, selector or other entry.
That it does so while RST_N is low too is the model's choice (log entry 2).
R170, R171, R29, R30: a scrub step takes the entry at the cursor, in the order bank 0 Group, bank 0 Destination, bank 1 Group, bank 1
Destination, and moves the cursor on, wrapping after 8256; a good or CORRUPT entry is passed, a bad one is marked CORRUPT. -/
def Obligations.EntriesAreDisturbedAndScrubbed : Prop :=
  (∀ (s : State) (b : Bank) (n : Nat) (e : EntryFields) (code : Byte), s.storesCanonical → n < e.table.size →
     ∃ t, exec (.tableDisturbance b n e code) s = .next t ∧ t.entry e.table b n = ⟨e, code⟩ ∧
       (∀ tb' b' n', (tb', b', n') ≠ (e.table, b, n) → t.entry tb' b' n' = s.entry tb' b' n') ∧
       t.tables.selectors = s.tables.selectors ∧ t.tables.active = s.tables.active ∧ t = { s with tables := t.tables }) ∧
  (∀ (s : State) (tb : Table) (b : Bank) (n : Nat), s.rstN = true → s.scrub.timer ≠ .idle → 1 ≤ s.params.scrubStep → n < tb.size →
     s.scrub.cursor.val = (match tb with | .group => 0 | .destination => 4096) + 4128 * b.val + n →
     let moved := { s with scrub := ⟨⟨(s.scrub.cursor.val + 1) % 8256, by omega⟩, .running s.params.scrubStep⟩ }
     (s.entry tb b n).fields.table = tb ∧
     ((s.entry tb b n).fields.state = corruptCode tb ∨ goodEntry (s.entry tb b n) → exec .scrubStep s = .next moved) ∧
     (s.storesCanonical → badEntry (s.entry tb b n) → ∃ t, exec .scrubStep s = .next t ∧ s.marks tb b n t ∧ t.scrub = moved.scrub ∧
       t.tables.selectors = s.tables.selectors ∧ t.tables.active = s.tables.active ∧ (∀ k, (t.link k).sameButPending (s.link k)) ∧
       t = { s with scrub := t.scrub, tables := t.tables, globals := t.globals, attn := t.attn, links := t.links }))

/-- R158, R159, R160, R28: a Fill step writes the carried entry with a fresh check code at the index named by progress, in the bank fixed at the
start, and counts it; the step at the last index ends the Fill with OperationEnded, any other leaves it RUNNING.
R158, R159, R162, R163: a Copy step writes to the destination bank the source entry at the copy position as stored, or the initial entry where
its State is CORRUPT or names no state, with a fresh check code; position 4127 ends the Copy.
R158, R159, R164, R186: a Digest step feeds the serialization of the entry named by progress, as stored, into the CRC register; the step at the
last index ends the Digest with the register inverted and reflected as its value; no entry changes. -/
def Obligations.FillCopyAndDigestSteps : Prop :=
  (∀ (s : State) (b : Bank) (e : EntryFields) (first last n written : Nat), s.rstN = true → s.storesCanonical →
     s.op = some ⟨.running, n, .fill b e first last written⟩ → ∃ t, exec .fillStep s = .next t ∧ s.writes e.table b n e t ∧
       t.op = some ⟨if n < last then .running else .done, n + 1, .fill b e first last (written + 1)⟩ ∧ s.operationStepped (decide (n < last)) t ∧
       t.pool = s.pool) ∧
  (∀ (s : State) (source dest : Bank) (tb : Table) (n written asInitial : Nat), s.rstN = true → s.storesCanonical → n < tb.size →
     let position := (match tb with | .group => 0 | .destination => 4096) + n
     s.op = some ⟨.running, position, .copy source dest written asInitial⟩ →
     let e := (s.entry tb source n).fields
     let asIs := decide (e.state.toNat < (corruptCode tb).toNat)
     ∃ t, exec .copyStep s = .next t ∧ s.writes tb dest n (if asIs = true then e else initialEntry tb) t ∧
       t.op = some ⟨if position < 4127 then .running else .done, position + 1,
         .copy source dest (written + 1) (if asIs = true then asInitial else asInitial + 1)⟩ ∧ s.operationStepped (decide (position < 4127)) t ∧
       t.pool = s.pool) ∧
  (∀ (s : State) (tb : Table) (b : Bank) (role : Role) (n digested : Nat) (register : BitVec 32) (value : Option (BitVec 32)), s.rstN = true →
     s.op = some ⟨.running, n, .digest tb b role digested register value⟩ →
     let fed := digestFeed register (s.entry tb b n).fields.serialize
     ∃ t, exec .digestStep s = .next t ∧ t.tables = s.tables ∧ t.pool = s.pool ∧
       t.op = some (if n + 1 < tb.size then ⟨.running, n + 1, .digest tb b role (digested + 1) fed none⟩
         else ⟨.done, n + 1, .digest tb b role (digested + 1) fed (some (~~~fed).reverse)⟩) ∧
       s.operationStepped (decide (n + 1 < tb.size)) t)

/-- R158, R159, R166, R167, R70: a Memory Test step applies the verdict on the handle named by progress: a pass moves a retired handle under test,
a fail retires it and records the first one; the step for handle 16383 rebuilds the free list in ascending order from the handles under test,
re-evaluates the latch and records the retired count.
That the tested buffer stores no cell afterwards is the model's form of R166 (log entry 15). -/
def Obligations.MemoryTestSteps : Prop :=
  ∀ (s : State) (passes : Bool) (n tested failed : Nat) (first retiredAtEnd : Option Nat), s.rstN = true → s.storesCanonical →
    s.op = some ⟨.running, n, .memtest tested failed first retiredAtEnd⟩ → ∃ t, exec (.memtestStep passes) s = .next t ∧
      (∀ h, h ∈ t.pool.retired ↔ if h = n then passes = false else h ∈ s.pool.retired) ∧
      (let tests := fun h => if h = n then (if passes = true then h ∈ s.pool.underTest ∨ h ∈ s.pool.retired else False) else h ∈ s.pool.underTest
       (n + 1 < 16384 → (∀ h, h ∈ t.pool.underTest ↔ tests h) ∧ t.pool.free = s.pool.free ∧ t.pool.latch = s.pool.latch) ∧
       (16384 ≤ n + 1 → t.pool.underTest = [] ∧ (∀ h, h ∈ t.pool.free ↔ tests h) ∧ t.pool.free.Pairwise (· < ·) ∧
         t.pool.latch = decide (t.pool.free.length < s.params.poolLow))) ∧
      t.pool.stored n = none ∧ (∀ h, h ≠ n → t.pool.stored h = s.pool.stored h) ∧ t.pool.refs = s.pool.refs ∧ t.tables = s.tables ∧
      t.op = some ⟨if n + 1 < 16384 then .running else .done, n + 1, .memtest (tested + 1) (if passes = true then failed else failed + 1)
        (if passes = true then first else some (first.getD n)) (if n + 1 < 16384 then none else some t.pool.retired.length)⟩ ∧
      s.operationStepped (decide (n + 1 < 16384)) t

/-! ### The Management Agent -/

/-- R136, R137, R138, R142: a READY agent takes the head request, executes it and places its response in one event, without waiting for the link to
send it. The response echoes the kind and the tag and gives one of the six results; one of BUSY, BAD_RANGE, BAD_STATE or UNKNOWN changes nothing else,
and its data is all zero, but for Set Parameter. -/
def Obligations.RequestsAreAnsweredOnTheirLink : Prop :=
  ∀ (i : Instr) (s : State) (l : Link) (record : Payload) (rest : List Carried), i.serves = some (requestRow record) → s.hasRequest l record rest →
    ∃ (u : State) (reply : Payload), s.answers i u l rest reply ∧
      recByte reply 0 = recByte record 0 ∧ recWord reply 2 = recWord record 2 ∧ (recByte reply 1).toNat ≤ 5 ∧
      (2 ≤ (recByte reply 1).toNat → u = s ∧ (recByte record 0 ≠ 0x40 → ∀ n, 4 ≤ n → recByte reply n = 0))

/-- R143, R182, R187: Read Identity answers 1842, 6420, revision 1, 32 links, 16384 buffers, 4096 groups and the straps as sampled; Read Status of a
link 0..31 answers every field of the status layout as it stands, and is refused with BAD_RANGE for a link over 31. Neither changes anything. -/
def Obligations.IdentityAndStatusAreReported : Prop :=
  ∀ (s : State) (l : Link) (r : Payload) (rest : List Carried), s.hasRequest l r rest →
    (recByte r 0 = 0x01 → s.answers .readIdentity s l rest (replyBytes r 0
      [0x07, 0x32, 0x19, 0x14, 0x01, 0x20, 0x40, 0x00, 0x10, 0x00, BitVec.ofNat 8 s.straps.plane.toNat, BitVec.ofNat 8 s.straps.mgp.val,
       BitVec.ofNat 8 s.straps.mgs.val])) ∧
    (recByte r 0 = 0x02 → 32 ≤ (recByte r 4).toNat → s.answers .readStatus s l rest (replyBytes r 3 [])) ∧
    (∀ k : Link, recByte r 0 = 0x02 → (recByte r 4).toNat = k.val → ∃ reply, s.answers .readStatus s l rest reply ∧
      recByte reply 0 = 0x02 ∧ recByte reply 1 = 0 ∧ recWord reply 2 = recWord r 2 ∧
      (∀ n : Link, (recByte reply (4 + n.val / 4)).toNat / 4 ^ (n.val % 4) % 4 =
        match (s.link n).state with | .disabled => 0 | .training => 1 | .up => 2 | .faulted => 3) ∧
      (∀ n : Link, (recByte reply (12 + n.val / 8)).getLsbD (n.val % 8) =
        (decide ((s.link n).state = .up) && (s.link n).disablePending)) ∧
      (recByte reply 16).toNat = k.val ∧
      (recByte reply 17).toNat = (match (s.link k).cause with | .none => 0 | .training => 1 | .keepalive => 2 | .errors => 3) ∧
      recWord reply 18 = BitVec.ofNat 16 (s.link k).budget ∧ recByte reply 20 = BitVec.ofNat 8 (s.link k).retrainCount ∧
      recByte reply 21 = BitVec.ofNat 8 (s.link k).farGap ∧
      (∀ d : Link, (recByte reply (22 + d.val / 8)).getLsbD (d.val % 8) = decide (slot s.tables.selectors d = .spare)) ∧
      recWord reply 26 = s.epoch.number ∧ recByte reply 28 = (if s.epoch.swapPending = true then 1 else 0) ∧ recWord reply 29 = s.epoch.target ∧
      (match s.epoch.lastSwap with
        | none => recByte reply 31 = 0 ∧ recWord reply 32 = 0
        | some e => recByte reply 31 = 1 ∧ recWord reply 32 = e) ∧
      (recByte reply 34).toNat = s.tables.active.val ∧ recWord reply 35 = BitVec.ofNat 16 s.pool.free.length ∧
      recWord reply 37 = BitVec.ofNat 16 s.pool.retired.length ∧ operationAt reply 39 s.op ∧ recByte reply 55 = BitVec.ofNat 8 rest.length ∧
      ∀ n, 56 ≤ n → recByte reply n = 0)

/-- R144: Read Queue Snapshot of a link 0..31 answers, for each class, the depth, the average, the mark level and the pause state of the queue as
they stand, and changes nothing; a link over 31 is refused with BAD_RANGE. -/
def Obligations.QueueSnapshotReportsFourQueues : Prop :=
  ∀ (s : State) (l : Link) (r : Payload) (rest : List Carried), s.hasRequest l r rest → recByte r 0 = 0x03 →
    (32 ≤ (recByte r 4).toNat → s.answers .readQueueSnapshot s l rest (replyBytes r 3 [])) ∧
    ∀ k : Link, (recByte r 4).toNat = k.val → ∃ reply, s.answers .readQueueSnapshot s l rest reply ∧
      recByte reply 0 = 0x03 ∧ recByte reply 1 = 0 ∧ recWord reply 2 = recWord r 2 ∧ (recByte reply 4).toNat = k.val ∧
      (∀ c : Sys2Proof.Class,
        recWord reply (5 + 6 * c.val) = BitVec.ofNat 16 (s.queue (queueId k c)).entries.length ∧
        recWord reply (7 + 6 * c.val) = BitVec.ofNat 16 (s.queue (queueId k c)).average ∧
        (recByte reply (9 + 6 * c.val)).toNat = (match (s.queue (queueId k c)).level with | .none => 0 | .part => 1 | .full => 2) ∧
        (recByte reply (10 + 6 * c.val)).toNat = (match (s.queue (queueId k c)).pause with | .clear => 0 | .paused => 1)) ∧
      ∀ n, 29 ≤ n → recByte reply n = 0

/-- R145, R174, R187: Read Counters answers every counter of the group named, four bytes each in the order of the group's table, and with the Clear
flag sets them to 0 in the same event; an unknown group, a link over 31 or a class over 3 is refused with BAD_RANGE. -/
def Obligations.CountersAreReadAndCleared : Prop :=
  ∀ (s : State) (l : Link) (r : Payload) (rest : List Carried), s.hasRequest l r rest → recByte r 0 = 0x04 →
    let clear := (recByte r 1).getLsbD 0
    (2 < (recByte r 4).toNat ∨ ((recByte r 4).toNat < 2 ∧ 31 < (recByte r 5).toNat) ∨ ((recByte r 4).toNat = 1 ∧ 3 < (recByte r 6).toNat) →
      s.answers .readCounters s l rest (replyBytes r 3 [])) ∧
    (∀ k : Link, (recByte r 4).toNat = 0 → (recByte r 5).toNat = k.val → ∃ reply,
      s.answers .readCounters (if clear = true then s.countLink k fun _ => ⟨0, 0, 0, 0, 0, 0, 0, 0, 0, 0, 0, 0, 0, 0, 0⟩ else s) l rest reply ∧
      recByte reply 1 = 0 ∧ (∀ n, n < 15 → recLong reply (4 + 4 * n) = BitVec.ofNat 32 ((s.link k).counters.all.getD n 0))) ∧
    (∀ (k : Link) (c : Sys2Proof.Class), (recByte r 4).toNat = 1 → (recByte r 5).toNat = k.val → (recByte r 6).toNat = c.val → ∃ reply,
      s.answers .readCounters (if clear = true then s.countQueue (queueId k c) fun _ => ⟨0, 0, 0, 0⟩ else s) l rest reply ∧
      recByte reply 1 = 0 ∧ (∀ n, n < 4 → recLong reply (4 + 4 * n) = BitVec.ofNat 32 ((s.queue (queueId k c)).counters.all.getD n 0))) ∧
    ((recByte r 4).toNat = 2 → ∃ reply,
      s.answers .readCounters (if clear = true then { s with globals := ⟨0, 0, 0, 0, 0, 0, 0, 0⟩ } else s) l rest reply ∧
      recByte reply 1 = 0 ∧ (∀ n, n < 8 → recLong reply (4 + 4 * n) = BitVec.ofNat 32 (s.globals.all.getD n 0)))

/-- R146, R173, R180, R181: Read Attention answers the flags, the link set and the last-corrupt record, and clears the flags and the link set only;
Read Miss Record answers the miss record and empties it. (The bytes of an empty record are free values, log entry 8.) -/
def Obligations.AttentionAndMissesAreReadAndCleared : Prop :=
  ∀ (s : State) (l : Link) (r : Payload) (rest : List Carried), s.hasRequest l r rest →
    (recByte r 0 = 0x05 → ∃ reply,
      s.answers .readAttention ({ s with attn := { s.attn with flags := 0, links := 0 } }) l rest reply ∧
      recByte reply 1 = 0 ∧ recByte reply 4 = s.attn.flags ∧ (∀ k : Link, (recByte reply (5 + k.val / 8)).getLsbD (k.val % 8) = LinkSet.has s.attn.links k) ∧
      (match s.attn.lastCorrupt with
        | none => recByte reply 9 = 0
        | some c => recByte reply 9 = 1 ∧ recByte reply 10 = (match c.table with | .group => 0 | .destination => 1) ∧
            (recByte reply 11).toNat = c.bank.val ∧ recWord reply 12 = BitVec.ofNat 16 c.index) ∧
      ∀ n, 14 ≤ n → recByte reply n = 0) ∧
    (recByte r 0 = 0x06 → ∃ reply,
      s.answers .readMissRecord ({ s with attn := { s.attn with miss := none } }) l rest reply ∧ recByte reply 1 = 0 ∧
      (match s.attn.miss with
        | none => recByte reply 4 = 0
        | some m => recByte reply 4 = 1 ∧ recWord reply 5 = BitVec.ofNat 16 m.group ∧ (recByte reply 7).toNat = m.link.val ∧
            recWord reply 8 = m.epoch ∧ recWord reply 10 = BitVec.ofNat 16 m.count) ∧
      ∀ n, 12 ≤ n → recByte reply n = 0)

/-- R147, R186: Read Entries is refused with BAD_RANGE for a code or a range outside the table, then with BUSY while a Fill or Copy has that table
of that bank in its scope; otherwise it answers the bank and the entries as stored, unverified, and changes nothing.
R33, R186: a carried entry is read by position: the State, the Source suppress bit and the member set or the primary link, and an override or a
spare only where bit 7 of byte 2 is set; it may be written when its State is a defined one other than CORRUPT, an override is at most 3, and the
primary and a spare are at most 31 and differ. Read back, it gives its serialization. -/
def Obligations.EntriesAreReadAsStored : Prop :=
  (∀ (s : State) (l : Link) (r : Payload) (rest : List Carried), s.hasRequest l r rest → recByte r 0 = 0x10 →
     let first := (recWord r 6).toNat
     let count := (recByte r 8).toNat
     (1 < (recByte r 4).toNat ∨ 1 < (recByte r 5).toNat ∨ count < 1 ∨ 6 < count ∨
         (recByte r 4 = 0 ∧ 4096 < first + count) ∨ (recByte r 4 = 1 ∧ 32 < first + count) →
       s.answers .readEntries s l rest (replyBytes r 3 [])) ∧
     ∀ (tb : Table) (role : Role), (recByte r 4).toNat = (match tb with | .group => 0 | .destination => 1) →
       (recByte r 5).toNat = (match role with | .active => 0 | .standby => 1) → 1 ≤ count → count ≤ 6 → first + count ≤ tb.size →
       (s.writerCovers tb (s.bankOf role) = true → s.answers .readEntries s l rest (replyBytes r 2 [])) ∧
       (s.writerCovers tb (s.bankOf role) = false → ∃ reply, s.answers .readEntries s l rest reply ∧ recByte reply 1 = 0 ∧
         (recByte reply 4).toNat = (s.bankOf role).val ∧ recByte reply 5 = 0 ∧ recByte reply 6 = 0 ∧ recByte reply 7 = 0 ∧
         (∀ k j, k < count → j < 8 →
           recByte reply (8 + 8 * k + j) = (s.entry tb (s.bankOf role) (first + k)).fields.serialize.getD j 0) ∧
         ∀ n, 8 + 8 * count ≤ n → recByte reply n = 0)) ∧
  (∀ b : Vector Byte 8,
     parseEntry .group b.toList = .group ⟨b[0], b[1].getLsbD 0, if b[2].getLsbD 7 = true then some (b[2].extractLsb' 0 7) else none,
       b[7] ++ b[6] ++ b[5] ++ b[4]⟩ ∧
     parseEntry .destination b.toList = .destination ⟨b[0], b[1], if b[2].getLsbD 7 = true then some (b[2].extractLsb' 0 7) else none⟩ ∧
     (∀ tb, parseEntry tb (parseEntry tb b.toList).serialize = parseEntry tb b.toList) ∧
     (∀ g, mayBeWritten (.group g) ↔ g.state.toNat < 2 ∧ ∀ v ∈ g.classOverride, v.toNat ≤ 3) ∧
     (∀ d, mayBeWritten (.destination d) ↔
       d.state.toNat < 3 ∧ d.primary.toNat ≤ 31 ∧ ∀ v ∈ d.spare, v.toNat ≤ 31 ∧ v.toNat ≠ d.primary.toNat))

/-- R148, R149, R31, R33, R39: Write Entries writes all its entries, with fresh check codes, to the standby bank, or none; it is refused with
BAD_RANGE, then BAD_STATE for a PENDING swap, then BUSY. Repair Entry writes one entry of the active bank whose State is CORRUPT; it is refused with
BAD_RANGE, then BUSY, then BAD_STATE; a repaired Destination entry re-evaluates its selector without counting a fail-over.
Either is refused with BAD_RANGE where it names no table. -/
def Obligations.EntriesAreWrittenAndRepaired : Prop :=
  (∀ (s : State) (l : Link) (r : Payload) (rest : List Carried) (tb : Table), s.hasRequest l r rest → s.storesCanonical →
     (recByte r 4).toNat = (match tb with | .group => 0 | .destination => 1) →
     let first := (recWord r 6).toNat
     let count := (recByte r 8).toNat
     let standby := s.bankOf .standby
     let active := s.tables.active
     let carried := fun k => recEntry r tb (16 + 8 * k)
     let fits := 1 ≤ count ∧ count ≤ 6 ∧ first + count ≤ tb.size ∧ ∀ k, k < count → mayBeWritten (carried k)
     let owned := s.writerCovers tb standby = true ∨ s.digestCovers tb standby = true
     (recByte r 0 = 0x11 →
       (¬ fits → s.answers .writeEntries s l rest (replyBytes r 3 [])) ∧
       (fits → s.epoch.swapPending = true → s.answers .writeEntries s l rest (replyBytes r 4 [])) ∧
       (fits → s.epoch.swapPending = false → owned → s.answers .writeEntries s l rest (replyBytes r 2 [])) ∧
       (fits → s.epoch.swapPending = false → ¬ owned → ∃ tables,
         s.answers .writeEntries ({ s with tables := tables }) l rest (replyBytes r 0 [BitVec.ofNat 8 standby.val]) ∧
         tables.active = active ∧ tables.selectors = s.tables.selectors ∧
         ∀ tb' b n, ({ s with tables := tables } : State).entry tb' b n =
           if tb' = tb ∧ b = standby ∧ first ≤ n ∧ n < first + count then ⟨carried (n - first), crc8 (carried (n - first)).serialize⟩
           else s.entry tb' b n)) ∧
     (recByte r 0 = 0x12 →
       (tb.size ≤ first ∨ ¬ mayBeWritten (carried 0) → s.answers .repairEntry s l rest (replyBytes r 3 [])) ∧
       (first < tb.size → mayBeWritten (carried 0) →
         (s.digestCovers tb active = true → s.answers .repairEntry s l rest (replyBytes r 2 [])) ∧
         (s.digestCovers tb active = false → (s.entry tb active first).fields.state ≠ corruptCode tb →
           s.answers .repairEntry s l rest (replyBytes r 4 [])) ∧
         (s.digestCovers tb active = false → (s.entry tb active first).fields.state = corruptCode tb → ∃ tables,
           s.answers .repairEntry ({ s with tables := tables }) l rest (replyBytes r 0 [BitVec.ofNat 8 active.val]) ∧
           tables.active = active ∧
           (∀ tb' b n, ({ s with tables := tables } : State).entry tb' b n =
             if tb' = tb ∧ b = active ∧ n = first then ⟨carried 0, crc8 (carried 0).serialize⟩ else s.entry tb' b n) ∧
           ∀ d : Link, slot tables.selectors d =
             if tb = .destination ∧ d.val = first then
               (let e := ({ s with tables := tables } : State).activeDest first
                if e.state = 1 ∧ s.numberUp e.primary.toNat = false ∧ (e.spare.map BitVec.toNat).any s.numberUp = true then .spare else .primary)
             else slot s.tables.selectors d)))) ∧
  (∀ (s : State) (l : Link) (r : Payload) (rest : List Carried), s.hasRequest l r rest → 1 < (recByte r 4).toNat →
     (recByte r 0 = 0x11 → s.answers .writeEntries s l rest (replyBytes r 3 [])) ∧
     (recByte r 0 = 0x12 → s.answers .repairEntry s l rest (replyBytes r 3 [])))

/-- R150, R151, R160, R162, R164, R166, R70: each long request is judged in its order and, if it passes, replaces the record by a RUNNING one with its
scope resolved to physical banks, answers ACCEPTED with that record, and changes nothing else, but that a Memory Test moves every free handle under
test and re-evaluates the latch without setting PoolLow. -/
def Obligations.LongRequestsStartOperations : Prop :=
  ∀ (s : State) (l : Link) (r : Payload) (rest : List Carried), s.hasRequest l r rest →
    let refused := fun (i : Instr) (result : Byte) => s.answers i s l rest (replyBytes r result [])
    let starts := fun (i : Instr) (u : State) (record : OpRecord) => ∃ reply,
      s.answers i ({ u with op := some record }) l rest reply ∧ recByte reply 0 = recByte r 0 ∧ recByte reply 1 = 1 ∧
      recWord reply 2 = recWord r 2 ∧ operationAt reply 4 (some record) ∧ ∀ n, 20 ≤ n → recByte reply n = 0
    (recByte r 0 = 0x13 →
      (1 < (recByte r 4).toNat → refused .fillEntries 3) ∧
      ∀ tb : Table, (recByte r 4).toNat = (match tb with | .group => 0 | .destination => 1) →
        let first := (recWord r 6).toNat
        let last := (recWord r 8).toNat
        let e := recEntry r tb 16
        (last < first ∨ tb.size ≤ last ∨ ¬ mayBeWritten e → refused .fillEntries 3) ∧
        (first ≤ last → last < tb.size → mayBeWritten e →
          (s.epoch.swapPending = true → refused .fillEntries 4) ∧
          (s.epoch.swapPending = false → s.opRunning = true → refused .fillEntries 2) ∧
          (s.epoch.swapPending = false → s.opRunning = false →
            starts .fillEntries s ⟨.running, first, .fill (s.bankOf .standby) e first last 0⟩))) ∧
    (recByte r 0 = 0x14 →
      (s.epoch.swapPending = true → refused .copyBank 4) ∧
      (s.epoch.swapPending = false → s.opRunning = true → refused .copyBank 2) ∧
      (s.epoch.swapPending = false → s.opRunning = false →
        starts .copyBank s ⟨.running, 0, .copy s.tables.active (s.bankOf .standby) 0 0⟩)) ∧
    (recByte r 0 = 0x15 →
      (1 < (recByte r 4).toNat ∨ 1 < (recByte r 5).toNat → refused .digestBank 3) ∧
      ∀ (tb : Table) (role : Role), (recByte r 4).toNat = (match tb with | .group => 0 | .destination => 1) →
        (recByte r 5).toNat = (match role with | .active => 0 | .standby => 1) →
        (s.opRunning = true → refused .digestBank 2) ∧
        (s.opRunning = false → starts .digestBank s ⟨.running, 0, .digest tb (s.bankOf role) role 0 (BitVec.allOnes 32) none⟩)) ∧
    (recByte r 0 = 0x34 →
      (s.opRunning = true → refused .startMemoryTest 2) ∧
      (s.opRunning = false → s.pool.free.length + s.pool.retired.length ≠ 16384 → refused .startMemoryTest 4) ∧
      (s.opRunning = false → s.pool.free.length + s.pool.retired.length = 16384 → ∃ underTest : List Handle,
        (∀ h, h ∈ underTest ↔ h ∈ s.pool.free ∨ h ∈ s.pool.underTest) ∧
        starts .startMemoryTest
          { s with pool := { s.pool with free := [], underTest := underTest, latch := decide (0 < s.params.poolLow) } }
          ⟨.running, 0, .memtest 0 0 none none⟩))

/-- R17, R18, R19, R152, R187: Link Control Enable and Disable, sent on link `l` for a link `k`, by the state of `k`; the range of link and action
is judged first, then the BUSY of an Enable during a memory test. The answer gives the link's state and its disable-pending flag afterwards.
That ENABLE answers an undefined action is the model's reading (log entry 7). -/
def Obligations.LinksAreEnabledAndDisabled : Prop :=
  ∀ (s : State) (l k : Link) (r : Payload) (rest : List Carried), s.hasRequest l r rest → recByte r 0 = 0x30 →
    let answer := fun (state pending : Byte) => replyBytes r 0 [BitVec.ofNat 8 k.val, state, pending]
    let pendingByte : Byte := if (s.link k).disablePending = true then 1 else 0
    (31 < (recByte r 4).toNat ∨ 3 < (recByte r 5).toNat →
      ∀ i, i.serves = some (requestRow r) → s.answers i s l rest (replyBytes r 3 [])) ∧
    ((recByte r 4).toNat = k.val → recByte r 5 = 0 →
      (s.memtestRunning = true → s.answers .enable s l rest (replyBytes r 2 [])) ∧
      (s.memtestRunning = false →
        ((s.link k).state = .training → s.answers .enable s l rest (answer 1 pendingByte)) ∧
        ((s.link k).state = .up →
          s.answers .enable (s.modLink k fun p => { p with disablePending := false }) l rest (answer 2 0)) ∧
        ((s.link k).state = .disabled ∨ (s.link k).state = .faulted → ∃ t,
          s.answers .enable t l rest (answer 1 pendingByte) ∧
          (t.link k).sameButPending { s.link k with
            state := .training, trainCount := 0, window := .running 10000, holdOff := .idle, sending := .cell .idle (idleCell s.straps.plane),
            retrainCount := if (s.link k).state = .faulted then 0 else (s.link k).retrainCount,
            counters := { (s.link k).counters with
              retrains := if (s.link k).state = .faulted then min ((s.link k).counters.retrains + 1) 4294967295 else (s.link k).counters.retrains } } ∧
          s.otherLinksKept t k ∧ t.queues = s.queues ∧ t.pool = s.pool ∧ t.flow = s.flow ∧ t.agent = s.agent ∧ t.globals = s.globals ∧
          t.tables = s.tables ∧ s.recordsKept t ∧ s.restKept t))) ∧
    ((recByte r 4).toNat = k.val → recByte r 5 = 1 →
      ((s.link k).state = .disabled → s.answers .disable s l rest (answer 0 pendingByte)) ∧
      ((s.link k).state = .up → (s.link k).inFlight.isSome = true →
        s.answers .disable (s.modLink k fun p => { p with disablePending := true }) l rest (answer 2 1)) ∧
      ((s.link k).state = .training ∨ (s.link k).state = .faulted ∨ ((s.link k).state = .up ∧ (s.link k).inFlight = none) → ∃ t,
        s.answers .disable t l rest (answer 0 0) ∧ s.entersDisabled k t))

/-- R20, R21, R74, R75, R76, R112: Flush empties the four queues of its link, head first in queue order, releasing each entry's reference, with one pause
change report if any was PAUSED, and leaves the link alone; Retrain is refused with BAD_STATE in DISABLED and TRAINING, and from UP
or FAULTED does what fault entry does, its one pause change report among it, but leaves the retrain count and the cause, starts no hold-off, and enters TRAINING counting a retrain.
The order of the releases at a Retrain and the IDLE after a cell cut off are the model's reading (log entries 11 and 14). -/
def Obligations.LinksAreFlushedAndRetrained : Prop :=
  ∀ (s : State) (l k : Link) (r : Payload) (rest : List Carried), s.hasRequest l r rest → recByte r 0 = 0x30 →
    (recByte r 4).toNat = k.val →
    (recByte r 5 = 2 → ∃ t,
      s.answers .flush t l rest (replyBytes r 0 [BitVec.ofNat 8 k.val,
        (match (s.link k).state with | .disabled => 0 | .training => 1 | .up => 2 | .faulted => 3),
        (if (s.link k).disablePending = true then 1 else 0)]) ∧
      (∀ c, s.queueFlushed t (queueId k c)) ∧ s.otherQueuesKept t k ∧
      t.pool = s.poolReleasing ((linkQueues k).flatMap fun q => (s.queue q).entries.map QueueEntry.handle) ∧
      s.pauseReported (s.anyPaused k) t ∧
      t = { s with queues := t.queues, pool := t.pool, flow := t.flow, links := t.links }) ∧
    (recByte r 5 = 3 →
      ((s.link k).state = .disabled ∨ (s.link k).state = .training → s.answers .retrain s l rest (replyBytes r 4 [])) ∧
      ((s.link k).state = .up ∨ (s.link k).state = .faulted → ∃ t,
        s.answers .retrain t l rest (replyBytes r 0 [BitVec.ofNat 8 k.val, 1, 0]) ∧
        t.link k = { s.link k with
          state := .training, disablePending := false, trainCount := 0, window := .running 10000, keepalive := .idle, holdOff := .idle, farGap := 0,
          rxBuf := [], respQueue := [], pendFlowst := false, pendAttn := false, inFlight := none, sending := .cell .idle (idleCell s.straps.plane),
          counters := { (s.link k).counters with
            overruns := min ((s.link k).counters.overruns + (s.link k).rxBuf.length) 4294967295
            aborted := if (s.link k).inFlight.isSome = true then min ((s.link k).counters.aborted + 1) 4294967295 else (s.link k).counters.aborted
            retrains := min ((s.link k).counters.retrains + 1) 4294967295 } } ∧
        (∀ c, s.queueFlushed t (queueId k c)) ∧ t.pool = s.poolReleasing (s.heldHandles k) ∧
        t.globals = { s.globals with
          discarded := min (s.globals.discarded + s.responsesOn k) 4294967295, failOvers := t.globals.failOvers } ∧
        (∀ n, n ≠ k → s.flushReported (s.anyPaused k) t n) ∧
        t.agent.held = none ∧ s.otherLinksKept t k ∧ s.otherQueuesKept t k ∧ s.banksKept t ∧ s.recordsKept t ∧ s.restKept t))

/-- R125, R126, R127, R152: Schedule Swap is refused with BAD_STATE while a swap is PENDING, then with BUSY while a Fill or Copy runs, then with
BAD_RANGE for a lead outside 2..4096; otherwise the record is PENDING with the target. Cancel Swap returns a PENDING record to NONE and keeps the
target; with none pending it is refused with BAD_STATE. The answer gives E and the record as the request leaves it. -/
def Obligations.SwapsAreScheduledAndCancelled : Prop :=
  ∀ (s : State) (l : Link) (r : Payload) (rest : List Carried), s.hasRequest l r rest →
    let word := fun v : BitVec 16 => [BitVec.ofNat 8 (v.toNat / 256), BitVec.ofNat 8 v.toNat]
    (recByte r 0 = 0x20 →
      let target := recWord r 4
      let lead := (target.toNat + 65536 - s.epoch.number.toNat) % 65536
      (s.epoch.swapPending = true → s.answers .scheduleSwap s l rest (replyBytes r 4 [])) ∧
      (s.epoch.swapPending = false → s.standbyWriterRunning = true → s.answers .scheduleSwap s l rest (replyBytes r 2 [])) ∧
      (s.epoch.swapPending = false → s.standbyWriterRunning = false → lead < 2 ∨ 4096 < lead →
        s.answers .scheduleSwap s l rest (replyBytes r 3 [])) ∧
      (s.epoch.swapPending = false → s.standbyWriterRunning = false → 2 ≤ lead → lead ≤ 4096 →
        s.answers .scheduleSwap ({ s with epoch := { s.epoch with swapPending := true, target := target } }) l rest
          (replyBytes r 0 (word s.epoch.number ++ [1] ++ word target)))) ∧
    (recByte r 0 = 0x21 →
      (s.epoch.swapPending = true →
        s.answers .cancelSwap ({ s with epoch := { s.epoch with swapPending := false } }) l rest
          (replyBytes r 0 (word s.epoch.number ++ [0] ++ word s.epoch.target))) ∧
      (s.epoch.swapPending = false → s.answers .cancelSwap s l rest (replyBytes r 4 [])))

/-- R78, R79, R168: Datapath Reset is answered DONE in every state. It aborts a RUNNING operation with OperationEnded set, empties all 128 queues with
their releases in queue order, empties every receive buffer into overruns, and resets every round robin to class 1 with weight[1]; it keeps the
tables, the link states, the parameters, the epoch items, the monitor walk, the scrubber, the agent, the pointer, and every data cell in flight.
R75, R112, R111: its flushes make one pause change report if any queue was PAUSED; the refresh countdown and every pending flag are kept, but for the
flags that the owing of a FLOWST or the raise of OperationEnded sets. -/
def Obligations.DatapathResetEmptiesTheDataPath : Prop :=
  ∀ (s : State) (l : Link) (r : Payload) (rest : List Carried), s.hasRequest l r rest → recByte r 0 = 0x32 → ∃ t,
    s.answers .datapathReset t l rest (replyBytes r 0 []) ∧
    (∀ q, s.queueFlushed t q) ∧ (∀ k, s.flushReported (decide (∃ q, (s.queue q).pause = .paused)) t k) ∧
    (s.opRunning = false → ∀ k, (t.link k).pendAttn = (s.link k).pendAttn) ∧
    (∀ k, (t.link k).sameButPending { s.link k with
      rxBuf := [], wrrClass := .one, wrrCount := s.params.weight1,
      counters := { (s.link k).counters with overruns := min ((s.link k).counters.overruns + (s.link k).rxBuf.length) 4294967295 } }) ∧
    (let handles := (List.finRange 128).flatMap fun q => (s.queue q).entries.map QueueEntry.handle
     (s.memtestRunning = false → t.pool = s.poolReleasing handles) ∧
     (s.memtestRunning = true → handles = [] → t.pool = { s.pool with
       free := s.pool.underTest, underTest := [], latch := decide (s.pool.underTest.length < s.params.poolLow) })) ∧
    (s.opRunning = false → t.op = s.op ∧ t.attn = s.attn) ∧
    (∀ progress w, s.op = some ⟨.running, progress, w⟩ → FlagSet.has t.attn.flags .operationEnded = true ∧
      t.op = some ⟨.aborted, progress, match w with
        | .memtest tested failed first _ => .memtest tested failed first (some s.pool.retired.length)
        | other => other⟩) ∧
    t.tables = s.tables ∧ t.globals = s.globals ∧ t.agent = s.agent ∧ t.params = s.params ∧ t.monitor = s.monitor ∧ t.epoch = s.epoch ∧
    t.scrub = s.scrub ∧ t.rrPtr = s.rrPtr ∧ t.straps = s.straps ∧ s.recordsKept t ∧ t.attn.links = s.attn.links

/-- R115: Send Flow-Status Now owes a FLOWST at its execution and is answered DONE in every state; it touches neither the coalescing timer nor the
refresh countdown. -/
def Obligations.SendFlowStatusNowOwesAtOnce : Prop :=
  ∀ (s : State) (l : Link) (r : Payload) (rest : List Carried), s.hasRequest l r rest → recByte r 0 = 0x33 → ∃ t,
    s.answers .sendFlowStatusNow t l rest (replyBytes r 0 []) ∧ s.owed t ∧ t = { s with links := t.links }

/-- R135, R137: Set Management Links replaces the permitted set by the set carried, and is refused with BAD_RANGE for the empty set; a request whose
kind byte holds no defined code is answered UNKNOWN and changes nothing. -/
def Obligations.ManagementLinksAndUnknownKinds : Prop :=
  ∀ (s : State) (l : Link) (r : Payload) (rest : List Carried), s.hasRequest l r rest →
    (recByte r 0 = 0x31 →
      ((∀ n, 16 ≤ n → n < 20 → recByte r n = 0) → s.answers .setManagementLinks s l rest (replyBytes r 3 [])) ∧
      (∀ n, 16 ≤ n → n < 20 → recByte r n ≠ 0 → ∃ set : LinkSet,
        s.answers .setManagementLinks ({ s with agent := { s.agent with permitted := set } }) l rest (replyBytes r 0 []) ∧
        ∀ k : Link, LinkSet.has set k = (recByte r (16 + k.val / 8)).getLsbD (k.val % 8))) ∧
    ((recByte r 0).toNat ∉ [0x01, 0x02, 0x03, 0x04, 0x05, 0x06, 0x10, 0x11, 0x12, 0x13, 0x14, 0x15, 0x20, 0x21, 0x30, 0x31, 0x32, 0x33, 0x34, 0x40, 0x41] →
      s.answers .undefinedRequest s l rest (replyBytes r 5 []))

/-- R155, R188: Read Parameter is refused with BAD_RANGE where the id and index name no parameter; otherwise it is answered DONE with the id, the index
and the value in force (32 for a timing link of NONE), and changes nothing. -/
def Obligations.ReadParameterReportsTheValueInForce : Prop :=
  ∀ (s : State) (l : Link) (r : Payload) (rest : List Carried), s.hasRequest l r rest → recByte r 0 = 0x41 →
    (paramOf (recByte r 4) (recByte r 5) = none → s.answers .readParameter s l rest (replyBytes r 3 [])) ∧
    ∀ p, paramOf (recByte r 4) (recByte r 5) = some p → ∃ reply, s.answers .readParameter s l rest reply ∧
      recByte reply 0 = 0x41 ∧ recByte reply 1 = 0 ∧ recWord reply 2 = recWord r 2 ∧ recByte reply 4 = recByte r 4 ∧ recByte reply 5 = recByte r 5 ∧
      recByte reply 6 = 0 ∧ recByte reply 7 = 0 ∧ s.params.valueAt reply p ∧ ∀ n, 12 ≤ n → recByte reply n = 0

/-- R154, R156, R69, R170: Set Parameter is judged by id and index, then by the value's own refusal, then clamped, then by the pair test. A refusal
changes nothing and answers the value in force; a store answers DONE and the value stored, changes no other parameter, re-evaluates the latch for the
pool-low threshold and acts on the scrub timer for the scrub step.
R188: the parameter an id and an index name: the ids 01h to 18h in the order of the table, with a class, a WRR class 1..3 or a link as index where
the row shows one, and FFh only where it shows none; an id not in the table names none, whatever the index. -/
def Obligations.SetParameterClampsTestsAndStores : Prop :=
  (∀ (s : State) (l : Link) (r : Payload) (rest : List Carried) (p : Param), s.hasRequest l r rest → recByte r 0 = 0x40 →
     let v := (recLong r 8).toNat
     let stored := p.stored v
     let refused := (∃ c, p = .limit c ∧ v = 0) ∨ (p = .timingLink ∧ 32 < v) ∨ (∃ c, p = .xoff c ∧ stored ≤ slot s.params.xon c) ∨
       (∃ c, p = .xon c ∧ slot s.params.xoff c ≤ stored) ∨ (∃ c, p = .markLow c ∧ slot s.params.markHigh c < stored) ∨
       (∃ c, p = .markHigh c ∧ stored < slot s.params.markLow c)
     let echoed := fun (reply : Payload) (result : Byte) => recByte reply 0 = 0x40 ∧ recByte reply 1 = result ∧ recWord reply 2 = recWord r 2 ∧
       recByte reply 4 = recByte r 4 ∧ recByte reply 5 = recByte r 5 ∧ recByte reply 6 = 0 ∧ recByte reply 7 = 0 ∧ ∀ n, 12 ≤ n → recByte reply n = 0
     (paramOf (recByte r 4) (recByte r 5) = none → ∃ reply, s.answers .setParameter s l rest reply ∧ echoed reply 3) ∧
     (paramOf (recByte r 4) (recByte r 5) = some p →
       (refused → ∃ reply, s.answers .setParameter s l rest reply ∧ echoed reply 3 ∧ s.params.valueAt reply p) ∧
       (¬ refused → ∃ (reply : Payload) (t : State), s.answers .setParameter t l rest reply ∧ echoed reply 0 ∧ t.params.valueAt reply p ∧
         (∀ n, p.isSet = false → t.params.number p = some n → n = stored) ∧ (p.isSet = false → (t.params.number p).isSome = true) ∧
         (p = .recipients → ∀ k : Link, LinkSet.has t.params.recipients k = (recByte r (8 + k.val / 8)).getLsbD (k.val % 8)) ∧
         (p = .attnMask → t.params.attnMask = recByte r 8) ∧
         (∀ other, other ≠ p → t.params.number other = s.params.number other) ∧
         (p ≠ .recipients → t.params.recipients = s.params.recipients) ∧ (p ≠ .attnMask → t.params.attnMask = s.params.attnMask) ∧
         (p = .poolLow → t.pool = { s.pool with latch := decide (s.pool.free.length < stored) }) ∧ (p ≠ .poolLow → t.pool = s.pool) ∧
         (p = .scrubStep → t.scrub = { s.scrub with
           timer := if stored = 0 then .idle else if s.scrub.timer = .idle then .running stored else s.scrub.timer }) ∧
         (p ≠ .scrubStep → t.scrub = s.scrub) ∧ t = { s with params := t.params, pool := t.pool, scrub := t.scrub }))) ∧
  ((∀ (index : Byte) (c : Sys2Proof.Class), index.toNat = c.val →
     [paramOf 0x01 index, paramOf 0x02 index, paramOf 0x03 index, paramOf 0x04 index, paramOf 0x05 index, paramOf 0x06 index] =
       [some (.limit c), some (.floor c), some (.xoff c), some (.xon c), some (.markLow c), some (.markHigh c)]) ∧
   (∀ id index : Byte, 0x18 < id.toNat ∨ id = 0 → paramOf id index = none) ∧
   (∀ (id index : Byte), 1 ≤ id.toNat → id.toNat ≤ 6 → 3 < index.toNat → paramOf id index = none) ∧
   (paramOf 0x0A 1 = some (.weight .one) ∧ paramOf 0x0A 2 = some (.weight .two) ∧ paramOf 0x0A 3 = some (.weight .three)) ∧
   (∀ index : Byte, index = 0 ∨ 3 < index.toNat → paramOf 0x0A index = none) ∧
   (∀ (index : Byte) (k : Link), index.toNat = k.val → paramOf 0x0B index = some (.gap k)) ∧
   (∀ index : Byte, 31 < index.toNat → paramOf 0x0B index = none) ∧
   (∀ e ∈ [((0x07 : Byte), Param.m), (0x08, .w), (0x09, .monitorStep), (0x0C, .keepalive), (0x0D, .budgetThreshold), (0x0E, .holdOff),
       (0x0F, .retrainLimit), (0x10, .epochPeriod), (0x11, .timingLink), (0x12, .flowstHoldOff), (0x13, .refresh), (0x14, .recipients),
       (0x15, .poolLow), (0x16, .attnMask), (0x17, .attnHoldOff), (0x18, .scrubStep)],
     paramOf e.1 0xFF = some e.2 ∧ ∀ index : Byte, index ≠ 0xFF → paramOf e.1 index = none))
end

