-- ==== Sys2Proof/Laws/Memory.lean ====
section
/-! SUPPORT. The laws of the addressed stores (a read after a write, other places left alone, the canonical form kept) and of the ascending
handle sets. -/

namespace Sys2Proof.Laws

open Sys2Proof.Machine

/-! ### Canonical stores -/

theorem wfFrom_mono {α : Type} [DecidableEq α] {d : α} {lo hi : Nat} {m : List (Nat × α)} (h : lo ≤ hi) (wf : Memory.wfFrom d hi m = true) :
    Memory.wfFrom d lo m = true := by
  cases m with
  | nil => rfl
  | cons e rest => simp [Memory.wfFrom] at wf ⊢; exact ⟨⟨by omega, wf.1.2⟩, wf.2⟩

/-- Below its first index a canonical store reads as unlisted. -/
theorem read_below {α : Type} [DecidableEq α] {d : α} {lo k : Nat} {m : List (Nat × α)} (wf : Memory.wfFrom d lo m = true) (h : k < lo) :
    Memory.read d m k = d := by
  induction m generalizing lo with
  | nil => rfl
  | cons e rest ih =>
    simp [Memory.wfFrom] at wf
    have : e.1 ≠ k := by omega
    simp [Memory.read, this, ih wf.2 (by omega)]

/-- A write keeps the canonical form. -/
theorem write_wfFrom {α : Type} [DecidableEq α] {d : α} {lo k : Nat} {m : List (Nat × α)} (v : α) (wf : Memory.wfFrom d lo m = true)
    (h : lo ≤ k) : Memory.wfFrom d lo (Memory.write d m k v) = true := by
  induction m generalizing lo with
  | nil => by_cases hv : v = d <;> simp [Memory.write, Memory.wfFrom, hv, h]
  | cons e rest ih =>
    obtain ⟨a, w⟩ := e
    simp [Memory.wfFrom] at wf
    obtain ⟨⟨hlo, hw⟩, hrest⟩ := wf
    unfold Memory.write
    split
    · split
      · simp [Memory.wfFrom, hlo, hw, hrest]
      · simp [Memory.wfFrom, *]
    · split
      · split
        · exact wfFrom_mono (by omega) hrest
        · subst_vars; simp [Memory.wfFrom, *]
      · simp [Memory.wfFrom, hlo, hw]
        exact ih hrest (by omega)

/-- Every write keeps a canonical store canonical. -/
theorem write_wf {α : Type} [DecidableEq α] {d : α} {m : List (Nat × α)} (k : Nat) (v : α) (wf : Memory.wf d m = true) :
    Memory.wf d (Memory.write d m k v) = true :=
  write_wfFrom v wf (Nat.zero_le k)

/-- A read at the place just written gives what was written. -/
theorem read_write_same {α : Type} [DecidableEq α] {d : α} {lo : Nat} {m : List (Nat × α)} (k : Nat) (v : α)
    (wf : Memory.wfFrom d lo m = true) : Memory.read d (Memory.write d m k v) k = v := by
  induction m generalizing lo with
  | nil => by_cases hv : v = d <;> simp [Memory.write, Memory.read, hv]
  | cons e rest ih =>
    obtain ⟨a, w⟩ := e
    simp [Memory.wfFrom] at wf
    obtain ⟨⟨hlo, hw⟩, hrest⟩ := wf
    unfold Memory.write
    split
    · rename_i hk
      split
      · rename_i hv
        have : a ≠ k := by omega
        simp [Memory.read, this, read_below hrest (by omega : k < a + 1), hv]
      · simp [Memory.read]
    · split
      · rename_i hak
        split
        · rename_i hv
          rw [read_below hrest (by omega : k < a + 1), hv]
        · simp [Memory.read]
      · rename_i hak
        simp [Memory.read, hak, ih hrest]

/-- A write leaves every other place alone. -/
theorem read_write_ne {α : Type} [DecidableEq α] {d : α} {lo : Nat} {m : List (Nat × α)} (k j : Nat) (v : α)
    (wf : Memory.wfFrom d lo m = true) (h : k ≠ j) : Memory.read d (Memory.write d m k v) j = Memory.read d m j := by
  induction m generalizing lo with
  | nil => by_cases hv : v = d <;> simp [Memory.write, Memory.read, hv, h]
  | cons e rest ih =>
    obtain ⟨a, w⟩ := e
    simp [Memory.wfFrom] at wf
    obtain ⟨⟨hlo, hw⟩, hrest⟩ := wf
    unfold Memory.write
    split
    · split
      · rfl
      · simp [Memory.read, h]
    · split
      · rename_i hak
        subst hak
        split
        · simp [Memory.read, h]
        · simp [Memory.read, h]
      · by_cases haj : a = j
        · simp [Memory.read, haj]
        · simp [Memory.read, haj, ih hrest]

/-- What stands at a place after a write. -/
theorem read_write {α : Type} [DecidableEq α] {d : α} {m : List (Nat × α)} (k j : Nat) (v : α) (wf : Memory.wf d m = true) :
    Memory.read d (Memory.write d m k v) j = if k = j then v else Memory.read d m j := by
  by_cases h : k = j
  · subst h; simp [read_write_same k v wf]
  · simp [h, read_write_ne k j v wf h]

/-- Canonical stores that read alike everywhere are equal. -/
theorem canonical_ext {α : Type} [DecidableEq α] {d : α} {lo : Nat} {m n : List (Nat × α)} (hm : Memory.wfFrom d lo m = true)
    (hn : Memory.wfFrom d lo n = true) (h : ∀ k, Memory.read d m k = Memory.read d n k) : m = n := by
  induction m generalizing lo n with
  | nil =>
    cases n with
    | nil => rfl
    | cons e rest =>
      simp [Memory.wfFrom] at hn
      have := h e.1
      simp [Memory.read] at this
      exact absurd this.symm hn.1.2
  | cons e rest ih =>
    obtain ⟨a, v⟩ := e
    simp [Memory.wfFrom] at hm
    cases n with
    | nil =>
      have := h a
      simp [Memory.read] at this
      exact absurd this hm.1.2
    | cons e' rest' =>
      obtain ⟨b, w⟩ := e'
      simp [Memory.wfFrom] at hn
      have hab : a = b := by
        rcases Nat.lt_trichotomy a b with hlt | heq | hgt
        · have := h a
          have hb : b ≠ a := by omega
          simp [Memory.read, hb, read_below hn.2 (by omega : a < b + 1)] at this
          exact absurd this hm.1.2
        · exact heq
        · have := h b
          have hb : a ≠ b := by omega
          simp [Memory.read, hb, read_below hm.2 (by omega : b < a + 1)] at this
          exact absurd this.symm hn.1.2
      subst hab
      have hv : v = w := by simpa [Memory.read] using h a
      subst hv
      have : rest = rest' := by
        apply ih hm.2 hn.2
        intro k
        by_cases hk : a = k
        · subst hk
          rw [read_below hm.2 (by omega), read_below hn.2 (by omega)]
        · simpa [Memory.read, hk] using h k
      rw [this]

/-! ### Ascending handle sets -/

theorem mem_insert {h a : Handle} {set : List Handle} : a ∈ HandleSet.insert h set ↔ a = h ∨ a ∈ set := by
  induction set with
  | nil => simp [HandleSet.insert]
  | cons b rest ih =>
    unfold HandleSet.insert
    split
    · simp
    · split
      · subst_vars; simp
      · simp [ih]; tauto

theorem mem_remove {h a : Handle} {set : List Handle} : a ∈ HandleSet.remove h set ↔ a ∈ set ∧ a ≠ h := by
  simp [HandleSet.remove]

theorem mem_union {a : Handle} {new set : List Handle} : a ∈ HandleSet.union new set ↔ a ∈ new ∨ a ∈ set := by
  induction new with
  | nil => simp [HandleSet.union]
  | cons b rest ih =>
    have : HandleSet.union (b :: rest) set = HandleSet.insert b (HandleSet.union rest set) := rfl
    simp [this, mem_insert, ih]; tauto

/-- Putting a handle in keeps the set ascending. -/
theorem insert_ascending {h : Handle} {set : List Handle} (asc : set.Pairwise (· < ·)) : (HandleSet.insert h set).Pairwise (· < ·) := by
  induction set with
  | nil => simp [HandleSet.insert]
  | cons b rest ih =>
    rw [List.pairwise_cons] at asc
    unfold HandleSet.insert
    split
    · rename_i hb
      rw [List.pairwise_cons, List.pairwise_cons]
      refine ⟨?_, asc.1, asc.2⟩
      intro x hx
      rcases List.mem_cons.1 hx with rfl | hx
      · exact hb
      · exact Nat.lt_trans hb (asc.1 x hx)
    · split
      · rw [List.pairwise_cons]; exact asc
      · rename_i h1 h2
        rw [List.pairwise_cons]
        refine ⟨?_, ih asc.2⟩
        intro x hx
        rcases mem_insert.1 hx with rfl | hx
        · exact Nat.lt_of_le_of_ne (Nat.le_of_not_lt h1) (fun e => h2 e.symm)
        · exact asc.1 x hx

theorem remove_ascending {h : Handle} {set : List Handle} (asc : set.Pairwise (· < ·)) : (HandleSet.remove h set).Pairwise (· < ·) :=
  List.Pairwise.filter _ asc

theorem union_ascending {new set : List Handle} (asc : set.Pairwise (· < ·)) : (HandleSet.union new set).Pairwise (· < ·) := by
  induction new with
  | nil => exact asc
  | cons b rest ih => exact insert_ascending ih

end Sys2Proof.Laws
end

