-- ==== Sys2Proof/Laws/State.lean ====
section
/-! SUPPORT. The small lemmas of State: elements of vectors, and one lemma for each field and each plain update, so that no proof unfolds a
record update. -/

namespace Sys2Proof.Laws

open Sys2Proof.Machine

/-! ### Elements of vectors -/

@[simp] theorem slot_setSlot_same {α : Type} {n : Nat} (v : Vector α n) (i : Fin n) (x : α) : slot (setSlot v i x) i = x := by
  simp [slot, setSlot]

theorem slot_setSlot_ne {α : Type} {n : Nat} (v : Vector α n) (i j : Fin n) (x : α) (h : i ≠ j) : slot (setSlot v i x) j = slot v j := by
  have : i.val ≠ j.val := fun e => h (Fin.ext e)
  simp [slot, setSlot, this]

theorem slot_setSlot {α : Type} {n : Nat} (v : Vector α n) (i j : Fin n) (x : α) : slot (setSlot v i x) j = if i = j then x else slot v j := by
  by_cases h : i = j
  · subst h; simp
  · simp [h, slot_setSlot_ne v i j x h]

@[simp] theorem slot_ofFn {α : Type} {n : Nat} (f : Fin n → α) (i : Fin n) : slot (Vector.ofFn f) i = f i := by
  simp [slot]

@[simp] theorem slot_replicate {α : Type} {n : Nat} (x : α) (i : Fin n) : slot (Vector.replicate n x) i = x := by
  simp [slot]

/-- Two vectors with the same elements are equal. -/
theorem vector_ext_slot {α : Type} {n : Nat} (v w : Vector α n) (h : ∀ i, slot v i = slot w i) : v = w := by
  apply Vector.ext
  intro i hi
  exact h ⟨i, hi⟩

/-! ### Links and queues -/

@[simp] theorem link_setLink_same (s : State) (l : Link) (p : LinkPort) : (s.setLink l p).link l = p := by simp [State.link, State.setLink]

theorem link_setLink (s : State) (l k : Link) (p : LinkPort) : (s.setLink l p).link k = if l = k then p else s.link k := by
  simp [State.link, State.setLink, slot_setSlot]

theorem link_setLink_ne (s : State) (l k : Link) (p : LinkPort) (h : l ≠ k) : (s.setLink l p).link k = s.link k := by
  simp [link_setLink, h]

@[simp] theorem link_modLink_same (s : State) (l : Link) (f : LinkPort → LinkPort) : (s.modLink l f).link l = f (s.link l) := by
  simp [State.modLink]

theorem link_modLink (s : State) (l k : Link) (f : LinkPort → LinkPort) :
    (s.modLink l f).link k = if l = k then f (s.link k) else s.link k := by
  by_cases h : l = k
  · subst h; simp
  · simp [State.modLink, link_setLink, h]

theorem link_modLink_ne (s : State) (l k : Link) (f : LinkPort → LinkPort) (h : l ≠ k) : (s.modLink l f).link k = s.link k := by
  simp [link_modLink, h]

@[simp] theorem link_mapLinks (s : State) (f : Link → LinkPort → LinkPort) (l : Link) : (s.mapLinks f).link l = f l (s.link l) := by
  simp [State.link, State.mapLinks]

@[simp] theorem queue_setQueue_same (s : State) (q : QueueId) (out : OutQueue) : (s.setQueue q out).queue q = out := by
  simp [State.queue, State.setQueue]

theorem queue_setQueue (s : State) (q k : QueueId) (out : OutQueue) : (s.setQueue q out).queue k = if q = k then out else s.queue k := by
  simp [State.queue, State.setQueue, slot_setSlot]

theorem queue_setQueue_ne (s : State) (q k : QueueId) (out : OutQueue) (h : q ≠ k) : (s.setQueue q out).queue k = s.queue k := by
  simp [queue_setQueue, h]

/-- An element of the links of a state is its link, and so of a state written as a record update. -/
@[simp] theorem slot_links (s : State) (l : Link) : slot s.links l = s.link l := rfl

@[simp] theorem link_mk (rstN : Bool) (straps : Straps) (links : Vector LinkPort 32) (queues : Vector OutQueue 128) (rrPtr : Link) (pool : Pool)
    (tables : Tables) (params : Params) (monitor : Monitor) (flow : FlowUnit) (epoch : EpochUnit) (agent : Agent) (op : Option OpRecord)
    (scrub : Scrubber) (attn : Attention) (globals : GlobalCounters) (freeCtr : Nat) (pending : List Instr) (l : Link) :
    State.link ⟨rstN, straps, links, queues, rrPtr, pool, tables, params, monitor, flow, epoch, agent, op, scrub, attn, globals, freeCtr, pending⟩ l
      = slot links l := rfl

/-- An element of the queues of a state is its queue, and so of a state written as a record update. -/
@[simp] theorem slot_queues (s : State) (q : QueueId) : slot s.queues q = s.queue q := rfl

@[simp] theorem queue_mk (rstN : Bool) (straps : Straps) (links : Vector LinkPort 32) (queues : Vector OutQueue 128) (rrPtr : Link) (pool : Pool)
    (tables : Tables) (params : Params) (monitor : Monitor) (flow : FlowUnit) (epoch : EpochUnit) (agent : Agent) (op : Option OpRecord)
    (scrub : Scrubber) (attn : Attention) (globals : GlobalCounters) (freeCtr : Nat) (pending : List Instr) (q : QueueId) :
    State.queue ⟨rstN, straps, links, queues, rrPtr, pool, tables, params, monitor, flow, epoch, agent, op, scrub, attn, globals, freeCtr, pending⟩ q
      = slot queues q := rfl

/-- Reading a link looks at the links only. -/
theorem link_congr {s t : State} (h : s.links = t.links) (l : Link) : s.link l = t.link l := by unfold State.link; rw [h]

/-- Reading a queue looks at the queues only. -/
theorem queue_congr {s t : State} (h : s.queues = t.queues) (q : QueueId) : s.queue q = t.queue q := by unfold State.queue; rw [h]

/-! ### Fields of plain updates -/

@[simp] theorem setLink_rstN (s : State) (l : Link) (p : LinkPort) : (s.setLink l p).rstN = s.rstN := rfl
@[simp] theorem setLink_straps (s : State) (l : Link) (p : LinkPort) : (s.setLink l p).straps = s.straps := rfl
@[simp] theorem setLink_queues (s : State) (l : Link) (p : LinkPort) : (s.setLink l p).queues = s.queues := rfl
@[simp] theorem setLink_rrPtr (s : State) (l : Link) (p : LinkPort) : (s.setLink l p).rrPtr = s.rrPtr := rfl
@[simp] theorem setLink_pool (s : State) (l : Link) (p : LinkPort) : (s.setLink l p).pool = s.pool := rfl
@[simp] theorem setLink_tables (s : State) (l : Link) (p : LinkPort) : (s.setLink l p).tables = s.tables := rfl
@[simp] theorem setLink_params (s : State) (l : Link) (p : LinkPort) : (s.setLink l p).params = s.params := rfl
@[simp] theorem setLink_monitor (s : State) (l : Link) (p : LinkPort) : (s.setLink l p).monitor = s.monitor := rfl
@[simp] theorem setLink_flow (s : State) (l : Link) (p : LinkPort) : (s.setLink l p).flow = s.flow := rfl
@[simp] theorem setLink_epoch (s : State) (l : Link) (p : LinkPort) : (s.setLink l p).epoch = s.epoch := rfl
@[simp] theorem setLink_agent (s : State) (l : Link) (p : LinkPort) : (s.setLink l p).agent = s.agent := rfl
@[simp] theorem setLink_op (s : State) (l : Link) (p : LinkPort) : (s.setLink l p).op = s.op := rfl
@[simp] theorem setLink_scrub (s : State) (l : Link) (p : LinkPort) : (s.setLink l p).scrub = s.scrub := rfl
@[simp] theorem setLink_attn (s : State) (l : Link) (p : LinkPort) : (s.setLink l p).attn = s.attn := rfl
@[simp] theorem setLink_globals (s : State) (l : Link) (p : LinkPort) : (s.setLink l p).globals = s.globals := rfl
@[simp] theorem setLink_freeCtr (s : State) (l : Link) (p : LinkPort) : (s.setLink l p).freeCtr = s.freeCtr := rfl
@[simp] theorem setLink_pending (s : State) (l : Link) (p : LinkPort) : (s.setLink l p).pending = s.pending := rfl
@[simp] theorem setLink_queue (s : State) (l : Link) (p : LinkPort) (k : QueueId) : (s.setLink l p).queue k = s.queue k := queue_congr (setLink_queues s l p) k

@[simp] theorem modLink_rstN (s : State) (l : Link) (f : LinkPort → LinkPort) : (s.modLink l f).rstN = s.rstN := rfl
@[simp] theorem modLink_straps (s : State) (l : Link) (f : LinkPort → LinkPort) : (s.modLink l f).straps = s.straps := rfl
@[simp] theorem modLink_queues (s : State) (l : Link) (f : LinkPort → LinkPort) : (s.modLink l f).queues = s.queues := rfl
@[simp] theorem modLink_rrPtr (s : State) (l : Link) (f : LinkPort → LinkPort) : (s.modLink l f).rrPtr = s.rrPtr := rfl
@[simp] theorem modLink_pool (s : State) (l : Link) (f : LinkPort → LinkPort) : (s.modLink l f).pool = s.pool := rfl
@[simp] theorem modLink_tables (s : State) (l : Link) (f : LinkPort → LinkPort) : (s.modLink l f).tables = s.tables := rfl
@[simp] theorem modLink_params (s : State) (l : Link) (f : LinkPort → LinkPort) : (s.modLink l f).params = s.params := rfl
@[simp] theorem modLink_monitor (s : State) (l : Link) (f : LinkPort → LinkPort) : (s.modLink l f).monitor = s.monitor := rfl
@[simp] theorem modLink_flow (s : State) (l : Link) (f : LinkPort → LinkPort) : (s.modLink l f).flow = s.flow := rfl
@[simp] theorem modLink_epoch (s : State) (l : Link) (f : LinkPort → LinkPort) : (s.modLink l f).epoch = s.epoch := rfl
@[simp] theorem modLink_agent (s : State) (l : Link) (f : LinkPort → LinkPort) : (s.modLink l f).agent = s.agent := rfl
@[simp] theorem modLink_op (s : State) (l : Link) (f : LinkPort → LinkPort) : (s.modLink l f).op = s.op := rfl
@[simp] theorem modLink_scrub (s : State) (l : Link) (f : LinkPort → LinkPort) : (s.modLink l f).scrub = s.scrub := rfl
@[simp] theorem modLink_attn (s : State) (l : Link) (f : LinkPort → LinkPort) : (s.modLink l f).attn = s.attn := rfl
@[simp] theorem modLink_globals (s : State) (l : Link) (f : LinkPort → LinkPort) : (s.modLink l f).globals = s.globals := rfl
@[simp] theorem modLink_freeCtr (s : State) (l : Link) (f : LinkPort → LinkPort) : (s.modLink l f).freeCtr = s.freeCtr := rfl
@[simp] theorem modLink_pending (s : State) (l : Link) (f : LinkPort → LinkPort) : (s.modLink l f).pending = s.pending := rfl
@[simp] theorem modLink_queue (s : State) (l : Link) (f : LinkPort → LinkPort) (k : QueueId) : (s.modLink l f).queue k = s.queue k := queue_congr (modLink_queues s l f) k

@[simp] theorem mapLinks_rstN (s : State) (f : Link → LinkPort → LinkPort) : (s.mapLinks f).rstN = s.rstN := by unfold State.mapLinks; rfl
@[simp] theorem mapLinks_straps (s : State) (f : Link → LinkPort → LinkPort) : (s.mapLinks f).straps = s.straps := by unfold State.mapLinks; rfl
@[simp] theorem mapLinks_queues (s : State) (f : Link → LinkPort → LinkPort) : (s.mapLinks f).queues = s.queues := by unfold State.mapLinks; rfl
@[simp] theorem mapLinks_rrPtr (s : State) (f : Link → LinkPort → LinkPort) : (s.mapLinks f).rrPtr = s.rrPtr := by unfold State.mapLinks; rfl
@[simp] theorem mapLinks_pool (s : State) (f : Link → LinkPort → LinkPort) : (s.mapLinks f).pool = s.pool := by unfold State.mapLinks; rfl
@[simp] theorem mapLinks_tables (s : State) (f : Link → LinkPort → LinkPort) : (s.mapLinks f).tables = s.tables := by unfold State.mapLinks; rfl
@[simp] theorem mapLinks_params (s : State) (f : Link → LinkPort → LinkPort) : (s.mapLinks f).params = s.params := by unfold State.mapLinks; rfl
@[simp] theorem mapLinks_monitor (s : State) (f : Link → LinkPort → LinkPort) : (s.mapLinks f).monitor = s.monitor := by unfold State.mapLinks; rfl
@[simp] theorem mapLinks_flow (s : State) (f : Link → LinkPort → LinkPort) : (s.mapLinks f).flow = s.flow := by unfold State.mapLinks; rfl
@[simp] theorem mapLinks_epoch (s : State) (f : Link → LinkPort → LinkPort) : (s.mapLinks f).epoch = s.epoch := by unfold State.mapLinks; rfl
@[simp] theorem mapLinks_agent (s : State) (f : Link → LinkPort → LinkPort) : (s.mapLinks f).agent = s.agent := by unfold State.mapLinks; rfl
@[simp] theorem mapLinks_op (s : State) (f : Link → LinkPort → LinkPort) : (s.mapLinks f).op = s.op := by unfold State.mapLinks; rfl
@[simp] theorem mapLinks_scrub (s : State) (f : Link → LinkPort → LinkPort) : (s.mapLinks f).scrub = s.scrub := by unfold State.mapLinks; rfl
@[simp] theorem mapLinks_attn (s : State) (f : Link → LinkPort → LinkPort) : (s.mapLinks f).attn = s.attn := by unfold State.mapLinks; rfl
@[simp] theorem mapLinks_globals (s : State) (f : Link → LinkPort → LinkPort) : (s.mapLinks f).globals = s.globals := by unfold State.mapLinks; rfl
@[simp] theorem mapLinks_freeCtr (s : State) (f : Link → LinkPort → LinkPort) : (s.mapLinks f).freeCtr = s.freeCtr := by unfold State.mapLinks; rfl
@[simp] theorem mapLinks_pending (s : State) (f : Link → LinkPort → LinkPort) : (s.mapLinks f).pending = s.pending := by unfold State.mapLinks; rfl
@[simp] theorem mapLinks_queue (s : State) (f : Link → LinkPort → LinkPort) (k : QueueId) : (s.mapLinks f).queue k = s.queue k := queue_congr (mapLinks_queues s f) k

@[simp] theorem setQueue_rstN (s : State) (q : QueueId) (out : OutQueue) : (s.setQueue q out).rstN = s.rstN := rfl
@[simp] theorem setQueue_straps (s : State) (q : QueueId) (out : OutQueue) : (s.setQueue q out).straps = s.straps := rfl
@[simp] theorem setQueue_links (s : State) (q : QueueId) (out : OutQueue) : (s.setQueue q out).links = s.links := rfl
@[simp] theorem setQueue_rrPtr (s : State) (q : QueueId) (out : OutQueue) : (s.setQueue q out).rrPtr = s.rrPtr := rfl
@[simp] theorem setQueue_pool (s : State) (q : QueueId) (out : OutQueue) : (s.setQueue q out).pool = s.pool := rfl
@[simp] theorem setQueue_tables (s : State) (q : QueueId) (out : OutQueue) : (s.setQueue q out).tables = s.tables := rfl
@[simp] theorem setQueue_params (s : State) (q : QueueId) (out : OutQueue) : (s.setQueue q out).params = s.params := rfl
@[simp] theorem setQueue_monitor (s : State) (q : QueueId) (out : OutQueue) : (s.setQueue q out).monitor = s.monitor := rfl
@[simp] theorem setQueue_flow (s : State) (q : QueueId) (out : OutQueue) : (s.setQueue q out).flow = s.flow := rfl
@[simp] theorem setQueue_epoch (s : State) (q : QueueId) (out : OutQueue) : (s.setQueue q out).epoch = s.epoch := rfl
@[simp] theorem setQueue_agent (s : State) (q : QueueId) (out : OutQueue) : (s.setQueue q out).agent = s.agent := rfl
@[simp] theorem setQueue_op (s : State) (q : QueueId) (out : OutQueue) : (s.setQueue q out).op = s.op := rfl
@[simp] theorem setQueue_scrub (s : State) (q : QueueId) (out : OutQueue) : (s.setQueue q out).scrub = s.scrub := rfl
@[simp] theorem setQueue_attn (s : State) (q : QueueId) (out : OutQueue) : (s.setQueue q out).attn = s.attn := rfl
@[simp] theorem setQueue_globals (s : State) (q : QueueId) (out : OutQueue) : (s.setQueue q out).globals = s.globals := rfl
@[simp] theorem setQueue_freeCtr (s : State) (q : QueueId) (out : OutQueue) : (s.setQueue q out).freeCtr = s.freeCtr := rfl
@[simp] theorem setQueue_pending (s : State) (q : QueueId) (out : OutQueue) : (s.setQueue q out).pending = s.pending := rfl
@[simp] theorem setQueue_link (s : State) (q : QueueId) (out : OutQueue) (k : Link) : (s.setQueue q out).link k = s.link k := link_congr (setQueue_links s q out) k

@[simp] theorem countLink_rstN (s : State) (l : Link) (f : LinkCounters → LinkCounters) : (s.countLink l f).rstN = s.rstN := rfl
@[simp] theorem countLink_straps (s : State) (l : Link) (f : LinkCounters → LinkCounters) : (s.countLink l f).straps = s.straps := rfl
@[simp] theorem countLink_queues (s : State) (l : Link) (f : LinkCounters → LinkCounters) : (s.countLink l f).queues = s.queues := rfl
@[simp] theorem countLink_rrPtr (s : State) (l : Link) (f : LinkCounters → LinkCounters) : (s.countLink l f).rrPtr = s.rrPtr := rfl
@[simp] theorem countLink_pool (s : State) (l : Link) (f : LinkCounters → LinkCounters) : (s.countLink l f).pool = s.pool := rfl
@[simp] theorem countLink_tables (s : State) (l : Link) (f : LinkCounters → LinkCounters) : (s.countLink l f).tables = s.tables := rfl
@[simp] theorem countLink_params (s : State) (l : Link) (f : LinkCounters → LinkCounters) : (s.countLink l f).params = s.params := rfl
@[simp] theorem countLink_monitor (s : State) (l : Link) (f : LinkCounters → LinkCounters) : (s.countLink l f).monitor = s.monitor := rfl
@[simp] theorem countLink_flow (s : State) (l : Link) (f : LinkCounters → LinkCounters) : (s.countLink l f).flow = s.flow := rfl
@[simp] theorem countLink_epoch (s : State) (l : Link) (f : LinkCounters → LinkCounters) : (s.countLink l f).epoch = s.epoch := rfl
@[simp] theorem countLink_agent (s : State) (l : Link) (f : LinkCounters → LinkCounters) : (s.countLink l f).agent = s.agent := rfl
@[simp] theorem countLink_op (s : State) (l : Link) (f : LinkCounters → LinkCounters) : (s.countLink l f).op = s.op := rfl
@[simp] theorem countLink_scrub (s : State) (l : Link) (f : LinkCounters → LinkCounters) : (s.countLink l f).scrub = s.scrub := rfl
@[simp] theorem countLink_attn (s : State) (l : Link) (f : LinkCounters → LinkCounters) : (s.countLink l f).attn = s.attn := rfl
@[simp] theorem countLink_globals (s : State) (l : Link) (f : LinkCounters → LinkCounters) : (s.countLink l f).globals = s.globals := rfl
@[simp] theorem countLink_freeCtr (s : State) (l : Link) (f : LinkCounters → LinkCounters) : (s.countLink l f).freeCtr = s.freeCtr := rfl
@[simp] theorem countLink_pending (s : State) (l : Link) (f : LinkCounters → LinkCounters) : (s.countLink l f).pending = s.pending := rfl
@[simp] theorem countLink_queue (s : State) (l : Link) (f : LinkCounters → LinkCounters) (k : QueueId) : (s.countLink l f).queue k = s.queue k := queue_congr (countLink_queues s l f) k

@[simp] theorem countQueue_rstN (s : State) (q : QueueId) (f : QueueCounters → QueueCounters) : (s.countQueue q f).rstN = s.rstN := rfl
@[simp] theorem countQueue_straps (s : State) (q : QueueId) (f : QueueCounters → QueueCounters) : (s.countQueue q f).straps = s.straps := rfl
@[simp] theorem countQueue_links (s : State) (q : QueueId) (f : QueueCounters → QueueCounters) : (s.countQueue q f).links = s.links := rfl
@[simp] theorem countQueue_rrPtr (s : State) (q : QueueId) (f : QueueCounters → QueueCounters) : (s.countQueue q f).rrPtr = s.rrPtr := rfl
@[simp] theorem countQueue_pool (s : State) (q : QueueId) (f : QueueCounters → QueueCounters) : (s.countQueue q f).pool = s.pool := rfl
@[simp] theorem countQueue_tables (s : State) (q : QueueId) (f : QueueCounters → QueueCounters) : (s.countQueue q f).tables = s.tables := rfl
@[simp] theorem countQueue_params (s : State) (q : QueueId) (f : QueueCounters → QueueCounters) : (s.countQueue q f).params = s.params := rfl
@[simp] theorem countQueue_monitor (s : State) (q : QueueId) (f : QueueCounters → QueueCounters) : (s.countQueue q f).monitor = s.monitor := rfl
@[simp] theorem countQueue_flow (s : State) (q : QueueId) (f : QueueCounters → QueueCounters) : (s.countQueue q f).flow = s.flow := rfl
@[simp] theorem countQueue_epoch (s : State) (q : QueueId) (f : QueueCounters → QueueCounters) : (s.countQueue q f).epoch = s.epoch := rfl
@[simp] theorem countQueue_agent (s : State) (q : QueueId) (f : QueueCounters → QueueCounters) : (s.countQueue q f).agent = s.agent := rfl
@[simp] theorem countQueue_op (s : State) (q : QueueId) (f : QueueCounters → QueueCounters) : (s.countQueue q f).op = s.op := rfl
@[simp] theorem countQueue_scrub (s : State) (q : QueueId) (f : QueueCounters → QueueCounters) : (s.countQueue q f).scrub = s.scrub := rfl
@[simp] theorem countQueue_attn (s : State) (q : QueueId) (f : QueueCounters → QueueCounters) : (s.countQueue q f).attn = s.attn := rfl
@[simp] theorem countQueue_globals (s : State) (q : QueueId) (f : QueueCounters → QueueCounters) : (s.countQueue q f).globals = s.globals := rfl
@[simp] theorem countQueue_freeCtr (s : State) (q : QueueId) (f : QueueCounters → QueueCounters) : (s.countQueue q f).freeCtr = s.freeCtr := rfl
@[simp] theorem countQueue_pending (s : State) (q : QueueId) (f : QueueCounters → QueueCounters) : (s.countQueue q f).pending = s.pending := rfl
@[simp] theorem countQueue_link (s : State) (q : QueueId) (f : QueueCounters → QueueCounters) (k : Link) : (s.countQueue q f).link k = s.link k := link_congr (countQueue_links s q f) k

@[simp] theorem countGlobal_rstN (s : State) (f : GlobalCounters → GlobalCounters) : (s.countGlobal f).rstN = s.rstN := rfl
@[simp] theorem countGlobal_straps (s : State) (f : GlobalCounters → GlobalCounters) : (s.countGlobal f).straps = s.straps := rfl
@[simp] theorem countGlobal_links (s : State) (f : GlobalCounters → GlobalCounters) : (s.countGlobal f).links = s.links := rfl
@[simp] theorem countGlobal_queues (s : State) (f : GlobalCounters → GlobalCounters) : (s.countGlobal f).queues = s.queues := rfl
@[simp] theorem countGlobal_rrPtr (s : State) (f : GlobalCounters → GlobalCounters) : (s.countGlobal f).rrPtr = s.rrPtr := rfl
@[simp] theorem countGlobal_pool (s : State) (f : GlobalCounters → GlobalCounters) : (s.countGlobal f).pool = s.pool := rfl
@[simp] theorem countGlobal_tables (s : State) (f : GlobalCounters → GlobalCounters) : (s.countGlobal f).tables = s.tables := rfl
@[simp] theorem countGlobal_params (s : State) (f : GlobalCounters → GlobalCounters) : (s.countGlobal f).params = s.params := rfl
@[simp] theorem countGlobal_monitor (s : State) (f : GlobalCounters → GlobalCounters) : (s.countGlobal f).monitor = s.monitor := rfl
@[simp] theorem countGlobal_flow (s : State) (f : GlobalCounters → GlobalCounters) : (s.countGlobal f).flow = s.flow := rfl
@[simp] theorem countGlobal_epoch (s : State) (f : GlobalCounters → GlobalCounters) : (s.countGlobal f).epoch = s.epoch := rfl
@[simp] theorem countGlobal_agent (s : State) (f : GlobalCounters → GlobalCounters) : (s.countGlobal f).agent = s.agent := rfl
@[simp] theorem countGlobal_op (s : State) (f : GlobalCounters → GlobalCounters) : (s.countGlobal f).op = s.op := rfl
@[simp] theorem countGlobal_scrub (s : State) (f : GlobalCounters → GlobalCounters) : (s.countGlobal f).scrub = s.scrub := rfl
@[simp] theorem countGlobal_attn (s : State) (f : GlobalCounters → GlobalCounters) : (s.countGlobal f).attn = s.attn := rfl
@[simp] theorem countGlobal_freeCtr (s : State) (f : GlobalCounters → GlobalCounters) : (s.countGlobal f).freeCtr = s.freeCtr := rfl
@[simp] theorem countGlobal_pending (s : State) (f : GlobalCounters → GlobalCounters) : (s.countGlobal f).pending = s.pending := rfl
@[simp] theorem countGlobal_link (s : State) (f : GlobalCounters → GlobalCounters) (k : Link) : (s.countGlobal f).link k = s.link k := link_congr (countGlobal_links s f) k
@[simp] theorem countGlobal_queue (s : State) (f : GlobalCounters → GlobalCounters) (k : QueueId) : (s.countGlobal f).queue k = s.queue k := queue_congr (countGlobal_queues s f) k

@[simp] theorem setFlag_rstN (s : State) (f : AttnFlag) : (s.setFlag f).rstN = s.rstN := rfl
@[simp] theorem setFlag_straps (s : State) (f : AttnFlag) : (s.setFlag f).straps = s.straps := rfl
@[simp] theorem setFlag_links (s : State) (f : AttnFlag) : (s.setFlag f).links = s.links := rfl
@[simp] theorem setFlag_queues (s : State) (f : AttnFlag) : (s.setFlag f).queues = s.queues := rfl
@[simp] theorem setFlag_rrPtr (s : State) (f : AttnFlag) : (s.setFlag f).rrPtr = s.rrPtr := rfl
@[simp] theorem setFlag_pool (s : State) (f : AttnFlag) : (s.setFlag f).pool = s.pool := rfl
@[simp] theorem setFlag_tables (s : State) (f : AttnFlag) : (s.setFlag f).tables = s.tables := rfl
@[simp] theorem setFlag_params (s : State) (f : AttnFlag) : (s.setFlag f).params = s.params := rfl
@[simp] theorem setFlag_monitor (s : State) (f : AttnFlag) : (s.setFlag f).monitor = s.monitor := rfl
@[simp] theorem setFlag_flow (s : State) (f : AttnFlag) : (s.setFlag f).flow = s.flow := rfl
@[simp] theorem setFlag_epoch (s : State) (f : AttnFlag) : (s.setFlag f).epoch = s.epoch := rfl
@[simp] theorem setFlag_agent (s : State) (f : AttnFlag) : (s.setFlag f).agent = s.agent := rfl
@[simp] theorem setFlag_op (s : State) (f : AttnFlag) : (s.setFlag f).op = s.op := rfl
@[simp] theorem setFlag_scrub (s : State) (f : AttnFlag) : (s.setFlag f).scrub = s.scrub := rfl
@[simp] theorem setFlag_globals (s : State) (f : AttnFlag) : (s.setFlag f).globals = s.globals := rfl
@[simp] theorem setFlag_freeCtr (s : State) (f : AttnFlag) : (s.setFlag f).freeCtr = s.freeCtr := rfl
@[simp] theorem setFlag_pending (s : State) (f : AttnFlag) : (s.setFlag f).pending = s.pending := rfl
@[simp] theorem setFlag_link (s : State) (f : AttnFlag) (k : Link) : (s.setFlag f).link k = s.link k := link_congr (setFlag_links s f) k
@[simp] theorem setFlag_queue (s : State) (f : AttnFlag) (k : QueueId) : (s.setFlag f).queue k = s.queue k := queue_congr (setFlag_queues s f) k

@[simp] theorem pendAttention_rstN (s : State) : (s.pendAttention).rstN = s.rstN := mapLinks_rstN s _
@[simp] theorem pendAttention_straps (s : State) : (s.pendAttention).straps = s.straps := mapLinks_straps s _
@[simp] theorem pendAttention_queues (s : State) : (s.pendAttention).queues = s.queues := mapLinks_queues s _
@[simp] theorem pendAttention_rrPtr (s : State) : (s.pendAttention).rrPtr = s.rrPtr := mapLinks_rrPtr s _
@[simp] theorem pendAttention_pool (s : State) : (s.pendAttention).pool = s.pool := mapLinks_pool s _
@[simp] theorem pendAttention_tables (s : State) : (s.pendAttention).tables = s.tables := mapLinks_tables s _
@[simp] theorem pendAttention_params (s : State) : (s.pendAttention).params = s.params := mapLinks_params s _
@[simp] theorem pendAttention_monitor (s : State) : (s.pendAttention).monitor = s.monitor := mapLinks_monitor s _
@[simp] theorem pendAttention_flow (s : State) : (s.pendAttention).flow = s.flow := mapLinks_flow s _
@[simp] theorem pendAttention_epoch (s : State) : (s.pendAttention).epoch = s.epoch := mapLinks_epoch s _
@[simp] theorem pendAttention_agent (s : State) : (s.pendAttention).agent = s.agent := mapLinks_agent s _
@[simp] theorem pendAttention_op (s : State) : (s.pendAttention).op = s.op := mapLinks_op s _
@[simp] theorem pendAttention_scrub (s : State) : (s.pendAttention).scrub = s.scrub := mapLinks_scrub s _
@[simp] theorem pendAttention_attn (s : State) : (s.pendAttention).attn = s.attn := mapLinks_attn s _
@[simp] theorem pendAttention_globals (s : State) : (s.pendAttention).globals = s.globals := mapLinks_globals s _
@[simp] theorem pendAttention_freeCtr (s : State) : (s.pendAttention).freeCtr = s.freeCtr := mapLinks_freeCtr s _
@[simp] theorem pendAttention_pending (s : State) : (s.pendAttention).pending = s.pending := mapLinks_pending s _
@[simp] theorem pendAttention_queue (s : State) (k : QueueId) : (s.pendAttention).queue k = s.queue k := queue_congr (pendAttention_queues s) k

@[simp] theorem oweFlowst_rstN (s : State) : (s.oweFlowst).rstN = s.rstN := mapLinks_rstN s _
@[simp] theorem oweFlowst_straps (s : State) : (s.oweFlowst).straps = s.straps := mapLinks_straps s _
@[simp] theorem oweFlowst_queues (s : State) : (s.oweFlowst).queues = s.queues := mapLinks_queues s _
@[simp] theorem oweFlowst_rrPtr (s : State) : (s.oweFlowst).rrPtr = s.rrPtr := mapLinks_rrPtr s _
@[simp] theorem oweFlowst_pool (s : State) : (s.oweFlowst).pool = s.pool := mapLinks_pool s _
@[simp] theorem oweFlowst_tables (s : State) : (s.oweFlowst).tables = s.tables := mapLinks_tables s _
@[simp] theorem oweFlowst_params (s : State) : (s.oweFlowst).params = s.params := mapLinks_params s _
@[simp] theorem oweFlowst_monitor (s : State) : (s.oweFlowst).monitor = s.monitor := mapLinks_monitor s _
@[simp] theorem oweFlowst_flow (s : State) : (s.oweFlowst).flow = s.flow := mapLinks_flow s _
@[simp] theorem oweFlowst_epoch (s : State) : (s.oweFlowst).epoch = s.epoch := mapLinks_epoch s _
@[simp] theorem oweFlowst_agent (s : State) : (s.oweFlowst).agent = s.agent := mapLinks_agent s _
@[simp] theorem oweFlowst_op (s : State) : (s.oweFlowst).op = s.op := mapLinks_op s _
@[simp] theorem oweFlowst_scrub (s : State) : (s.oweFlowst).scrub = s.scrub := mapLinks_scrub s _
@[simp] theorem oweFlowst_attn (s : State) : (s.oweFlowst).attn = s.attn := mapLinks_attn s _
@[simp] theorem oweFlowst_globals (s : State) : (s.oweFlowst).globals = s.globals := mapLinks_globals s _
@[simp] theorem oweFlowst_freeCtr (s : State) : (s.oweFlowst).freeCtr = s.freeCtr := mapLinks_freeCtr s _
@[simp] theorem oweFlowst_pending (s : State) : (s.oweFlowst).pending = s.pending := mapLinks_pending s _
@[simp] theorem oweFlowst_queue (s : State) (k : QueueId) : (s.oweFlowst).queue k = s.queue k := queue_congr (oweFlowst_queues s) k

@[simp] theorem setBank_rstN (s : State) (b : Bank) (t : BankTables) : (s.setBank b t).rstN = s.rstN := rfl
@[simp] theorem setBank_straps (s : State) (b : Bank) (t : BankTables) : (s.setBank b t).straps = s.straps := rfl
@[simp] theorem setBank_links (s : State) (b : Bank) (t : BankTables) : (s.setBank b t).links = s.links := rfl
@[simp] theorem setBank_queues (s : State) (b : Bank) (t : BankTables) : (s.setBank b t).queues = s.queues := rfl
@[simp] theorem setBank_rrPtr (s : State) (b : Bank) (t : BankTables) : (s.setBank b t).rrPtr = s.rrPtr := rfl
@[simp] theorem setBank_pool (s : State) (b : Bank) (t : BankTables) : (s.setBank b t).pool = s.pool := rfl
@[simp] theorem setBank_params (s : State) (b : Bank) (t : BankTables) : (s.setBank b t).params = s.params := rfl
@[simp] theorem setBank_monitor (s : State) (b : Bank) (t : BankTables) : (s.setBank b t).monitor = s.monitor := rfl
@[simp] theorem setBank_flow (s : State) (b : Bank) (t : BankTables) : (s.setBank b t).flow = s.flow := rfl
@[simp] theorem setBank_epoch (s : State) (b : Bank) (t : BankTables) : (s.setBank b t).epoch = s.epoch := rfl
@[simp] theorem setBank_agent (s : State) (b : Bank) (t : BankTables) : (s.setBank b t).agent = s.agent := rfl
@[simp] theorem setBank_op (s : State) (b : Bank) (t : BankTables) : (s.setBank b t).op = s.op := rfl
@[simp] theorem setBank_scrub (s : State) (b : Bank) (t : BankTables) : (s.setBank b t).scrub = s.scrub := rfl
@[simp] theorem setBank_attn (s : State) (b : Bank) (t : BankTables) : (s.setBank b t).attn = s.attn := rfl
@[simp] theorem setBank_globals (s : State) (b : Bank) (t : BankTables) : (s.setBank b t).globals = s.globals := rfl
@[simp] theorem setBank_freeCtr (s : State) (b : Bank) (t : BankTables) : (s.setBank b t).freeCtr = s.freeCtr := rfl
@[simp] theorem setBank_pending (s : State) (b : Bank) (t : BankTables) : (s.setBank b t).pending = s.pending := rfl
@[simp] theorem setBank_link (s : State) (b : Bank) (t : BankTables) (k : Link) : (s.setBank b t).link k = s.link k := link_congr (setBank_links s b t) k
@[simp] theorem setBank_queue (s : State) (b : Bank) (t : BankTables) (k : QueueId) : (s.setBank b t).queue k = s.queue k := queue_congr (setBank_queues s b t) k

@[simp] theorem release_rstN (s : State) (h : Handle) : (s.release h).rstN = s.rstN := rfl
@[simp] theorem release_straps (s : State) (h : Handle) : (s.release h).straps = s.straps := rfl
@[simp] theorem release_links (s : State) (h : Handle) : (s.release h).links = s.links := rfl
@[simp] theorem release_queues (s : State) (h : Handle) : (s.release h).queues = s.queues := rfl
@[simp] theorem release_rrPtr (s : State) (h : Handle) : (s.release h).rrPtr = s.rrPtr := rfl
@[simp] theorem release_tables (s : State) (h : Handle) : (s.release h).tables = s.tables := rfl
@[simp] theorem release_params (s : State) (h : Handle) : (s.release h).params = s.params := rfl
@[simp] theorem release_monitor (s : State) (h : Handle) : (s.release h).monitor = s.monitor := rfl
@[simp] theorem release_flow (s : State) (h : Handle) : (s.release h).flow = s.flow := rfl
@[simp] theorem release_epoch (s : State) (h : Handle) : (s.release h).epoch = s.epoch := rfl
@[simp] theorem release_agent (s : State) (h : Handle) : (s.release h).agent = s.agent := rfl
@[simp] theorem release_op (s : State) (h : Handle) : (s.release h).op = s.op := rfl
@[simp] theorem release_scrub (s : State) (h : Handle) : (s.release h).scrub = s.scrub := rfl
@[simp] theorem release_attn (s : State) (h : Handle) : (s.release h).attn = s.attn := rfl
@[simp] theorem release_globals (s : State) (h : Handle) : (s.release h).globals = s.globals := rfl
@[simp] theorem release_freeCtr (s : State) (h : Handle) : (s.release h).freeCtr = s.freeCtr := rfl
@[simp] theorem release_pending (s : State) (h : Handle) : (s.release h).pending = s.pending := rfl
@[simp] theorem release_link (s : State) (h : Handle) (k : Link) : (s.release h).link k = s.link k := link_congr (release_links s h) k
@[simp] theorem release_queue (s : State) (h : Handle) (k : QueueId) : (s.release h).queue k = s.queue k := queue_congr (release_queues s h) k

@[simp] theorem enqueue_rstN (s : State) (q : QueueId) (e : QueueEntry) : (s.enqueue q e).rstN = s.rstN := rfl
@[simp] theorem enqueue_straps (s : State) (q : QueueId) (e : QueueEntry) : (s.enqueue q e).straps = s.straps := rfl
@[simp] theorem enqueue_links (s : State) (q : QueueId) (e : QueueEntry) : (s.enqueue q e).links = s.links := rfl
@[simp] theorem enqueue_rrPtr (s : State) (q : QueueId) (e : QueueEntry) : (s.enqueue q e).rrPtr = s.rrPtr := rfl
@[simp] theorem enqueue_pool (s : State) (q : QueueId) (e : QueueEntry) : (s.enqueue q e).pool = s.pool := rfl
@[simp] theorem enqueue_tables (s : State) (q : QueueId) (e : QueueEntry) : (s.enqueue q e).tables = s.tables := rfl
@[simp] theorem enqueue_params (s : State) (q : QueueId) (e : QueueEntry) : (s.enqueue q e).params = s.params := rfl
@[simp] theorem enqueue_monitor (s : State) (q : QueueId) (e : QueueEntry) : (s.enqueue q e).monitor = s.monitor := rfl
@[simp] theorem enqueue_flow (s : State) (q : QueueId) (e : QueueEntry) : (s.enqueue q e).flow = s.flow := rfl
@[simp] theorem enqueue_epoch (s : State) (q : QueueId) (e : QueueEntry) : (s.enqueue q e).epoch = s.epoch := rfl
@[simp] theorem enqueue_agent (s : State) (q : QueueId) (e : QueueEntry) : (s.enqueue q e).agent = s.agent := rfl
@[simp] theorem enqueue_op (s : State) (q : QueueId) (e : QueueEntry) : (s.enqueue q e).op = s.op := rfl
@[simp] theorem enqueue_scrub (s : State) (q : QueueId) (e : QueueEntry) : (s.enqueue q e).scrub = s.scrub := rfl
@[simp] theorem enqueue_attn (s : State) (q : QueueId) (e : QueueEntry) : (s.enqueue q e).attn = s.attn := rfl
@[simp] theorem enqueue_globals (s : State) (q : QueueId) (e : QueueEntry) : (s.enqueue q e).globals = s.globals := rfl
@[simp] theorem enqueue_freeCtr (s : State) (q : QueueId) (e : QueueEntry) : (s.enqueue q e).freeCtr = s.freeCtr := rfl
@[simp] theorem enqueue_pending (s : State) (q : QueueId) (e : QueueEntry) : (s.enqueue q e).pending = s.pending := rfl
@[simp] theorem enqueue_link (s : State) (q : QueueId) (e : QueueEntry) (k : Link) : (s.enqueue q e).link k = s.link k := link_congr (enqueue_links s q e) k

@[simp] theorem flushQueue_rstN (s : State) (q : QueueId) : (s.flushQueue q).rstN = s.rstN := rfl
@[simp] theorem flushQueue_straps (s : State) (q : QueueId) : (s.flushQueue q).straps = s.straps := rfl
@[simp] theorem flushQueue_links (s : State) (q : QueueId) : (s.flushQueue q).links = s.links := rfl
@[simp] theorem flushQueue_rrPtr (s : State) (q : QueueId) : (s.flushQueue q).rrPtr = s.rrPtr := rfl
@[simp] theorem flushQueue_tables (s : State) (q : QueueId) : (s.flushQueue q).tables = s.tables := rfl
@[simp] theorem flushQueue_params (s : State) (q : QueueId) : (s.flushQueue q).params = s.params := rfl
@[simp] theorem flushQueue_monitor (s : State) (q : QueueId) : (s.flushQueue q).monitor = s.monitor := rfl
@[simp] theorem flushQueue_flow (s : State) (q : QueueId) : (s.flushQueue q).flow = s.flow := rfl
@[simp] theorem flushQueue_epoch (s : State) (q : QueueId) : (s.flushQueue q).epoch = s.epoch := rfl
@[simp] theorem flushQueue_agent (s : State) (q : QueueId) : (s.flushQueue q).agent = s.agent := rfl
@[simp] theorem flushQueue_op (s : State) (q : QueueId) : (s.flushQueue q).op = s.op := rfl
@[simp] theorem flushQueue_scrub (s : State) (q : QueueId) : (s.flushQueue q).scrub = s.scrub := rfl
@[simp] theorem flushQueue_attn (s : State) (q : QueueId) : (s.flushQueue q).attn = s.attn := rfl
@[simp] theorem flushQueue_globals (s : State) (q : QueueId) : (s.flushQueue q).globals = s.globals := rfl
@[simp] theorem flushQueue_freeCtr (s : State) (q : QueueId) : (s.flushQueue q).freeCtr = s.freeCtr := rfl
@[simp] theorem flushQueue_pending (s : State) (q : QueueId) : (s.flushQueue q).pending = s.pending := rfl
@[simp] theorem flushQueue_link (s : State) (q : QueueId) (k : Link) : (s.flushQueue q).link k = s.link k := link_congr (flushQueue_links s q) k

@[simp] theorem failOver_rstN (s : State) (moves : Link → Bool) : (s.failOver moves).rstN = s.rstN := by simp [State.failOver]
@[simp] theorem failOver_straps (s : State) (moves : Link → Bool) : (s.failOver moves).straps = s.straps := by simp [State.failOver]
@[simp] theorem failOver_links (s : State) (moves : Link → Bool) : (s.failOver moves).links = s.links := by simp [State.failOver]
@[simp] theorem failOver_queues (s : State) (moves : Link → Bool) : (s.failOver moves).queues = s.queues := by simp [State.failOver]
@[simp] theorem failOver_rrPtr (s : State) (moves : Link → Bool) : (s.failOver moves).rrPtr = s.rrPtr := by simp [State.failOver]
@[simp] theorem failOver_pool (s : State) (moves : Link → Bool) : (s.failOver moves).pool = s.pool := by simp [State.failOver]
@[simp] theorem failOver_params (s : State) (moves : Link → Bool) : (s.failOver moves).params = s.params := by simp [State.failOver]
@[simp] theorem failOver_monitor (s : State) (moves : Link → Bool) : (s.failOver moves).monitor = s.monitor := by simp [State.failOver]
@[simp] theorem failOver_flow (s : State) (moves : Link → Bool) : (s.failOver moves).flow = s.flow := by simp [State.failOver]
@[simp] theorem failOver_epoch (s : State) (moves : Link → Bool) : (s.failOver moves).epoch = s.epoch := by simp [State.failOver]
@[simp] theorem failOver_agent (s : State) (moves : Link → Bool) : (s.failOver moves).agent = s.agent := by simp [State.failOver]
@[simp] theorem failOver_op (s : State) (moves : Link → Bool) : (s.failOver moves).op = s.op := by simp [State.failOver]
@[simp] theorem failOver_scrub (s : State) (moves : Link → Bool) : (s.failOver moves).scrub = s.scrub := by simp [State.failOver]
@[simp] theorem failOver_attn (s : State) (moves : Link → Bool) : (s.failOver moves).attn = s.attn := by simp [State.failOver]
@[simp] theorem failOver_freeCtr (s : State) (moves : Link → Bool) : (s.failOver moves).freeCtr = s.freeCtr := by simp [State.failOver]
@[simp] theorem failOver_pending (s : State) (moves : Link → Bool) : (s.failOver moves).pending = s.pending := by simp [State.failOver]
@[simp] theorem failOver_link (s : State) (moves : Link → Bool) (k : Link) : (s.failOver moves).link k = s.link k := link_congr (failOver_links s moves) k
@[simp] theorem failOver_queue (s : State) (moves : Link → Bool) (k : QueueId) : (s.failOver moves).queue k = s.queue k := queue_congr (failOver_queues s moves) k

@[simp] theorem quiet_rstN (s : State) (l : Link) (next : Sending) : (s.quiet l next).rstN = s.rstN := rfl
@[simp] theorem quiet_straps (s : State) (l : Link) (next : Sending) : (s.quiet l next).straps = s.straps := rfl
@[simp] theorem quiet_queues (s : State) (l : Link) (next : Sending) : (s.quiet l next).queues = s.queues := rfl
@[simp] theorem quiet_rrPtr (s : State) (l : Link) (next : Sending) : (s.quiet l next).rrPtr = s.rrPtr := rfl
@[simp] theorem quiet_pool (s : State) (l : Link) (next : Sending) : (s.quiet l next).pool = s.pool := rfl
@[simp] theorem quiet_tables (s : State) (l : Link) (next : Sending) : (s.quiet l next).tables = s.tables := rfl
@[simp] theorem quiet_params (s : State) (l : Link) (next : Sending) : (s.quiet l next).params = s.params := rfl
@[simp] theorem quiet_monitor (s : State) (l : Link) (next : Sending) : (s.quiet l next).monitor = s.monitor := rfl
@[simp] theorem quiet_flow (s : State) (l : Link) (next : Sending) : (s.quiet l next).flow = s.flow := rfl
@[simp] theorem quiet_epoch (s : State) (l : Link) (next : Sending) : (s.quiet l next).epoch = s.epoch := rfl
@[simp] theorem quiet_op (s : State) (l : Link) (next : Sending) : (s.quiet l next).op = s.op := rfl
@[simp] theorem quiet_scrub (s : State) (l : Link) (next : Sending) : (s.quiet l next).scrub = s.scrub := rfl
@[simp] theorem quiet_attn (s : State) (l : Link) (next : Sending) : (s.quiet l next).attn = s.attn := rfl
@[simp] theorem quiet_freeCtr (s : State) (l : Link) (next : Sending) : (s.quiet l next).freeCtr = s.freeCtr := rfl
@[simp] theorem quiet_pending (s : State) (l : Link) (next : Sending) : (s.quiet l next).pending = s.pending := rfl
@[simp] theorem quiet_queue (s : State) (l : Link) (next : Sending) (k : QueueId) : (s.quiet l next).queue k = s.queue k := queue_congr (quiet_queues s l next) k

@[simp] theorem restartEpochTimer_rstN (s : State) : (s.restartEpochTimer).rstN = s.rstN := rfl
@[simp] theorem restartEpochTimer_straps (s : State) : (s.restartEpochTimer).straps = s.straps := rfl
@[simp] theorem restartEpochTimer_links (s : State) : (s.restartEpochTimer).links = s.links := rfl
@[simp] theorem restartEpochTimer_queues (s : State) : (s.restartEpochTimer).queues = s.queues := rfl
@[simp] theorem restartEpochTimer_rrPtr (s : State) : (s.restartEpochTimer).rrPtr = s.rrPtr := rfl
@[simp] theorem restartEpochTimer_pool (s : State) : (s.restartEpochTimer).pool = s.pool := rfl
@[simp] theorem restartEpochTimer_tables (s : State) : (s.restartEpochTimer).tables = s.tables := rfl
@[simp] theorem restartEpochTimer_params (s : State) : (s.restartEpochTimer).params = s.params := rfl
@[simp] theorem restartEpochTimer_monitor (s : State) : (s.restartEpochTimer).monitor = s.monitor := rfl
@[simp] theorem restartEpochTimer_flow (s : State) : (s.restartEpochTimer).flow = s.flow := rfl
@[simp] theorem restartEpochTimer_agent (s : State) : (s.restartEpochTimer).agent = s.agent := rfl
@[simp] theorem restartEpochTimer_op (s : State) : (s.restartEpochTimer).op = s.op := rfl
@[simp] theorem restartEpochTimer_scrub (s : State) : (s.restartEpochTimer).scrub = s.scrub := rfl
@[simp] theorem restartEpochTimer_attn (s : State) : (s.restartEpochTimer).attn = s.attn := rfl
@[simp] theorem restartEpochTimer_globals (s : State) : (s.restartEpochTimer).globals = s.globals := rfl
@[simp] theorem restartEpochTimer_freeCtr (s : State) : (s.restartEpochTimer).freeCtr = s.freeCtr := rfl
@[simp] theorem restartEpochTimer_pending (s : State) : (s.restartEpochTimer).pending = s.pending := rfl
@[simp] theorem restartEpochTimer_link (s : State) (k : Link) : (s.restartEpochTimer).link k = s.link k := link_congr (restartEpochTimer_links s) k
@[simp] theorem restartEpochTimer_queue (s : State) (k : QueueId) : (s.restartEpochTimer).queue k = s.queue k := queue_congr (restartEpochTimer_queues s) k

@[simp] theorem continueOp_rstN (s : State) (progress : Nat) (w : Work) : (s.continueOp progress w).rstN = s.rstN := rfl
@[simp] theorem continueOp_straps (s : State) (progress : Nat) (w : Work) : (s.continueOp progress w).straps = s.straps := rfl
@[simp] theorem continueOp_links (s : State) (progress : Nat) (w : Work) : (s.continueOp progress w).links = s.links := rfl
@[simp] theorem continueOp_queues (s : State) (progress : Nat) (w : Work) : (s.continueOp progress w).queues = s.queues := rfl
@[simp] theorem continueOp_rrPtr (s : State) (progress : Nat) (w : Work) : (s.continueOp progress w).rrPtr = s.rrPtr := rfl
@[simp] theorem continueOp_pool (s : State) (progress : Nat) (w : Work) : (s.continueOp progress w).pool = s.pool := rfl
@[simp] theorem continueOp_tables (s : State) (progress : Nat) (w : Work) : (s.continueOp progress w).tables = s.tables := rfl
@[simp] theorem continueOp_params (s : State) (progress : Nat) (w : Work) : (s.continueOp progress w).params = s.params := rfl
@[simp] theorem continueOp_monitor (s : State) (progress : Nat) (w : Work) : (s.continueOp progress w).monitor = s.monitor := rfl
@[simp] theorem continueOp_flow (s : State) (progress : Nat) (w : Work) : (s.continueOp progress w).flow = s.flow := rfl
@[simp] theorem continueOp_epoch (s : State) (progress : Nat) (w : Work) : (s.continueOp progress w).epoch = s.epoch := rfl
@[simp] theorem continueOp_agent (s : State) (progress : Nat) (w : Work) : (s.continueOp progress w).agent = s.agent := rfl
@[simp] theorem continueOp_scrub (s : State) (progress : Nat) (w : Work) : (s.continueOp progress w).scrub = s.scrub := rfl
@[simp] theorem continueOp_attn (s : State) (progress : Nat) (w : Work) : (s.continueOp progress w).attn = s.attn := rfl
@[simp] theorem continueOp_globals (s : State) (progress : Nat) (w : Work) : (s.continueOp progress w).globals = s.globals := rfl
@[simp] theorem continueOp_freeCtr (s : State) (progress : Nat) (w : Work) : (s.continueOp progress w).freeCtr = s.freeCtr := rfl
@[simp] theorem continueOp_pending (s : State) (progress : Nat) (w : Work) : (s.continueOp progress w).pending = s.pending := rfl
@[simp] theorem continueOp_link (s : State) (progress : Nat) (w : Work) (k : Link) : (s.continueOp progress w).link k = s.link k := link_congr (continueOp_links s progress w) k
@[simp] theorem continueOp_queue (s : State) (progress : Nat) (w : Work) (k : QueueId) : (s.continueOp progress w).queue k = s.queue k := queue_congr (continueOp_queues s progress w) k

/-! ### The field each plain update writes -/

theorem setLink_links (s : State) (l : Link) (p : LinkPort) : (s.setLink l p).links = setSlot s.links l p := rfl
theorem setQueue_queues (s : State) (q : QueueId) (out : OutQueue) : (s.setQueue q out).queues = setSlot s.queues q out := rfl
@[simp] theorem countGlobal_globals (s : State) (f : GlobalCounters → GlobalCounters) : (s.countGlobal f).globals = f s.globals := rfl
@[simp] theorem setFlag_attn (s : State) (f : AttnFlag) :
    (s.setFlag f).attn = { s.attn with flags := s.attn.flags ||| BitVec.twoPow 8 f.bit } := rfl
@[simp] theorem release_pool (s : State) (h : Handle) : (s.release h).pool = s.pool.release s.params.poolLow h := rfl
@[simp] theorem restartEpochTimer_epoch (s : State) :
    s.restartEpochTimer.epoch = { s.epoch with timer := .running s.params.epochPeriod } := rfl
@[simp] theorem continueOp_op (s : State) (progress : Nat) (w : Work) : (s.continueOp progress w).op = some ⟨.running, progress, w⟩ := rfl
@[simp] theorem setBank_tables (s : State) (b : Bank) (t : BankTables) :
    (s.setBank b t).tables = { s.tables with banks := setSlot s.tables.banks b t } := rfl

theorem bank_setBank (s : State) (b k : Bank) (t : BankTables) : (s.setBank b t).bank k = if b = k then t else s.bank k := by
  simp [State.bank, slot_setSlot]

theorem link_countLink (s : State) (l k : Link) (f : LinkCounters → LinkCounters) :
    (s.countLink l f).link k = if l = k then { s.link k with counters := f (s.link k).counters } else s.link k := by
  simp [State.countLink, link_modLink]

theorem queue_countQueue (s : State) (q k : QueueId) (f : QueueCounters → QueueCounters) :
    (s.countQueue q f).queue k = if q = k then { s.queue k with counters := f (s.queue k).counters } else s.queue k := by
  by_cases h : q = k
  · subst h; simp [State.countQueue]
  · simp [State.countQueue, queue_setQueue, h]

theorem queue_enqueue (s : State) (q k : QueueId) (e : QueueEntry) :
    (s.enqueue q e).queue k =
      if q = k then { s.queue k with entries := (s.queue k).entries ++ [e],
                                     counters := { (s.queue k).counters with enqueued := bump (s.queue k).counters.enqueued 1 } }
      else s.queue k := by
  by_cases h : q = k
  · subst h; simp [State.enqueue]
  · simp [State.enqueue, queue_setQueue, h]

theorem queue_flushQueue (s : State) (q k : QueueId) : (s.flushQueue q).queue k = if q = k then (s.queue k).flushed else s.queue k := by
  have hq : (s.flushQueue q).queue k = (s.setQueue q (s.queue q).flushed).queue k := rfl
  rw [hq, queue_setQueue]
  by_cases h : q = k
  · subst h; simp
  · simp [h]

theorem link_pendAttention (s : State) (l : Link) :
    s.pendAttention.link l =
      if LinkSet.has s.agent.permitted l = true ∧ (s.link l).state = .up then { s.link l with pendAttn := true } else s.link l := by
  simp [State.pendAttention]

theorem link_oweFlowst (s : State) (l : Link) :
    s.oweFlowst.link l =
      if LinkSet.has s.params.recipients l = true ∧ (s.link l).state = .up then { s.link l with pendFlowst := true } else s.link l := by
  simp [State.oweFlowst]

/-! ### Queue numbers -/

/-- The link and the class of a queue name it (R183). -/
@[simp] theorem queueId_link_class (q : QueueId) : queueId (queueLink q) (queueClass q) = q := by
  apply Fin.ext; simp [queueId, queueLink, queueClass]; try omega

@[simp] theorem queueLink_queueId (l : Link) (cc : Class) : queueLink (queueId l cc) = l := by
  apply Fin.ext; simp [queueId, queueLink]; omega

@[simp] theorem queueClass_queueId (l : Link) (cc : Class) : queueClass (queueId l cc) = cc := by
  apply Fin.ext; simp [queueId, queueClass]

theorem queueId_injective {l k : Link} {cc d : Class} (h : queueId l cc = queueId k d) : l = k ∧ cc = d := by
  have hl := congrArg queueLink h
  have hc := congrArg queueClass h
  simp at hl hc
  exact ⟨hl, hc⟩

end Sys2Proof.Laws
end

