-- ==== Sys2Proof/Laws/Frames.lean ====
section
/-! SUPPORT. What each shared operation leaves alone: one lemma for each field of State outside those it writes, and for each field of a link
port outside the pending flag it may set. -/

namespace Sys2Proof.Laws

open Sys2Proof.Machine

@[simp] theorem pendAttention_port_state (s : State) (k : Link) : ((s.pendAttention).link k).state = (s.link k).state := by rw [link_pendAttention]; split <;> rfl
@[simp] theorem pendAttention_port_disablePending (s : State) (k : Link) : ((s.pendAttention).link k).disablePending = (s.link k).disablePending := by rw [link_pendAttention]; split <;> rfl
@[simp] theorem pendAttention_port_trainCount (s : State) (k : Link) : ((s.pendAttention).link k).trainCount = (s.link k).trainCount := by rw [link_pendAttention]; split <;> rfl
@[simp] theorem pendAttention_port_window (s : State) (k : Link) : ((s.pendAttention).link k).window = (s.link k).window := by rw [link_pendAttention]; split <;> rfl
@[simp] theorem pendAttention_port_keepalive (s : State) (k : Link) : ((s.pendAttention).link k).keepalive = (s.link k).keepalive := by rw [link_pendAttention]; split <;> rfl
@[simp] theorem pendAttention_port_budget (s : State) (k : Link) : ((s.pendAttention).link k).budget = (s.link k).budget := by rw [link_pendAttention]; split <;> rfl
@[simp] theorem pendAttention_port_retrainCount (s : State) (k : Link) : ((s.pendAttention).link k).retrainCount = (s.link k).retrainCount := by rw [link_pendAttention]; split <;> rfl
@[simp] theorem pendAttention_port_holdOff (s : State) (k : Link) : ((s.pendAttention).link k).holdOff = (s.link k).holdOff := by rw [link_pendAttention]; split <;> rfl
@[simp] theorem pendAttention_port_cause (s : State) (k : Link) : ((s.pendAttention).link k).cause = (s.link k).cause := by rw [link_pendAttention]; split <;> rfl
@[simp] theorem pendAttention_port_farGap (s : State) (k : Link) : ((s.pendAttention).link k).farGap = (s.link k).farGap := by rw [link_pendAttention]; split <;> rfl
@[simp] theorem pendAttention_port_rxBuf (s : State) (k : Link) : ((s.pendAttention).link k).rxBuf = (s.link k).rxBuf := by rw [link_pendAttention]; split <;> rfl
@[simp] theorem pendAttention_port_respQueue (s : State) (k : Link) : ((s.pendAttention).link k).respQueue = (s.link k).respQueue := by rw [link_pendAttention]; split <;> rfl
@[simp] theorem pendAttention_port_pendFlowst (s : State) (k : Link) : ((s.pendAttention).link k).pendFlowst = (s.link k).pendFlowst := by rw [link_pendAttention]; split <;> rfl
@[simp] theorem pendAttention_port_inFlight (s : State) (k : Link) : ((s.pendAttention).link k).inFlight = (s.link k).inFlight := by rw [link_pendAttention]; split <;> rfl
@[simp] theorem pendAttention_port_sending (s : State) (k : Link) : ((s.pendAttention).link k).sending = (s.link k).sending := by rw [link_pendAttention]; split <;> rfl
@[simp] theorem pendAttention_port_gapCount (s : State) (k : Link) : ((s.pendAttention).link k).gapCount = (s.link k).gapCount := by rw [link_pendAttention]; split <;> rfl
@[simp] theorem pendAttention_port_wrrClass (s : State) (k : Link) : ((s.pendAttention).link k).wrrClass = (s.link k).wrrClass := by rw [link_pendAttention]; split <;> rfl
@[simp] theorem pendAttention_port_wrrCount (s : State) (k : Link) : ((s.pendAttention).link k).wrrCount = (s.link k).wrrCount := by rw [link_pendAttention]; split <;> rfl
@[simp] theorem pendAttention_port_counters (s : State) (k : Link) : ((s.pendAttention).link k).counters = (s.link k).counters := by rw [link_pendAttention]; split <;> rfl

@[simp] theorem oweFlowst_port_state (s : State) (k : Link) : ((s.oweFlowst).link k).state = (s.link k).state := by rw [link_oweFlowst]; split <;> rfl
@[simp] theorem oweFlowst_port_disablePending (s : State) (k : Link) : ((s.oweFlowst).link k).disablePending = (s.link k).disablePending := by rw [link_oweFlowst]; split <;> rfl
@[simp] theorem oweFlowst_port_trainCount (s : State) (k : Link) : ((s.oweFlowst).link k).trainCount = (s.link k).trainCount := by rw [link_oweFlowst]; split <;> rfl
@[simp] theorem oweFlowst_port_window (s : State) (k : Link) : ((s.oweFlowst).link k).window = (s.link k).window := by rw [link_oweFlowst]; split <;> rfl
@[simp] theorem oweFlowst_port_keepalive (s : State) (k : Link) : ((s.oweFlowst).link k).keepalive = (s.link k).keepalive := by rw [link_oweFlowst]; split <;> rfl
@[simp] theorem oweFlowst_port_budget (s : State) (k : Link) : ((s.oweFlowst).link k).budget = (s.link k).budget := by rw [link_oweFlowst]; split <;> rfl
@[simp] theorem oweFlowst_port_retrainCount (s : State) (k : Link) : ((s.oweFlowst).link k).retrainCount = (s.link k).retrainCount := by rw [link_oweFlowst]; split <;> rfl
@[simp] theorem oweFlowst_port_holdOff (s : State) (k : Link) : ((s.oweFlowst).link k).holdOff = (s.link k).holdOff := by rw [link_oweFlowst]; split <;> rfl
@[simp] theorem oweFlowst_port_cause (s : State) (k : Link) : ((s.oweFlowst).link k).cause = (s.link k).cause := by rw [link_oweFlowst]; split <;> rfl
@[simp] theorem oweFlowst_port_farGap (s : State) (k : Link) : ((s.oweFlowst).link k).farGap = (s.link k).farGap := by rw [link_oweFlowst]; split <;> rfl
@[simp] theorem oweFlowst_port_rxBuf (s : State) (k : Link) : ((s.oweFlowst).link k).rxBuf = (s.link k).rxBuf := by rw [link_oweFlowst]; split <;> rfl
@[simp] theorem oweFlowst_port_respQueue (s : State) (k : Link) : ((s.oweFlowst).link k).respQueue = (s.link k).respQueue := by rw [link_oweFlowst]; split <;> rfl
@[simp] theorem oweFlowst_port_pendAttn (s : State) (k : Link) : ((s.oweFlowst).link k).pendAttn = (s.link k).pendAttn := by rw [link_oweFlowst]; split <;> rfl
@[simp] theorem oweFlowst_port_inFlight (s : State) (k : Link) : ((s.oweFlowst).link k).inFlight = (s.link k).inFlight := by rw [link_oweFlowst]; split <;> rfl
@[simp] theorem oweFlowst_port_sending (s : State) (k : Link) : ((s.oweFlowst).link k).sending = (s.link k).sending := by rw [link_oweFlowst]; split <;> rfl
@[simp] theorem oweFlowst_port_gapCount (s : State) (k : Link) : ((s.oweFlowst).link k).gapCount = (s.link k).gapCount := by rw [link_oweFlowst]; split <;> rfl
@[simp] theorem oweFlowst_port_wrrClass (s : State) (k : Link) : ((s.oweFlowst).link k).wrrClass = (s.link k).wrrClass := by rw [link_oweFlowst]; split <;> rfl
@[simp] theorem oweFlowst_port_wrrCount (s : State) (k : Link) : ((s.oweFlowst).link k).wrrCount = (s.link k).wrrCount := by rw [link_oweFlowst]; split <;> rfl
@[simp] theorem oweFlowst_port_counters (s : State) (k : Link) : ((s.oweFlowst).link k).counters = (s.link k).counters := by rw [link_oweFlowst]; split <;> rfl

@[simp] theorem alertLinks_rstN (s : State) : (s.alertLinks).rstN = s.rstN := by unfold State.alertLinks; (repeat' split) <;> simp
@[simp] theorem alertLinks_straps (s : State) : (s.alertLinks).straps = s.straps := by unfold State.alertLinks; (repeat' split) <;> simp
@[simp] theorem alertLinks_queues (s : State) : (s.alertLinks).queues = s.queues := by unfold State.alertLinks; (repeat' split) <;> simp
@[simp] theorem alertLinks_rrPtr (s : State) : (s.alertLinks).rrPtr = s.rrPtr := by unfold State.alertLinks; (repeat' split) <;> simp
@[simp] theorem alertLinks_pool (s : State) : (s.alertLinks).pool = s.pool := by unfold State.alertLinks; (repeat' split) <;> simp
@[simp] theorem alertLinks_tables (s : State) : (s.alertLinks).tables = s.tables := by unfold State.alertLinks; (repeat' split) <;> simp
@[simp] theorem alertLinks_params (s : State) : (s.alertLinks).params = s.params := by unfold State.alertLinks; (repeat' split) <;> simp
@[simp] theorem alertLinks_monitor (s : State) : (s.alertLinks).monitor = s.monitor := by unfold State.alertLinks; (repeat' split) <;> simp
@[simp] theorem alertLinks_flow (s : State) : (s.alertLinks).flow = s.flow := by unfold State.alertLinks; (repeat' split) <;> simp
@[simp] theorem alertLinks_epoch (s : State) : (s.alertLinks).epoch = s.epoch := by unfold State.alertLinks; (repeat' split) <;> simp
@[simp] theorem alertLinks_agent (s : State) : (s.alertLinks).agent = s.agent := by unfold State.alertLinks; (repeat' split) <;> simp
@[simp] theorem alertLinks_op (s : State) : (s.alertLinks).op = s.op := by unfold State.alertLinks; (repeat' split) <;> simp
@[simp] theorem alertLinks_scrub (s : State) : (s.alertLinks).scrub = s.scrub := by unfold State.alertLinks; (repeat' split) <;> simp
@[simp] theorem alertLinks_globals (s : State) : (s.alertLinks).globals = s.globals := by unfold State.alertLinks; (repeat' split) <;> simp
@[simp] theorem alertLinks_freeCtr (s : State) : (s.alertLinks).freeCtr = s.freeCtr := by unfold State.alertLinks; (repeat' split) <;> simp
@[simp] theorem alertLinks_pending (s : State) : (s.alertLinks).pending = s.pending := by unfold State.alertLinks; (repeat' split) <;> simp
@[simp] theorem alertLinks_queue (s : State) (q : QueueId) : (s.alertLinks).queue q = s.queue q := queue_congr (alertLinks_queues s) q
@[simp] theorem alertLinks_port_state (s : State) (k : Link) : ((s.alertLinks).link k).state = (s.link k).state := by unfold State.alertLinks; (repeat' split) <;> simp
@[simp] theorem alertLinks_port_disablePending (s : State) (k : Link) : ((s.alertLinks).link k).disablePending = (s.link k).disablePending := by unfold State.alertLinks; (repeat' split) <;> simp
@[simp] theorem alertLinks_port_trainCount (s : State) (k : Link) : ((s.alertLinks).link k).trainCount = (s.link k).trainCount := by unfold State.alertLinks; (repeat' split) <;> simp
@[simp] theorem alertLinks_port_window (s : State) (k : Link) : ((s.alertLinks).link k).window = (s.link k).window := by unfold State.alertLinks; (repeat' split) <;> simp
@[simp] theorem alertLinks_port_keepalive (s : State) (k : Link) : ((s.alertLinks).link k).keepalive = (s.link k).keepalive := by unfold State.alertLinks; (repeat' split) <;> simp
@[simp] theorem alertLinks_port_budget (s : State) (k : Link) : ((s.alertLinks).link k).budget = (s.link k).budget := by unfold State.alertLinks; (repeat' split) <;> simp
@[simp] theorem alertLinks_port_retrainCount (s : State) (k : Link) : ((s.alertLinks).link k).retrainCount = (s.link k).retrainCount := by unfold State.alertLinks; (repeat' split) <;> simp
@[simp] theorem alertLinks_port_holdOff (s : State) (k : Link) : ((s.alertLinks).link k).holdOff = (s.link k).holdOff := by unfold State.alertLinks; (repeat' split) <;> simp
@[simp] theorem alertLinks_port_cause (s : State) (k : Link) : ((s.alertLinks).link k).cause = (s.link k).cause := by unfold State.alertLinks; (repeat' split) <;> simp
@[simp] theorem alertLinks_port_farGap (s : State) (k : Link) : ((s.alertLinks).link k).farGap = (s.link k).farGap := by unfold State.alertLinks; (repeat' split) <;> simp
@[simp] theorem alertLinks_port_rxBuf (s : State) (k : Link) : ((s.alertLinks).link k).rxBuf = (s.link k).rxBuf := by unfold State.alertLinks; (repeat' split) <;> simp
@[simp] theorem alertLinks_port_respQueue (s : State) (k : Link) : ((s.alertLinks).link k).respQueue = (s.link k).respQueue := by unfold State.alertLinks; (repeat' split) <;> simp
@[simp] theorem alertLinks_port_pendFlowst (s : State) (k : Link) : ((s.alertLinks).link k).pendFlowst = (s.link k).pendFlowst := by unfold State.alertLinks; (repeat' split) <;> simp
@[simp] theorem alertLinks_port_inFlight (s : State) (k : Link) : ((s.alertLinks).link k).inFlight = (s.link k).inFlight := by unfold State.alertLinks; (repeat' split) <;> simp
@[simp] theorem alertLinks_port_sending (s : State) (k : Link) : ((s.alertLinks).link k).sending = (s.link k).sending := by unfold State.alertLinks; (repeat' split) <;> simp
@[simp] theorem alertLinks_port_gapCount (s : State) (k : Link) : ((s.alertLinks).link k).gapCount = (s.link k).gapCount := by unfold State.alertLinks; (repeat' split) <;> simp
@[simp] theorem alertLinks_port_wrrClass (s : State) (k : Link) : ((s.alertLinks).link k).wrrClass = (s.link k).wrrClass := by unfold State.alertLinks; (repeat' split) <;> simp
@[simp] theorem alertLinks_port_wrrCount (s : State) (k : Link) : ((s.alertLinks).link k).wrrCount = (s.link k).wrrCount := by unfold State.alertLinks; (repeat' split) <;> simp
@[simp] theorem alertLinks_port_counters (s : State) (k : Link) : ((s.alertLinks).link k).counters = (s.link k).counters := by unfold State.alertLinks; (repeat' split) <;> simp

@[simp] theorem raise_rstN (s : State) (f : AttnFlag) : (s.raise f).rstN = s.rstN := by unfold State.raise; (repeat' split) <;> simp
@[simp] theorem raise_straps (s : State) (f : AttnFlag) : (s.raise f).straps = s.straps := by unfold State.raise; (repeat' split) <;> simp
@[simp] theorem raise_queues (s : State) (f : AttnFlag) : (s.raise f).queues = s.queues := by unfold State.raise; (repeat' split) <;> simp
@[simp] theorem raise_rrPtr (s : State) (f : AttnFlag) : (s.raise f).rrPtr = s.rrPtr := by unfold State.raise; (repeat' split) <;> simp
@[simp] theorem raise_pool (s : State) (f : AttnFlag) : (s.raise f).pool = s.pool := by unfold State.raise; (repeat' split) <;> simp
@[simp] theorem raise_tables (s : State) (f : AttnFlag) : (s.raise f).tables = s.tables := by unfold State.raise; (repeat' split) <;> simp
@[simp] theorem raise_params (s : State) (f : AttnFlag) : (s.raise f).params = s.params := by unfold State.raise; (repeat' split) <;> simp
@[simp] theorem raise_monitor (s : State) (f : AttnFlag) : (s.raise f).monitor = s.monitor := by unfold State.raise; (repeat' split) <;> simp
@[simp] theorem raise_flow (s : State) (f : AttnFlag) : (s.raise f).flow = s.flow := by unfold State.raise; (repeat' split) <;> simp
@[simp] theorem raise_epoch (s : State) (f : AttnFlag) : (s.raise f).epoch = s.epoch := by unfold State.raise; (repeat' split) <;> simp
@[simp] theorem raise_agent (s : State) (f : AttnFlag) : (s.raise f).agent = s.agent := by unfold State.raise; (repeat' split) <;> simp
@[simp] theorem raise_op (s : State) (f : AttnFlag) : (s.raise f).op = s.op := by unfold State.raise; (repeat' split) <;> simp
@[simp] theorem raise_scrub (s : State) (f : AttnFlag) : (s.raise f).scrub = s.scrub := by unfold State.raise; (repeat' split) <;> simp
@[simp] theorem raise_globals (s : State) (f : AttnFlag) : (s.raise f).globals = s.globals := by unfold State.raise; (repeat' split) <;> simp
@[simp] theorem raise_freeCtr (s : State) (f : AttnFlag) : (s.raise f).freeCtr = s.freeCtr := by unfold State.raise; (repeat' split) <;> simp
@[simp] theorem raise_pending (s : State) (f : AttnFlag) : (s.raise f).pending = s.pending := by unfold State.raise; (repeat' split) <;> simp
@[simp] theorem raise_queue (s : State) (f : AttnFlag) (q : QueueId) : (s.raise f).queue q = s.queue q := queue_congr (raise_queues s f) q
@[simp] theorem raise_port_state (s : State) (f : AttnFlag) (k : Link) : ((s.raise f).link k).state = (s.link k).state := by unfold State.raise; (repeat' split) <;> simp
@[simp] theorem raise_port_disablePending (s : State) (f : AttnFlag) (k : Link) : ((s.raise f).link k).disablePending = (s.link k).disablePending := by unfold State.raise; (repeat' split) <;> simp
@[simp] theorem raise_port_trainCount (s : State) (f : AttnFlag) (k : Link) : ((s.raise f).link k).trainCount = (s.link k).trainCount := by unfold State.raise; (repeat' split) <;> simp
@[simp] theorem raise_port_window (s : State) (f : AttnFlag) (k : Link) : ((s.raise f).link k).window = (s.link k).window := by unfold State.raise; (repeat' split) <;> simp
@[simp] theorem raise_port_keepalive (s : State) (f : AttnFlag) (k : Link) : ((s.raise f).link k).keepalive = (s.link k).keepalive := by unfold State.raise; (repeat' split) <;> simp
@[simp] theorem raise_port_budget (s : State) (f : AttnFlag) (k : Link) : ((s.raise f).link k).budget = (s.link k).budget := by unfold State.raise; (repeat' split) <;> simp
@[simp] theorem raise_port_retrainCount (s : State) (f : AttnFlag) (k : Link) : ((s.raise f).link k).retrainCount = (s.link k).retrainCount := by unfold State.raise; (repeat' split) <;> simp
@[simp] theorem raise_port_holdOff (s : State) (f : AttnFlag) (k : Link) : ((s.raise f).link k).holdOff = (s.link k).holdOff := by unfold State.raise; (repeat' split) <;> simp
@[simp] theorem raise_port_cause (s : State) (f : AttnFlag) (k : Link) : ((s.raise f).link k).cause = (s.link k).cause := by unfold State.raise; (repeat' split) <;> simp
@[simp] theorem raise_port_farGap (s : State) (f : AttnFlag) (k : Link) : ((s.raise f).link k).farGap = (s.link k).farGap := by unfold State.raise; (repeat' split) <;> simp
@[simp] theorem raise_port_rxBuf (s : State) (f : AttnFlag) (k : Link) : ((s.raise f).link k).rxBuf = (s.link k).rxBuf := by unfold State.raise; (repeat' split) <;> simp
@[simp] theorem raise_port_respQueue (s : State) (f : AttnFlag) (k : Link) : ((s.raise f).link k).respQueue = (s.link k).respQueue := by unfold State.raise; (repeat' split) <;> simp
@[simp] theorem raise_port_pendFlowst (s : State) (f : AttnFlag) (k : Link) : ((s.raise f).link k).pendFlowst = (s.link k).pendFlowst := by unfold State.raise; (repeat' split) <;> simp
@[simp] theorem raise_port_inFlight (s : State) (f : AttnFlag) (k : Link) : ((s.raise f).link k).inFlight = (s.link k).inFlight := by unfold State.raise; (repeat' split) <;> simp
@[simp] theorem raise_port_sending (s : State) (f : AttnFlag) (k : Link) : ((s.raise f).link k).sending = (s.link k).sending := by unfold State.raise; (repeat' split) <;> simp
@[simp] theorem raise_port_gapCount (s : State) (f : AttnFlag) (k : Link) : ((s.raise f).link k).gapCount = (s.link k).gapCount := by unfold State.raise; (repeat' split) <;> simp
@[simp] theorem raise_port_wrrClass (s : State) (f : AttnFlag) (k : Link) : ((s.raise f).link k).wrrClass = (s.link k).wrrClass := by unfold State.raise; (repeat' split) <;> simp
@[simp] theorem raise_port_wrrCount (s : State) (f : AttnFlag) (k : Link) : ((s.raise f).link k).wrrCount = (s.link k).wrrCount := by unfold State.raise; (repeat' split) <;> simp
@[simp] theorem raise_port_counters (s : State) (f : AttnFlag) (k : Link) : ((s.raise f).link k).counters = (s.link k).counters := by unfold State.raise; (repeat' split) <;> simp

@[simp] theorem reportPause_rstN (s : State) : (s.reportPause).rstN = s.rstN := by unfold State.reportPause; (repeat' split) <;> simp
@[simp] theorem reportPause_straps (s : State) : (s.reportPause).straps = s.straps := by unfold State.reportPause; (repeat' split) <;> simp
@[simp] theorem reportPause_queues (s : State) : (s.reportPause).queues = s.queues := by unfold State.reportPause; (repeat' split) <;> simp
@[simp] theorem reportPause_rrPtr (s : State) : (s.reportPause).rrPtr = s.rrPtr := by unfold State.reportPause; (repeat' split) <;> simp
@[simp] theorem reportPause_pool (s : State) : (s.reportPause).pool = s.pool := by unfold State.reportPause; (repeat' split) <;> simp
@[simp] theorem reportPause_tables (s : State) : (s.reportPause).tables = s.tables := by unfold State.reportPause; (repeat' split) <;> simp
@[simp] theorem reportPause_params (s : State) : (s.reportPause).params = s.params := by unfold State.reportPause; (repeat' split) <;> simp
@[simp] theorem reportPause_monitor (s : State) : (s.reportPause).monitor = s.monitor := by unfold State.reportPause; (repeat' split) <;> simp
@[simp] theorem reportPause_epoch (s : State) : (s.reportPause).epoch = s.epoch := by unfold State.reportPause; (repeat' split) <;> simp
@[simp] theorem reportPause_agent (s : State) : (s.reportPause).agent = s.agent := by unfold State.reportPause; (repeat' split) <;> simp
@[simp] theorem reportPause_op (s : State) : (s.reportPause).op = s.op := by unfold State.reportPause; (repeat' split) <;> simp
@[simp] theorem reportPause_scrub (s : State) : (s.reportPause).scrub = s.scrub := by unfold State.reportPause; (repeat' split) <;> simp
@[simp] theorem reportPause_attn (s : State) : (s.reportPause).attn = s.attn := by unfold State.reportPause; (repeat' split) <;> simp
@[simp] theorem reportPause_globals (s : State) : (s.reportPause).globals = s.globals := by unfold State.reportPause; (repeat' split) <;> simp
@[simp] theorem reportPause_freeCtr (s : State) : (s.reportPause).freeCtr = s.freeCtr := by unfold State.reportPause; (repeat' split) <;> simp
@[simp] theorem reportPause_pending (s : State) : (s.reportPause).pending = s.pending := by unfold State.reportPause; (repeat' split) <;> simp
@[simp] theorem reportPause_queue (s : State) (q : QueueId) : (s.reportPause).queue q = s.queue q := queue_congr (reportPause_queues s) q
@[simp] theorem reportPause_port_state (s : State) (k : Link) : ((s.reportPause).link k).state = (s.link k).state := by unfold State.reportPause; (repeat' split) <;> simp
@[simp] theorem reportPause_port_disablePending (s : State) (k : Link) : ((s.reportPause).link k).disablePending = (s.link k).disablePending := by unfold State.reportPause; (repeat' split) <;> simp
@[simp] theorem reportPause_port_trainCount (s : State) (k : Link) : ((s.reportPause).link k).trainCount = (s.link k).trainCount := by unfold State.reportPause; (repeat' split) <;> simp
@[simp] theorem reportPause_port_window (s : State) (k : Link) : ((s.reportPause).link k).window = (s.link k).window := by unfold State.reportPause; (repeat' split) <;> simp
@[simp] theorem reportPause_port_keepalive (s : State) (k : Link) : ((s.reportPause).link k).keepalive = (s.link k).keepalive := by unfold State.reportPause; (repeat' split) <;> simp
@[simp] theorem reportPause_port_budget (s : State) (k : Link) : ((s.reportPause).link k).budget = (s.link k).budget := by unfold State.reportPause; (repeat' split) <;> simp
@[simp] theorem reportPause_port_retrainCount (s : State) (k : Link) : ((s.reportPause).link k).retrainCount = (s.link k).retrainCount := by unfold State.reportPause; (repeat' split) <;> simp
@[simp] theorem reportPause_port_holdOff (s : State) (k : Link) : ((s.reportPause).link k).holdOff = (s.link k).holdOff := by unfold State.reportPause; (repeat' split) <;> simp
@[simp] theorem reportPause_port_cause (s : State) (k : Link) : ((s.reportPause).link k).cause = (s.link k).cause := by unfold State.reportPause; (repeat' split) <;> simp
@[simp] theorem reportPause_port_farGap (s : State) (k : Link) : ((s.reportPause).link k).farGap = (s.link k).farGap := by unfold State.reportPause; (repeat' split) <;> simp
@[simp] theorem reportPause_port_rxBuf (s : State) (k : Link) : ((s.reportPause).link k).rxBuf = (s.link k).rxBuf := by unfold State.reportPause; (repeat' split) <;> simp
@[simp] theorem reportPause_port_respQueue (s : State) (k : Link) : ((s.reportPause).link k).respQueue = (s.link k).respQueue := by unfold State.reportPause; (repeat' split) <;> simp
@[simp] theorem reportPause_port_pendAttn (s : State) (k : Link) : ((s.reportPause).link k).pendAttn = (s.link k).pendAttn := by unfold State.reportPause; (repeat' split) <;> simp
@[simp] theorem reportPause_port_inFlight (s : State) (k : Link) : ((s.reportPause).link k).inFlight = (s.link k).inFlight := by unfold State.reportPause; (repeat' split) <;> simp
@[simp] theorem reportPause_port_sending (s : State) (k : Link) : ((s.reportPause).link k).sending = (s.link k).sending := by unfold State.reportPause; (repeat' split) <;> simp
@[simp] theorem reportPause_port_gapCount (s : State) (k : Link) : ((s.reportPause).link k).gapCount = (s.link k).gapCount := by unfold State.reportPause; (repeat' split) <;> simp
@[simp] theorem reportPause_port_wrrClass (s : State) (k : Link) : ((s.reportPause).link k).wrrClass = (s.link k).wrrClass := by unfold State.reportPause; (repeat' split) <;> simp
@[simp] theorem reportPause_port_wrrCount (s : State) (k : Link) : ((s.reportPause).link k).wrrCount = (s.link k).wrrCount := by unfold State.reportPause; (repeat' split) <;> simp
@[simp] theorem reportPause_port_counters (s : State) (k : Link) : ((s.reportPause).link k).counters = (s.link k).counters := by unfold State.reportPause; (repeat' split) <;> simp

@[simp] theorem putEntry_rstN (s : State) (b : Bank) (i : Nat) (e : EntryFields) (code : Byte) : (s.putEntry b i e code).rstN = s.rstN := by cases e <;> rfl
@[simp] theorem putEntry_straps (s : State) (b : Bank) (i : Nat) (e : EntryFields) (code : Byte) : (s.putEntry b i e code).straps = s.straps := by cases e <;> rfl
@[simp] theorem putEntry_links (s : State) (b : Bank) (i : Nat) (e : EntryFields) (code : Byte) : (s.putEntry b i e code).links = s.links := by cases e <;> rfl
@[simp] theorem putEntry_queues (s : State) (b : Bank) (i : Nat) (e : EntryFields) (code : Byte) : (s.putEntry b i e code).queues = s.queues := by cases e <;> rfl
@[simp] theorem putEntry_rrPtr (s : State) (b : Bank) (i : Nat) (e : EntryFields) (code : Byte) : (s.putEntry b i e code).rrPtr = s.rrPtr := by cases e <;> rfl
@[simp] theorem putEntry_pool (s : State) (b : Bank) (i : Nat) (e : EntryFields) (code : Byte) : (s.putEntry b i e code).pool = s.pool := by cases e <;> rfl
@[simp] theorem putEntry_params (s : State) (b : Bank) (i : Nat) (e : EntryFields) (code : Byte) : (s.putEntry b i e code).params = s.params := by cases e <;> rfl
@[simp] theorem putEntry_monitor (s : State) (b : Bank) (i : Nat) (e : EntryFields) (code : Byte) : (s.putEntry b i e code).monitor = s.monitor := by cases e <;> rfl
@[simp] theorem putEntry_flow (s : State) (b : Bank) (i : Nat) (e : EntryFields) (code : Byte) : (s.putEntry b i e code).flow = s.flow := by cases e <;> rfl
@[simp] theorem putEntry_epoch (s : State) (b : Bank) (i : Nat) (e : EntryFields) (code : Byte) : (s.putEntry b i e code).epoch = s.epoch := by cases e <;> rfl
@[simp] theorem putEntry_agent (s : State) (b : Bank) (i : Nat) (e : EntryFields) (code : Byte) : (s.putEntry b i e code).agent = s.agent := by cases e <;> rfl
@[simp] theorem putEntry_op (s : State) (b : Bank) (i : Nat) (e : EntryFields) (code : Byte) : (s.putEntry b i e code).op = s.op := by cases e <;> rfl
@[simp] theorem putEntry_scrub (s : State) (b : Bank) (i : Nat) (e : EntryFields) (code : Byte) : (s.putEntry b i e code).scrub = s.scrub := by cases e <;> rfl
@[simp] theorem putEntry_attn (s : State) (b : Bank) (i : Nat) (e : EntryFields) (code : Byte) : (s.putEntry b i e code).attn = s.attn := by cases e <;> rfl
@[simp] theorem putEntry_globals (s : State) (b : Bank) (i : Nat) (e : EntryFields) (code : Byte) : (s.putEntry b i e code).globals = s.globals := by cases e <;> rfl
@[simp] theorem putEntry_freeCtr (s : State) (b : Bank) (i : Nat) (e : EntryFields) (code : Byte) : (s.putEntry b i e code).freeCtr = s.freeCtr := by cases e <;> rfl
@[simp] theorem putEntry_pending (s : State) (b : Bank) (i : Nat) (e : EntryFields) (code : Byte) : (s.putEntry b i e code).pending = s.pending := by cases e <;> rfl
@[simp] theorem putEntry_link (s : State) (b : Bank) (i : Nat) (e : EntryFields) (code : Byte) (k : Link) : (s.putEntry b i e code).link k = s.link k := link_congr (putEntry_links s b i e code) k
@[simp] theorem putEntry_queue (s : State) (b : Bank) (i : Nat) (e : EntryFields) (code : Byte) (q : QueueId) : (s.putEntry b i e code).queue q = s.queue q := queue_congr (putEntry_queues s b i e code) q

@[simp] theorem writeEntry_rstN (s : State) (b : Bank) (i : Nat) (e : EntryFields) : (s.writeEntry b i e).rstN = s.rstN := putEntry_rstN s b i e _
@[simp] theorem writeEntry_straps (s : State) (b : Bank) (i : Nat) (e : EntryFields) : (s.writeEntry b i e).straps = s.straps := putEntry_straps s b i e _
@[simp] theorem writeEntry_links (s : State) (b : Bank) (i : Nat) (e : EntryFields) : (s.writeEntry b i e).links = s.links := putEntry_links s b i e _
@[simp] theorem writeEntry_queues (s : State) (b : Bank) (i : Nat) (e : EntryFields) : (s.writeEntry b i e).queues = s.queues := putEntry_queues s b i e _
@[simp] theorem writeEntry_rrPtr (s : State) (b : Bank) (i : Nat) (e : EntryFields) : (s.writeEntry b i e).rrPtr = s.rrPtr := putEntry_rrPtr s b i e _
@[simp] theorem writeEntry_pool (s : State) (b : Bank) (i : Nat) (e : EntryFields) : (s.writeEntry b i e).pool = s.pool := putEntry_pool s b i e _
@[simp] theorem writeEntry_params (s : State) (b : Bank) (i : Nat) (e : EntryFields) : (s.writeEntry b i e).params = s.params := putEntry_params s b i e _
@[simp] theorem writeEntry_monitor (s : State) (b : Bank) (i : Nat) (e : EntryFields) : (s.writeEntry b i e).monitor = s.monitor := putEntry_monitor s b i e _
@[simp] theorem writeEntry_flow (s : State) (b : Bank) (i : Nat) (e : EntryFields) : (s.writeEntry b i e).flow = s.flow := putEntry_flow s b i e _
@[simp] theorem writeEntry_epoch (s : State) (b : Bank) (i : Nat) (e : EntryFields) : (s.writeEntry b i e).epoch = s.epoch := putEntry_epoch s b i e _
@[simp] theorem writeEntry_agent (s : State) (b : Bank) (i : Nat) (e : EntryFields) : (s.writeEntry b i e).agent = s.agent := putEntry_agent s b i e _
@[simp] theorem writeEntry_op (s : State) (b : Bank) (i : Nat) (e : EntryFields) : (s.writeEntry b i e).op = s.op := putEntry_op s b i e _
@[simp] theorem writeEntry_scrub (s : State) (b : Bank) (i : Nat) (e : EntryFields) : (s.writeEntry b i e).scrub = s.scrub := putEntry_scrub s b i e _
@[simp] theorem writeEntry_attn (s : State) (b : Bank) (i : Nat) (e : EntryFields) : (s.writeEntry b i e).attn = s.attn := putEntry_attn s b i e _
@[simp] theorem writeEntry_globals (s : State) (b : Bank) (i : Nat) (e : EntryFields) : (s.writeEntry b i e).globals = s.globals := putEntry_globals s b i e _
@[simp] theorem writeEntry_freeCtr (s : State) (b : Bank) (i : Nat) (e : EntryFields) : (s.writeEntry b i e).freeCtr = s.freeCtr := putEntry_freeCtr s b i e _
@[simp] theorem writeEntry_pending (s : State) (b : Bank) (i : Nat) (e : EntryFields) : (s.writeEntry b i e).pending = s.pending := putEntry_pending s b i e _
@[simp] theorem writeEntry_link (s : State) (b : Bank) (i : Nat) (e : EntryFields) (k : Link) : (s.writeEntry b i e).link k = s.link k := link_congr (writeEntry_links s b i e) k
@[simp] theorem writeEntry_queue (s : State) (b : Bank) (i : Nat) (e : EntryFields) (q : QueueId) : (s.writeEntry b i e).queue q = s.queue q := queue_congr (writeEntry_queues s b i e) q

@[simp] theorem markCorrupt_rstN (s : State) (t : Table) (b : Bank) (i : Nat) : (s.markCorrupt t b i).rstN = s.rstN := by simp [State.markCorrupt]
@[simp] theorem markCorrupt_straps (s : State) (t : Table) (b : Bank) (i : Nat) : (s.markCorrupt t b i).straps = s.straps := by simp [State.markCorrupt]
@[simp] theorem markCorrupt_queues (s : State) (t : Table) (b : Bank) (i : Nat) : (s.markCorrupt t b i).queues = s.queues := by simp [State.markCorrupt]
@[simp] theorem markCorrupt_rrPtr (s : State) (t : Table) (b : Bank) (i : Nat) : (s.markCorrupt t b i).rrPtr = s.rrPtr := by simp [State.markCorrupt]
@[simp] theorem markCorrupt_pool (s : State) (t : Table) (b : Bank) (i : Nat) : (s.markCorrupt t b i).pool = s.pool := by simp [State.markCorrupt]
@[simp] theorem markCorrupt_params (s : State) (t : Table) (b : Bank) (i : Nat) : (s.markCorrupt t b i).params = s.params := by simp [State.markCorrupt]
@[simp] theorem markCorrupt_monitor (s : State) (t : Table) (b : Bank) (i : Nat) : (s.markCorrupt t b i).monitor = s.monitor := by simp [State.markCorrupt]
@[simp] theorem markCorrupt_flow (s : State) (t : Table) (b : Bank) (i : Nat) : (s.markCorrupt t b i).flow = s.flow := by simp [State.markCorrupt]
@[simp] theorem markCorrupt_epoch (s : State) (t : Table) (b : Bank) (i : Nat) : (s.markCorrupt t b i).epoch = s.epoch := by simp [State.markCorrupt]
@[simp] theorem markCorrupt_agent (s : State) (t : Table) (b : Bank) (i : Nat) : (s.markCorrupt t b i).agent = s.agent := by simp [State.markCorrupt]
@[simp] theorem markCorrupt_op (s : State) (t : Table) (b : Bank) (i : Nat) : (s.markCorrupt t b i).op = s.op := by simp [State.markCorrupt]
@[simp] theorem markCorrupt_scrub (s : State) (t : Table) (b : Bank) (i : Nat) : (s.markCorrupt t b i).scrub = s.scrub := by simp [State.markCorrupt]
@[simp] theorem markCorrupt_freeCtr (s : State) (t : Table) (b : Bank) (i : Nat) : (s.markCorrupt t b i).freeCtr = s.freeCtr := by simp [State.markCorrupt]
@[simp] theorem markCorrupt_pending (s : State) (t : Table) (b : Bank) (i : Nat) : (s.markCorrupt t b i).pending = s.pending := by simp [State.markCorrupt]
@[simp] theorem markCorrupt_queue (s : State) (t : Table) (b : Bank) (i : Nat) (q : QueueId) : (s.markCorrupt t b i).queue q = s.queue q := queue_congr (markCorrupt_queues s t b i) q
@[simp] theorem markCorrupt_port_state (s : State) (t : Table) (b : Bank) (i : Nat) (k : Link) : ((s.markCorrupt t b i).link k).state = (s.link k).state := by simp [State.markCorrupt]
@[simp] theorem markCorrupt_port_disablePending (s : State) (t : Table) (b : Bank) (i : Nat) (k : Link) : ((s.markCorrupt t b i).link k).disablePending = (s.link k).disablePending := by simp [State.markCorrupt]
@[simp] theorem markCorrupt_port_trainCount (s : State) (t : Table) (b : Bank) (i : Nat) (k : Link) : ((s.markCorrupt t b i).link k).trainCount = (s.link k).trainCount := by simp [State.markCorrupt]
@[simp] theorem markCorrupt_port_window (s : State) (t : Table) (b : Bank) (i : Nat) (k : Link) : ((s.markCorrupt t b i).link k).window = (s.link k).window := by simp [State.markCorrupt]
@[simp] theorem markCorrupt_port_keepalive (s : State) (t : Table) (b : Bank) (i : Nat) (k : Link) : ((s.markCorrupt t b i).link k).keepalive = (s.link k).keepalive := by simp [State.markCorrupt]
@[simp] theorem markCorrupt_port_budget (s : State) (t : Table) (b : Bank) (i : Nat) (k : Link) : ((s.markCorrupt t b i).link k).budget = (s.link k).budget := by simp [State.markCorrupt]
@[simp] theorem markCorrupt_port_retrainCount (s : State) (t : Table) (b : Bank) (i : Nat) (k : Link) : ((s.markCorrupt t b i).link k).retrainCount = (s.link k).retrainCount := by simp [State.markCorrupt]
@[simp] theorem markCorrupt_port_holdOff (s : State) (t : Table) (b : Bank) (i : Nat) (k : Link) : ((s.markCorrupt t b i).link k).holdOff = (s.link k).holdOff := by simp [State.markCorrupt]
@[simp] theorem markCorrupt_port_cause (s : State) (t : Table) (b : Bank) (i : Nat) (k : Link) : ((s.markCorrupt t b i).link k).cause = (s.link k).cause := by simp [State.markCorrupt]
@[simp] theorem markCorrupt_port_farGap (s : State) (t : Table) (b : Bank) (i : Nat) (k : Link) : ((s.markCorrupt t b i).link k).farGap = (s.link k).farGap := by simp [State.markCorrupt]
@[simp] theorem markCorrupt_port_rxBuf (s : State) (t : Table) (b : Bank) (i : Nat) (k : Link) : ((s.markCorrupt t b i).link k).rxBuf = (s.link k).rxBuf := by simp [State.markCorrupt]
@[simp] theorem markCorrupt_port_respQueue (s : State) (t : Table) (b : Bank) (i : Nat) (k : Link) : ((s.markCorrupt t b i).link k).respQueue = (s.link k).respQueue := by simp [State.markCorrupt]
@[simp] theorem markCorrupt_port_pendFlowst (s : State) (t : Table) (b : Bank) (i : Nat) (k : Link) : ((s.markCorrupt t b i).link k).pendFlowst = (s.link k).pendFlowst := by simp [State.markCorrupt]
@[simp] theorem markCorrupt_port_inFlight (s : State) (t : Table) (b : Bank) (i : Nat) (k : Link) : ((s.markCorrupt t b i).link k).inFlight = (s.link k).inFlight := by simp [State.markCorrupt]
@[simp] theorem markCorrupt_port_sending (s : State) (t : Table) (b : Bank) (i : Nat) (k : Link) : ((s.markCorrupt t b i).link k).sending = (s.link k).sending := by simp [State.markCorrupt]
@[simp] theorem markCorrupt_port_gapCount (s : State) (t : Table) (b : Bank) (i : Nat) (k : Link) : ((s.markCorrupt t b i).link k).gapCount = (s.link k).gapCount := by simp [State.markCorrupt]
@[simp] theorem markCorrupt_port_wrrClass (s : State) (t : Table) (b : Bank) (i : Nat) (k : Link) : ((s.markCorrupt t b i).link k).wrrClass = (s.link k).wrrClass := by simp [State.markCorrupt]
@[simp] theorem markCorrupt_port_wrrCount (s : State) (t : Table) (b : Bank) (i : Nat) (k : Link) : ((s.markCorrupt t b i).link k).wrrCount = (s.link k).wrrCount := by simp [State.markCorrupt]
@[simp] theorem markCorrupt_port_counters (s : State) (t : Table) (b : Bank) (i : Nat) (k : Link) : ((s.markCorrupt t b i).link k).counters = (s.link k).counters := by simp [State.markCorrupt]

@[simp] theorem verify_rstN (s : State) (t : Table) (b : Bank) (i : Nat) : (s.verify t b i).2.rstN = s.rstN := by unfold State.verify; dsimp only; (repeat' split) <;> simp
@[simp] theorem verify_straps (s : State) (t : Table) (b : Bank) (i : Nat) : (s.verify t b i).2.straps = s.straps := by unfold State.verify; dsimp only; (repeat' split) <;> simp
@[simp] theorem verify_queues (s : State) (t : Table) (b : Bank) (i : Nat) : (s.verify t b i).2.queues = s.queues := by unfold State.verify; dsimp only; (repeat' split) <;> simp
@[simp] theorem verify_rrPtr (s : State) (t : Table) (b : Bank) (i : Nat) : (s.verify t b i).2.rrPtr = s.rrPtr := by unfold State.verify; dsimp only; (repeat' split) <;> simp
@[simp] theorem verify_pool (s : State) (t : Table) (b : Bank) (i : Nat) : (s.verify t b i).2.pool = s.pool := by unfold State.verify; dsimp only; (repeat' split) <;> simp
@[simp] theorem verify_params (s : State) (t : Table) (b : Bank) (i : Nat) : (s.verify t b i).2.params = s.params := by unfold State.verify; dsimp only; (repeat' split) <;> simp
@[simp] theorem verify_monitor (s : State) (t : Table) (b : Bank) (i : Nat) : (s.verify t b i).2.monitor = s.monitor := by unfold State.verify; dsimp only; (repeat' split) <;> simp
@[simp] theorem verify_flow (s : State) (t : Table) (b : Bank) (i : Nat) : (s.verify t b i).2.flow = s.flow := by unfold State.verify; dsimp only; (repeat' split) <;> simp
@[simp] theorem verify_epoch (s : State) (t : Table) (b : Bank) (i : Nat) : (s.verify t b i).2.epoch = s.epoch := by unfold State.verify; dsimp only; (repeat' split) <;> simp
@[simp] theorem verify_agent (s : State) (t : Table) (b : Bank) (i : Nat) : (s.verify t b i).2.agent = s.agent := by unfold State.verify; dsimp only; (repeat' split) <;> simp
@[simp] theorem verify_op (s : State) (t : Table) (b : Bank) (i : Nat) : (s.verify t b i).2.op = s.op := by unfold State.verify; dsimp only; (repeat' split) <;> simp
@[simp] theorem verify_scrub (s : State) (t : Table) (b : Bank) (i : Nat) : (s.verify t b i).2.scrub = s.scrub := by unfold State.verify; dsimp only; (repeat' split) <;> simp
@[simp] theorem verify_freeCtr (s : State) (t : Table) (b : Bank) (i : Nat) : (s.verify t b i).2.freeCtr = s.freeCtr := by unfold State.verify; dsimp only; (repeat' split) <;> simp
@[simp] theorem verify_pending (s : State) (t : Table) (b : Bank) (i : Nat) : (s.verify t b i).2.pending = s.pending := by unfold State.verify; dsimp only; (repeat' split) <;> simp
@[simp] theorem verify_queue (s : State) (t : Table) (b : Bank) (i : Nat) (q : QueueId) : (s.verify t b i).2.queue q = s.queue q := queue_congr (verify_queues s t b i) q
@[simp] theorem verify_port_state (s : State) (t : Table) (b : Bank) (i : Nat) (k : Link) : ((s.verify t b i).2.link k).state = (s.link k).state := by unfold State.verify; dsimp only; (repeat' split) <;> simp
@[simp] theorem verify_port_disablePending (s : State) (t : Table) (b : Bank) (i : Nat) (k : Link) : ((s.verify t b i).2.link k).disablePending = (s.link k).disablePending := by unfold State.verify; dsimp only; (repeat' split) <;> simp
@[simp] theorem verify_port_trainCount (s : State) (t : Table) (b : Bank) (i : Nat) (k : Link) : ((s.verify t b i).2.link k).trainCount = (s.link k).trainCount := by unfold State.verify; dsimp only; (repeat' split) <;> simp
@[simp] theorem verify_port_window (s : State) (t : Table) (b : Bank) (i : Nat) (k : Link) : ((s.verify t b i).2.link k).window = (s.link k).window := by unfold State.verify; dsimp only; (repeat' split) <;> simp
@[simp] theorem verify_port_keepalive (s : State) (t : Table) (b : Bank) (i : Nat) (k : Link) : ((s.verify t b i).2.link k).keepalive = (s.link k).keepalive := by unfold State.verify; dsimp only; (repeat' split) <;> simp
@[simp] theorem verify_port_budget (s : State) (t : Table) (b : Bank) (i : Nat) (k : Link) : ((s.verify t b i).2.link k).budget = (s.link k).budget := by unfold State.verify; dsimp only; (repeat' split) <;> simp
@[simp] theorem verify_port_retrainCount (s : State) (t : Table) (b : Bank) (i : Nat) (k : Link) : ((s.verify t b i).2.link k).retrainCount = (s.link k).retrainCount := by unfold State.verify; dsimp only; (repeat' split) <;> simp
@[simp] theorem verify_port_holdOff (s : State) (t : Table) (b : Bank) (i : Nat) (k : Link) : ((s.verify t b i).2.link k).holdOff = (s.link k).holdOff := by unfold State.verify; dsimp only; (repeat' split) <;> simp
@[simp] theorem verify_port_cause (s : State) (t : Table) (b : Bank) (i : Nat) (k : Link) : ((s.verify t b i).2.link k).cause = (s.link k).cause := by unfold State.verify; dsimp only; (repeat' split) <;> simp
@[simp] theorem verify_port_farGap (s : State) (t : Table) (b : Bank) (i : Nat) (k : Link) : ((s.verify t b i).2.link k).farGap = (s.link k).farGap := by unfold State.verify; dsimp only; (repeat' split) <;> simp
@[simp] theorem verify_port_rxBuf (s : State) (t : Table) (b : Bank) (i : Nat) (k : Link) : ((s.verify t b i).2.link k).rxBuf = (s.link k).rxBuf := by unfold State.verify; dsimp only; (repeat' split) <;> simp
@[simp] theorem verify_port_respQueue (s : State) (t : Table) (b : Bank) (i : Nat) (k : Link) : ((s.verify t b i).2.link k).respQueue = (s.link k).respQueue := by unfold State.verify; dsimp only; (repeat' split) <;> simp
@[simp] theorem verify_port_pendFlowst (s : State) (t : Table) (b : Bank) (i : Nat) (k : Link) : ((s.verify t b i).2.link k).pendFlowst = (s.link k).pendFlowst := by unfold State.verify; dsimp only; (repeat' split) <;> simp
@[simp] theorem verify_port_inFlight (s : State) (t : Table) (b : Bank) (i : Nat) (k : Link) : ((s.verify t b i).2.link k).inFlight = (s.link k).inFlight := by unfold State.verify; dsimp only; (repeat' split) <;> simp
@[simp] theorem verify_port_sending (s : State) (t : Table) (b : Bank) (i : Nat) (k : Link) : ((s.verify t b i).2.link k).sending = (s.link k).sending := by unfold State.verify; dsimp only; (repeat' split) <;> simp
@[simp] theorem verify_port_gapCount (s : State) (t : Table) (b : Bank) (i : Nat) (k : Link) : ((s.verify t b i).2.link k).gapCount = (s.link k).gapCount := by unfold State.verify; dsimp only; (repeat' split) <;> simp
@[simp] theorem verify_port_wrrClass (s : State) (t : Table) (b : Bank) (i : Nat) (k : Link) : ((s.verify t b i).2.link k).wrrClass = (s.link k).wrrClass := by unfold State.verify; dsimp only; (repeat' split) <;> simp
@[simp] theorem verify_port_wrrCount (s : State) (t : Table) (b : Bank) (i : Nat) (k : Link) : ((s.verify t b i).2.link k).wrrCount = (s.link k).wrrCount := by unfold State.verify; dsimp only; (repeat' split) <;> simp
@[simp] theorem verify_port_counters (s : State) (t : Table) (b : Bank) (i : Nat) (k : Link) : ((s.verify t b i).2.link k).counters = (s.link k).counters := by unfold State.verify; dsimp only; (repeat' split) <;> simp

@[simp] theorem abortInFlight_rstN (s : State) (l : Link) : (s.abortInFlight l).rstN = s.rstN := by unfold State.abortInFlight; (repeat' split) <;> simp
@[simp] theorem abortInFlight_straps (s : State) (l : Link) : (s.abortInFlight l).straps = s.straps := by unfold State.abortInFlight; (repeat' split) <;> simp
@[simp] theorem abortInFlight_queues (s : State) (l : Link) : (s.abortInFlight l).queues = s.queues := by unfold State.abortInFlight; (repeat' split) <;> simp
@[simp] theorem abortInFlight_rrPtr (s : State) (l : Link) : (s.abortInFlight l).rrPtr = s.rrPtr := by unfold State.abortInFlight; (repeat' split) <;> simp
@[simp] theorem abortInFlight_tables (s : State) (l : Link) : (s.abortInFlight l).tables = s.tables := by unfold State.abortInFlight; (repeat' split) <;> simp
@[simp] theorem abortInFlight_params (s : State) (l : Link) : (s.abortInFlight l).params = s.params := by unfold State.abortInFlight; (repeat' split) <;> simp
@[simp] theorem abortInFlight_monitor (s : State) (l : Link) : (s.abortInFlight l).monitor = s.monitor := by unfold State.abortInFlight; (repeat' split) <;> simp
@[simp] theorem abortInFlight_flow (s : State) (l : Link) : (s.abortInFlight l).flow = s.flow := by unfold State.abortInFlight; (repeat' split) <;> simp
@[simp] theorem abortInFlight_epoch (s : State) (l : Link) : (s.abortInFlight l).epoch = s.epoch := by unfold State.abortInFlight; (repeat' split) <;> simp
@[simp] theorem abortInFlight_agent (s : State) (l : Link) : (s.abortInFlight l).agent = s.agent := by unfold State.abortInFlight; (repeat' split) <;> simp
@[simp] theorem abortInFlight_op (s : State) (l : Link) : (s.abortInFlight l).op = s.op := by unfold State.abortInFlight; (repeat' split) <;> simp
@[simp] theorem abortInFlight_scrub (s : State) (l : Link) : (s.abortInFlight l).scrub = s.scrub := by unfold State.abortInFlight; (repeat' split) <;> simp
@[simp] theorem abortInFlight_attn (s : State) (l : Link) : (s.abortInFlight l).attn = s.attn := by unfold State.abortInFlight; (repeat' split) <;> simp
@[simp] theorem abortInFlight_globals (s : State) (l : Link) : (s.abortInFlight l).globals = s.globals := by unfold State.abortInFlight; (repeat' split) <;> simp
@[simp] theorem abortInFlight_freeCtr (s : State) (l : Link) : (s.abortInFlight l).freeCtr = s.freeCtr := by unfold State.abortInFlight; (repeat' split) <;> simp
@[simp] theorem abortInFlight_pending (s : State) (l : Link) : (s.abortInFlight l).pending = s.pending := by unfold State.abortInFlight; (repeat' split) <;> simp
@[simp] theorem abortInFlight_queue (s : State) (l : Link) (q : QueueId) : (s.abortInFlight l).queue q = s.queue q := queue_congr (abortInFlight_queues s l) q

@[simp] theorem foldl_flushQueue_rstN (s : State) (qs : List QueueId) : (qs.foldl State.flushQueue s).rstN = s.rstN := by
  induction qs generalizing s with
  | nil => rfl
  | cons q rest ih => simp [ih]
@[simp] theorem foldl_flushQueue_straps (s : State) (qs : List QueueId) : (qs.foldl State.flushQueue s).straps = s.straps := by
  induction qs generalizing s with
  | nil => rfl
  | cons q rest ih => simp [ih]
@[simp] theorem foldl_flushQueue_links (s : State) (qs : List QueueId) : (qs.foldl State.flushQueue s).links = s.links := by
  induction qs generalizing s with
  | nil => rfl
  | cons q rest ih => simp [ih]
@[simp] theorem foldl_flushQueue_rrPtr (s : State) (qs : List QueueId) : (qs.foldl State.flushQueue s).rrPtr = s.rrPtr := by
  induction qs generalizing s with
  | nil => rfl
  | cons q rest ih => simp [ih]
@[simp] theorem foldl_flushQueue_tables (s : State) (qs : List QueueId) : (qs.foldl State.flushQueue s).tables = s.tables := by
  induction qs generalizing s with
  | nil => rfl
  | cons q rest ih => simp [ih]
@[simp] theorem foldl_flushQueue_params (s : State) (qs : List QueueId) : (qs.foldl State.flushQueue s).params = s.params := by
  induction qs generalizing s with
  | nil => rfl
  | cons q rest ih => simp [ih]
@[simp] theorem foldl_flushQueue_monitor (s : State) (qs : List QueueId) : (qs.foldl State.flushQueue s).monitor = s.monitor := by
  induction qs generalizing s with
  | nil => rfl
  | cons q rest ih => simp [ih]
@[simp] theorem foldl_flushQueue_flow (s : State) (qs : List QueueId) : (qs.foldl State.flushQueue s).flow = s.flow := by
  induction qs generalizing s with
  | nil => rfl
  | cons q rest ih => simp [ih]
@[simp] theorem foldl_flushQueue_epoch (s : State) (qs : List QueueId) : (qs.foldl State.flushQueue s).epoch = s.epoch := by
  induction qs generalizing s with
  | nil => rfl
  | cons q rest ih => simp [ih]
@[simp] theorem foldl_flushQueue_agent (s : State) (qs : List QueueId) : (qs.foldl State.flushQueue s).agent = s.agent := by
  induction qs generalizing s with
  | nil => rfl
  | cons q rest ih => simp [ih]
@[simp] theorem foldl_flushQueue_op (s : State) (qs : List QueueId) : (qs.foldl State.flushQueue s).op = s.op := by
  induction qs generalizing s with
  | nil => rfl
  | cons q rest ih => simp [ih]
@[simp] theorem foldl_flushQueue_scrub (s : State) (qs : List QueueId) : (qs.foldl State.flushQueue s).scrub = s.scrub := by
  induction qs generalizing s with
  | nil => rfl
  | cons q rest ih => simp [ih]
@[simp] theorem foldl_flushQueue_attn (s : State) (qs : List QueueId) : (qs.foldl State.flushQueue s).attn = s.attn := by
  induction qs generalizing s with
  | nil => rfl
  | cons q rest ih => simp [ih]
@[simp] theorem foldl_flushQueue_globals (s : State) (qs : List QueueId) : (qs.foldl State.flushQueue s).globals = s.globals := by
  induction qs generalizing s with
  | nil => rfl
  | cons q rest ih => simp [ih]
@[simp] theorem foldl_flushQueue_freeCtr (s : State) (qs : List QueueId) : (qs.foldl State.flushQueue s).freeCtr = s.freeCtr := by
  induction qs generalizing s with
  | nil => rfl
  | cons q rest ih => simp [ih]
@[simp] theorem foldl_flushQueue_pending (s : State) (qs : List QueueId) : (qs.foldl State.flushQueue s).pending = s.pending := by
  induction qs generalizing s with
  | nil => rfl
  | cons q rest ih => simp [ih]
@[simp] theorem foldl_flushQueue_link (s : State) (qs : List QueueId) (k : Link) : (qs.foldl State.flushQueue s).link k = s.link k :=
  link_congr (foldl_flushQueue_links s qs) k

@[simp] theorem flushQueues_rstN (s : State) (qs : List QueueId) : (s.flushQueues qs).rstN = s.rstN := by unfold State.flushQueues; (repeat' split) <;> simp
@[simp] theorem flushQueues_straps (s : State) (qs : List QueueId) : (s.flushQueues qs).straps = s.straps := by unfold State.flushQueues; (repeat' split) <;> simp
@[simp] theorem flushQueues_rrPtr (s : State) (qs : List QueueId) : (s.flushQueues qs).rrPtr = s.rrPtr := by unfold State.flushQueues; (repeat' split) <;> simp
@[simp] theorem flushQueues_tables (s : State) (qs : List QueueId) : (s.flushQueues qs).tables = s.tables := by unfold State.flushQueues; (repeat' split) <;> simp
@[simp] theorem flushQueues_params (s : State) (qs : List QueueId) : (s.flushQueues qs).params = s.params := by unfold State.flushQueues; (repeat' split) <;> simp
@[simp] theorem flushQueues_monitor (s : State) (qs : List QueueId) : (s.flushQueues qs).monitor = s.monitor := by unfold State.flushQueues; (repeat' split) <;> simp
@[simp] theorem flushQueues_epoch (s : State) (qs : List QueueId) : (s.flushQueues qs).epoch = s.epoch := by unfold State.flushQueues; (repeat' split) <;> simp
@[simp] theorem flushQueues_agent (s : State) (qs : List QueueId) : (s.flushQueues qs).agent = s.agent := by unfold State.flushQueues; (repeat' split) <;> simp
@[simp] theorem flushQueues_op (s : State) (qs : List QueueId) : (s.flushQueues qs).op = s.op := by unfold State.flushQueues; (repeat' split) <;> simp
@[simp] theorem flushQueues_scrub (s : State) (qs : List QueueId) : (s.flushQueues qs).scrub = s.scrub := by unfold State.flushQueues; (repeat' split) <;> simp
@[simp] theorem flushQueues_attn (s : State) (qs : List QueueId) : (s.flushQueues qs).attn = s.attn := by unfold State.flushQueues; (repeat' split) <;> simp
@[simp] theorem flushQueues_globals (s : State) (qs : List QueueId) : (s.flushQueues qs).globals = s.globals := by unfold State.flushQueues; (repeat' split) <;> simp
@[simp] theorem flushQueues_freeCtr (s : State) (qs : List QueueId) : (s.flushQueues qs).freeCtr = s.freeCtr := by unfold State.flushQueues; (repeat' split) <;> simp
@[simp] theorem flushQueues_pending (s : State) (qs : List QueueId) : (s.flushQueues qs).pending = s.pending := by unfold State.flushQueues; (repeat' split) <;> simp
@[simp] theorem flushQueues_port_state (s : State) (qs : List QueueId) (k : Link) : ((s.flushQueues qs).link k).state = (s.link k).state := by unfold State.flushQueues; (repeat' split) <;> simp
@[simp] theorem flushQueues_port_disablePending (s : State) (qs : List QueueId) (k : Link) : ((s.flushQueues qs).link k).disablePending = (s.link k).disablePending := by unfold State.flushQueues; (repeat' split) <;> simp
@[simp] theorem flushQueues_port_trainCount (s : State) (qs : List QueueId) (k : Link) : ((s.flushQueues qs).link k).trainCount = (s.link k).trainCount := by unfold State.flushQueues; (repeat' split) <;> simp
@[simp] theorem flushQueues_port_window (s : State) (qs : List QueueId) (k : Link) : ((s.flushQueues qs).link k).window = (s.link k).window := by unfold State.flushQueues; (repeat' split) <;> simp
@[simp] theorem flushQueues_port_keepalive (s : State) (qs : List QueueId) (k : Link) : ((s.flushQueues qs).link k).keepalive = (s.link k).keepalive := by unfold State.flushQueues; (repeat' split) <;> simp
@[simp] theorem flushQueues_port_budget (s : State) (qs : List QueueId) (k : Link) : ((s.flushQueues qs).link k).budget = (s.link k).budget := by unfold State.flushQueues; (repeat' split) <;> simp
@[simp] theorem flushQueues_port_retrainCount (s : State) (qs : List QueueId) (k : Link) : ((s.flushQueues qs).link k).retrainCount = (s.link k).retrainCount := by unfold State.flushQueues; (repeat' split) <;> simp
@[simp] theorem flushQueues_port_holdOff (s : State) (qs : List QueueId) (k : Link) : ((s.flushQueues qs).link k).holdOff = (s.link k).holdOff := by unfold State.flushQueues; (repeat' split) <;> simp
@[simp] theorem flushQueues_port_cause (s : State) (qs : List QueueId) (k : Link) : ((s.flushQueues qs).link k).cause = (s.link k).cause := by unfold State.flushQueues; (repeat' split) <;> simp
@[simp] theorem flushQueues_port_farGap (s : State) (qs : List QueueId) (k : Link) : ((s.flushQueues qs).link k).farGap = (s.link k).farGap := by unfold State.flushQueues; (repeat' split) <;> simp
@[simp] theorem flushQueues_port_rxBuf (s : State) (qs : List QueueId) (k : Link) : ((s.flushQueues qs).link k).rxBuf = (s.link k).rxBuf := by unfold State.flushQueues; (repeat' split) <;> simp
@[simp] theorem flushQueues_port_respQueue (s : State) (qs : List QueueId) (k : Link) : ((s.flushQueues qs).link k).respQueue = (s.link k).respQueue := by unfold State.flushQueues; (repeat' split) <;> simp
@[simp] theorem flushQueues_port_pendAttn (s : State) (qs : List QueueId) (k : Link) : ((s.flushQueues qs).link k).pendAttn = (s.link k).pendAttn := by unfold State.flushQueues; (repeat' split) <;> simp
@[simp] theorem flushQueues_port_inFlight (s : State) (qs : List QueueId) (k : Link) : ((s.flushQueues qs).link k).inFlight = (s.link k).inFlight := by unfold State.flushQueues; (repeat' split) <;> simp
@[simp] theorem flushQueues_port_sending (s : State) (qs : List QueueId) (k : Link) : ((s.flushQueues qs).link k).sending = (s.link k).sending := by unfold State.flushQueues; (repeat' split) <;> simp
@[simp] theorem flushQueues_port_gapCount (s : State) (qs : List QueueId) (k : Link) : ((s.flushQueues qs).link k).gapCount = (s.link k).gapCount := by unfold State.flushQueues; (repeat' split) <;> simp
@[simp] theorem flushQueues_port_wrrClass (s : State) (qs : List QueueId) (k : Link) : ((s.flushQueues qs).link k).wrrClass = (s.link k).wrrClass := by unfold State.flushQueues; (repeat' split) <;> simp
@[simp] theorem flushQueues_port_wrrCount (s : State) (qs : List QueueId) (k : Link) : ((s.flushQueues qs).link k).wrrCount = (s.link k).wrrCount := by unfold State.flushQueues; (repeat' split) <;> simp
@[simp] theorem flushQueues_port_counters (s : State) (qs : List QueueId) (k : Link) : ((s.flushQueues qs).link k).counters = (s.link k).counters := by unfold State.flushQueues; (repeat' split) <;> simp

@[simp] theorem linkChange_rstN (s : State) (l : Link) (old : LinkState) : (s.linkChange l old).rstN = s.rstN := by unfold State.linkChange; (repeat' split) <;> simp
@[simp] theorem linkChange_straps (s : State) (l : Link) (old : LinkState) : (s.linkChange l old).straps = s.straps := by unfold State.linkChange; (repeat' split) <;> simp
@[simp] theorem linkChange_queues (s : State) (l : Link) (old : LinkState) : (s.linkChange l old).queues = s.queues := by unfold State.linkChange; (repeat' split) <;> simp
@[simp] theorem linkChange_rrPtr (s : State) (l : Link) (old : LinkState) : (s.linkChange l old).rrPtr = s.rrPtr := by unfold State.linkChange; (repeat' split) <;> simp
@[simp] theorem linkChange_pool (s : State) (l : Link) (old : LinkState) : (s.linkChange l old).pool = s.pool := by unfold State.linkChange; (repeat' split) <;> simp
@[simp] theorem linkChange_params (s : State) (l : Link) (old : LinkState) : (s.linkChange l old).params = s.params := by unfold State.linkChange; (repeat' split) <;> simp
@[simp] theorem linkChange_monitor (s : State) (l : Link) (old : LinkState) : (s.linkChange l old).monitor = s.monitor := by unfold State.linkChange; (repeat' split) <;> simp
@[simp] theorem linkChange_flow (s : State) (l : Link) (old : LinkState) : (s.linkChange l old).flow = s.flow := by unfold State.linkChange; (repeat' split) <;> simp
@[simp] theorem linkChange_epoch (s : State) (l : Link) (old : LinkState) : (s.linkChange l old).epoch = s.epoch := by unfold State.linkChange; (repeat' split) <;> simp
@[simp] theorem linkChange_agent (s : State) (l : Link) (old : LinkState) : (s.linkChange l old).agent = s.agent := by unfold State.linkChange; (repeat' split) <;> simp
@[simp] theorem linkChange_op (s : State) (l : Link) (old : LinkState) : (s.linkChange l old).op = s.op := by unfold State.linkChange; (repeat' split) <;> simp
@[simp] theorem linkChange_scrub (s : State) (l : Link) (old : LinkState) : (s.linkChange l old).scrub = s.scrub := by unfold State.linkChange; (repeat' split) <;> simp
@[simp] theorem linkChange_freeCtr (s : State) (l : Link) (old : LinkState) : (s.linkChange l old).freeCtr = s.freeCtr := by unfold State.linkChange; (repeat' split) <;> simp
@[simp] theorem linkChange_pending (s : State) (l : Link) (old : LinkState) : (s.linkChange l old).pending = s.pending := by unfold State.linkChange; (repeat' split) <;> simp
@[simp] theorem linkChange_queue (s : State) (l : Link) (old : LinkState) (q : QueueId) : (s.linkChange l old).queue q = s.queue q := queue_congr (linkChange_queues s l old) q
@[simp] theorem linkChange_port_state (s : State) (l : Link) (old : LinkState) (k : Link) : ((s.linkChange l old).link k).state = (s.link k).state := by unfold State.linkChange; (repeat' split) <;> simp
@[simp] theorem linkChange_port_disablePending (s : State) (l : Link) (old : LinkState) (k : Link) : ((s.linkChange l old).link k).disablePending = (s.link k).disablePending := by unfold State.linkChange; (repeat' split) <;> simp
@[simp] theorem linkChange_port_trainCount (s : State) (l : Link) (old : LinkState) (k : Link) : ((s.linkChange l old).link k).trainCount = (s.link k).trainCount := by unfold State.linkChange; (repeat' split) <;> simp
@[simp] theorem linkChange_port_window (s : State) (l : Link) (old : LinkState) (k : Link) : ((s.linkChange l old).link k).window = (s.link k).window := by unfold State.linkChange; (repeat' split) <;> simp
@[simp] theorem linkChange_port_keepalive (s : State) (l : Link) (old : LinkState) (k : Link) : ((s.linkChange l old).link k).keepalive = (s.link k).keepalive := by unfold State.linkChange; (repeat' split) <;> simp
@[simp] theorem linkChange_port_budget (s : State) (l : Link) (old : LinkState) (k : Link) : ((s.linkChange l old).link k).budget = (s.link k).budget := by unfold State.linkChange; (repeat' split) <;> simp
@[simp] theorem linkChange_port_retrainCount (s : State) (l : Link) (old : LinkState) (k : Link) : ((s.linkChange l old).link k).retrainCount = (s.link k).retrainCount := by unfold State.linkChange; (repeat' split) <;> simp
@[simp] theorem linkChange_port_holdOff (s : State) (l : Link) (old : LinkState) (k : Link) : ((s.linkChange l old).link k).holdOff = (s.link k).holdOff := by unfold State.linkChange; (repeat' split) <;> simp
@[simp] theorem linkChange_port_cause (s : State) (l : Link) (old : LinkState) (k : Link) : ((s.linkChange l old).link k).cause = (s.link k).cause := by unfold State.linkChange; (repeat' split) <;> simp
@[simp] theorem linkChange_port_farGap (s : State) (l : Link) (old : LinkState) (k : Link) : ((s.linkChange l old).link k).farGap = (s.link k).farGap := by unfold State.linkChange; (repeat' split) <;> simp
@[simp] theorem linkChange_port_rxBuf (s : State) (l : Link) (old : LinkState) (k : Link) : ((s.linkChange l old).link k).rxBuf = (s.link k).rxBuf := by unfold State.linkChange; (repeat' split) <;> simp
@[simp] theorem linkChange_port_respQueue (s : State) (l : Link) (old : LinkState) (k : Link) : ((s.linkChange l old).link k).respQueue = (s.link k).respQueue := by unfold State.linkChange; (repeat' split) <;> simp
@[simp] theorem linkChange_port_pendFlowst (s : State) (l : Link) (old : LinkState) (k : Link) : ((s.linkChange l old).link k).pendFlowst = (s.link k).pendFlowst := by unfold State.linkChange; (repeat' split) <;> simp
@[simp] theorem linkChange_port_inFlight (s : State) (l : Link) (old : LinkState) (k : Link) : ((s.linkChange l old).link k).inFlight = (s.link k).inFlight := by unfold State.linkChange; (repeat' split) <;> simp
@[simp] theorem linkChange_port_sending (s : State) (l : Link) (old : LinkState) (k : Link) : ((s.linkChange l old).link k).sending = (s.link k).sending := by unfold State.linkChange; (repeat' split) <;> simp
@[simp] theorem linkChange_port_gapCount (s : State) (l : Link) (old : LinkState) (k : Link) : ((s.linkChange l old).link k).gapCount = (s.link k).gapCount := by unfold State.linkChange; (repeat' split) <;> simp
@[simp] theorem linkChange_port_wrrClass (s : State) (l : Link) (old : LinkState) (k : Link) : ((s.linkChange l old).link k).wrrClass = (s.link k).wrrClass := by unfold State.linkChange; (repeat' split) <;> simp
@[simp] theorem linkChange_port_wrrCount (s : State) (l : Link) (old : LinkState) (k : Link) : ((s.linkChange l old).link k).wrrCount = (s.link k).wrrCount := by unfold State.linkChange; (repeat' split) <;> simp
@[simp] theorem linkChange_port_counters (s : State) (l : Link) (old : LinkState) (k : Link) : ((s.linkChange l old).link k).counters = (s.link k).counters := by unfold State.linkChange; (repeat' split) <;> simp

@[simp] theorem enterTraining_rstN (s : State) (l : Link) (old : LinkState) : (s.enterTraining l old).rstN = s.rstN := by unfold State.enterTraining; (repeat' split) <;> simp
@[simp] theorem enterTraining_straps (s : State) (l : Link) (old : LinkState) : (s.enterTraining l old).straps = s.straps := by unfold State.enterTraining; (repeat' split) <;> simp
@[simp] theorem enterTraining_queues (s : State) (l : Link) (old : LinkState) : (s.enterTraining l old).queues = s.queues := by unfold State.enterTraining; (repeat' split) <;> simp
@[simp] theorem enterTraining_rrPtr (s : State) (l : Link) (old : LinkState) : (s.enterTraining l old).rrPtr = s.rrPtr := by unfold State.enterTraining; (repeat' split) <;> simp
@[simp] theorem enterTraining_pool (s : State) (l : Link) (old : LinkState) : (s.enterTraining l old).pool = s.pool := by unfold State.enterTraining; (repeat' split) <;> simp
@[simp] theorem enterTraining_params (s : State) (l : Link) (old : LinkState) : (s.enterTraining l old).params = s.params := by unfold State.enterTraining; (repeat' split) <;> simp
@[simp] theorem enterTraining_monitor (s : State) (l : Link) (old : LinkState) : (s.enterTraining l old).monitor = s.monitor := by unfold State.enterTraining; (repeat' split) <;> simp
@[simp] theorem enterTraining_flow (s : State) (l : Link) (old : LinkState) : (s.enterTraining l old).flow = s.flow := by unfold State.enterTraining; (repeat' split) <;> simp
@[simp] theorem enterTraining_epoch (s : State) (l : Link) (old : LinkState) : (s.enterTraining l old).epoch = s.epoch := by unfold State.enterTraining; (repeat' split) <;> simp
@[simp] theorem enterTraining_agent (s : State) (l : Link) (old : LinkState) : (s.enterTraining l old).agent = s.agent := by unfold State.enterTraining; (repeat' split) <;> simp
@[simp] theorem enterTraining_op (s : State) (l : Link) (old : LinkState) : (s.enterTraining l old).op = s.op := by unfold State.enterTraining; (repeat' split) <;> simp
@[simp] theorem enterTraining_scrub (s : State) (l : Link) (old : LinkState) : (s.enterTraining l old).scrub = s.scrub := by unfold State.enterTraining; (repeat' split) <;> simp
@[simp] theorem enterTraining_freeCtr (s : State) (l : Link) (old : LinkState) : (s.enterTraining l old).freeCtr = s.freeCtr := by unfold State.enterTraining; (repeat' split) <;> simp
@[simp] theorem enterTraining_pending (s : State) (l : Link) (old : LinkState) : (s.enterTraining l old).pending = s.pending := by unfold State.enterTraining; (repeat' split) <;> simp
@[simp] theorem enterTraining_queue (s : State) (l : Link) (old : LinkState) (q : QueueId) : (s.enterTraining l old).queue q = s.queue q := queue_congr (enterTraining_queues s l old) q

@[simp] theorem enterUp_rstN (s : State) (l : Link) : (s.enterUp l).rstN = s.rstN := by simp [State.enterUp]
@[simp] theorem enterUp_straps (s : State) (l : Link) : (s.enterUp l).straps = s.straps := by simp [State.enterUp]
@[simp] theorem enterUp_queues (s : State) (l : Link) : (s.enterUp l).queues = s.queues := by simp [State.enterUp]
@[simp] theorem enterUp_rrPtr (s : State) (l : Link) : (s.enterUp l).rrPtr = s.rrPtr := by simp [State.enterUp]
@[simp] theorem enterUp_pool (s : State) (l : Link) : (s.enterUp l).pool = s.pool := by simp [State.enterUp]
@[simp] theorem enterUp_params (s : State) (l : Link) : (s.enterUp l).params = s.params := by simp [State.enterUp]
@[simp] theorem enterUp_monitor (s : State) (l : Link) : (s.enterUp l).monitor = s.monitor := by simp [State.enterUp]
@[simp] theorem enterUp_flow (s : State) (l : Link) : (s.enterUp l).flow = s.flow := by simp [State.enterUp]
@[simp] theorem enterUp_epoch (s : State) (l : Link) : (s.enterUp l).epoch = s.epoch := by simp [State.enterUp]
@[simp] theorem enterUp_agent (s : State) (l : Link) : (s.enterUp l).agent = s.agent := by simp [State.enterUp]
@[simp] theorem enterUp_op (s : State) (l : Link) : (s.enterUp l).op = s.op := by simp [State.enterUp]
@[simp] theorem enterUp_scrub (s : State) (l : Link) : (s.enterUp l).scrub = s.scrub := by simp [State.enterUp]
@[simp] theorem enterUp_freeCtr (s : State) (l : Link) : (s.enterUp l).freeCtr = s.freeCtr := by simp [State.enterUp]
@[simp] theorem enterUp_pending (s : State) (l : Link) : (s.enterUp l).pending = s.pending := by simp [State.enterUp]
@[simp] theorem enterUp_queue (s : State) (l : Link) (q : QueueId) : (s.enterUp l).queue q = s.queue q := queue_congr (enterUp_queues s l) q

@[simp] theorem enterFaulted_rstN (s : State) (l : Link) (cause : FaultCause) : (s.enterFaulted l cause).rstN = s.rstN := by simp [State.enterFaulted]
@[simp] theorem enterFaulted_straps (s : State) (l : Link) (cause : FaultCause) : (s.enterFaulted l cause).straps = s.straps := by simp [State.enterFaulted]
@[simp] theorem enterFaulted_rrPtr (s : State) (l : Link) (cause : FaultCause) : (s.enterFaulted l cause).rrPtr = s.rrPtr := by simp [State.enterFaulted]
@[simp] theorem enterFaulted_params (s : State) (l : Link) (cause : FaultCause) : (s.enterFaulted l cause).params = s.params := by simp [State.enterFaulted]
@[simp] theorem enterFaulted_monitor (s : State) (l : Link) (cause : FaultCause) : (s.enterFaulted l cause).monitor = s.monitor := by simp [State.enterFaulted]
@[simp] theorem enterFaulted_epoch (s : State) (l : Link) (cause : FaultCause) : (s.enterFaulted l cause).epoch = s.epoch := by simp [State.enterFaulted]
@[simp] theorem enterFaulted_op (s : State) (l : Link) (cause : FaultCause) : (s.enterFaulted l cause).op = s.op := by simp [State.enterFaulted]
@[simp] theorem enterFaulted_scrub (s : State) (l : Link) (cause : FaultCause) : (s.enterFaulted l cause).scrub = s.scrub := by simp [State.enterFaulted]
@[simp] theorem enterFaulted_freeCtr (s : State) (l : Link) (cause : FaultCause) : (s.enterFaulted l cause).freeCtr = s.freeCtr := by simp [State.enterFaulted]
@[simp] theorem enterFaulted_pending (s : State) (l : Link) (cause : FaultCause) : (s.enterFaulted l cause).pending = s.pending := by simp [State.enterFaulted]

@[simp] theorem enterDisabled_rstN (s : State) (l : Link) : (s.enterDisabled l).rstN = s.rstN := by simp [State.enterDisabled]
@[simp] theorem enterDisabled_straps (s : State) (l : Link) : (s.enterDisabled l).straps = s.straps := by simp [State.enterDisabled]
@[simp] theorem enterDisabled_queues (s : State) (l : Link) : (s.enterDisabled l).queues = s.queues := by simp [State.enterDisabled]
@[simp] theorem enterDisabled_rrPtr (s : State) (l : Link) : (s.enterDisabled l).rrPtr = s.rrPtr := by simp [State.enterDisabled]
@[simp] theorem enterDisabled_pool (s : State) (l : Link) : (s.enterDisabled l).pool = s.pool := by simp [State.enterDisabled]
@[simp] theorem enterDisabled_params (s : State) (l : Link) : (s.enterDisabled l).params = s.params := by simp [State.enterDisabled]
@[simp] theorem enterDisabled_monitor (s : State) (l : Link) : (s.enterDisabled l).monitor = s.monitor := by simp [State.enterDisabled]
@[simp] theorem enterDisabled_flow (s : State) (l : Link) : (s.enterDisabled l).flow = s.flow := by simp [State.enterDisabled]
@[simp] theorem enterDisabled_epoch (s : State) (l : Link) : (s.enterDisabled l).epoch = s.epoch := by simp [State.enterDisabled]
@[simp] theorem enterDisabled_op (s : State) (l : Link) : (s.enterDisabled l).op = s.op := by simp [State.enterDisabled]
@[simp] theorem enterDisabled_scrub (s : State) (l : Link) : (s.enterDisabled l).scrub = s.scrub := by simp [State.enterDisabled]
@[simp] theorem enterDisabled_freeCtr (s : State) (l : Link) : (s.enterDisabled l).freeCtr = s.freeCtr := by simp [State.enterDisabled]
@[simp] theorem enterDisabled_pending (s : State) (l : Link) : (s.enterDisabled l).pending = s.pending := by simp [State.enterDisabled]
@[simp] theorem enterDisabled_queue (s : State) (l : Link) (q : QueueId) : (s.enterDisabled l).queue q = s.queue q := queue_congr (enterDisabled_queues s l) q

@[simp] theorem retrainLink_rstN (s : State) (l : Link) : (s.retrainLink l).rstN = s.rstN := by simp [State.retrainLink]
@[simp] theorem retrainLink_straps (s : State) (l : Link) : (s.retrainLink l).straps = s.straps := by simp [State.retrainLink]
@[simp] theorem retrainLink_rrPtr (s : State) (l : Link) : (s.retrainLink l).rrPtr = s.rrPtr := by simp [State.retrainLink]
@[simp] theorem retrainLink_params (s : State) (l : Link) : (s.retrainLink l).params = s.params := by simp [State.retrainLink]
@[simp] theorem retrainLink_monitor (s : State) (l : Link) : (s.retrainLink l).monitor = s.monitor := by simp [State.retrainLink]
@[simp] theorem retrainLink_epoch (s : State) (l : Link) : (s.retrainLink l).epoch = s.epoch := by simp [State.retrainLink]
@[simp] theorem retrainLink_op (s : State) (l : Link) : (s.retrainLink l).op = s.op := by simp [State.retrainLink]
@[simp] theorem retrainLink_scrub (s : State) (l : Link) : (s.retrainLink l).scrub = s.scrub := by simp [State.retrainLink]
@[simp] theorem retrainLink_freeCtr (s : State) (l : Link) : (s.retrainLink l).freeCtr = s.freeCtr := by simp [State.retrainLink]
@[simp] theorem retrainLink_pending (s : State) (l : Link) : (s.retrainLink l).pending = s.pending := by simp [State.retrainLink]

@[simp] theorem tickRefresh_rstN (s : State) : (s.tickRefresh).rstN = s.rstN := by unfold State.tickRefresh; (repeat' split) <;> simp
@[simp] theorem tickRefresh_straps (s : State) : (s.tickRefresh).straps = s.straps := by unfold State.tickRefresh; (repeat' split) <;> simp
@[simp] theorem tickRefresh_queues (s : State) : (s.tickRefresh).queues = s.queues := by unfold State.tickRefresh; (repeat' split) <;> simp
@[simp] theorem tickRefresh_rrPtr (s : State) : (s.tickRefresh).rrPtr = s.rrPtr := by unfold State.tickRefresh; (repeat' split) <;> simp
@[simp] theorem tickRefresh_pool (s : State) : (s.tickRefresh).pool = s.pool := by unfold State.tickRefresh; (repeat' split) <;> simp
@[simp] theorem tickRefresh_tables (s : State) : (s.tickRefresh).tables = s.tables := by unfold State.tickRefresh; (repeat' split) <;> simp
@[simp] theorem tickRefresh_params (s : State) : (s.tickRefresh).params = s.params := by unfold State.tickRefresh; (repeat' split) <;> simp
@[simp] theorem tickRefresh_monitor (s : State) : (s.tickRefresh).monitor = s.monitor := by unfold State.tickRefresh; (repeat' split) <;> simp
@[simp] theorem tickRefresh_epoch (s : State) : (s.tickRefresh).epoch = s.epoch := by unfold State.tickRefresh; (repeat' split) <;> simp
@[simp] theorem tickRefresh_agent (s : State) : (s.tickRefresh).agent = s.agent := by unfold State.tickRefresh; (repeat' split) <;> simp
@[simp] theorem tickRefresh_op (s : State) : (s.tickRefresh).op = s.op := by unfold State.tickRefresh; (repeat' split) <;> simp
@[simp] theorem tickRefresh_scrub (s : State) : (s.tickRefresh).scrub = s.scrub := by unfold State.tickRefresh; (repeat' split) <;> simp
@[simp] theorem tickRefresh_attn (s : State) : (s.tickRefresh).attn = s.attn := by unfold State.tickRefresh; (repeat' split) <;> simp
@[simp] theorem tickRefresh_globals (s : State) : (s.tickRefresh).globals = s.globals := by unfold State.tickRefresh; (repeat' split) <;> simp
@[simp] theorem tickRefresh_freeCtr (s : State) : (s.tickRefresh).freeCtr = s.freeCtr := by unfold State.tickRefresh; (repeat' split) <;> simp
@[simp] theorem tickRefresh_pending (s : State) : (s.tickRefresh).pending = s.pending := by unfold State.tickRefresh; (repeat' split) <;> simp
@[simp] theorem tickRefresh_queue (s : State) (q : QueueId) : (s.tickRefresh).queue q = s.queue q := queue_congr (tickRefresh_queues s) q
@[simp] theorem tickRefresh_port_state (s : State) (k : Link) : ((s.tickRefresh).link k).state = (s.link k).state := by unfold State.tickRefresh; (repeat' split) <;> simp
@[simp] theorem tickRefresh_port_disablePending (s : State) (k : Link) : ((s.tickRefresh).link k).disablePending = (s.link k).disablePending := by unfold State.tickRefresh; (repeat' split) <;> simp
@[simp] theorem tickRefresh_port_trainCount (s : State) (k : Link) : ((s.tickRefresh).link k).trainCount = (s.link k).trainCount := by unfold State.tickRefresh; (repeat' split) <;> simp
@[simp] theorem tickRefresh_port_window (s : State) (k : Link) : ((s.tickRefresh).link k).window = (s.link k).window := by unfold State.tickRefresh; (repeat' split) <;> simp
@[simp] theorem tickRefresh_port_keepalive (s : State) (k : Link) : ((s.tickRefresh).link k).keepalive = (s.link k).keepalive := by unfold State.tickRefresh; (repeat' split) <;> simp
@[simp] theorem tickRefresh_port_budget (s : State) (k : Link) : ((s.tickRefresh).link k).budget = (s.link k).budget := by unfold State.tickRefresh; (repeat' split) <;> simp
@[simp] theorem tickRefresh_port_retrainCount (s : State) (k : Link) : ((s.tickRefresh).link k).retrainCount = (s.link k).retrainCount := by unfold State.tickRefresh; (repeat' split) <;> simp
@[simp] theorem tickRefresh_port_holdOff (s : State) (k : Link) : ((s.tickRefresh).link k).holdOff = (s.link k).holdOff := by unfold State.tickRefresh; (repeat' split) <;> simp
@[simp] theorem tickRefresh_port_cause (s : State) (k : Link) : ((s.tickRefresh).link k).cause = (s.link k).cause := by unfold State.tickRefresh; (repeat' split) <;> simp
@[simp] theorem tickRefresh_port_farGap (s : State) (k : Link) : ((s.tickRefresh).link k).farGap = (s.link k).farGap := by unfold State.tickRefresh; (repeat' split) <;> simp
@[simp] theorem tickRefresh_port_rxBuf (s : State) (k : Link) : ((s.tickRefresh).link k).rxBuf = (s.link k).rxBuf := by unfold State.tickRefresh; (repeat' split) <;> simp
@[simp] theorem tickRefresh_port_respQueue (s : State) (k : Link) : ((s.tickRefresh).link k).respQueue = (s.link k).respQueue := by unfold State.tickRefresh; (repeat' split) <;> simp
@[simp] theorem tickRefresh_port_pendAttn (s : State) (k : Link) : ((s.tickRefresh).link k).pendAttn = (s.link k).pendAttn := by unfold State.tickRefresh; (repeat' split) <;> simp
@[simp] theorem tickRefresh_port_inFlight (s : State) (k : Link) : ((s.tickRefresh).link k).inFlight = (s.link k).inFlight := by unfold State.tickRefresh; (repeat' split) <;> simp
@[simp] theorem tickRefresh_port_sending (s : State) (k : Link) : ((s.tickRefresh).link k).sending = (s.link k).sending := by unfold State.tickRefresh; (repeat' split) <;> simp
@[simp] theorem tickRefresh_port_gapCount (s : State) (k : Link) : ((s.tickRefresh).link k).gapCount = (s.link k).gapCount := by unfold State.tickRefresh; (repeat' split) <;> simp
@[simp] theorem tickRefresh_port_wrrClass (s : State) (k : Link) : ((s.tickRefresh).link k).wrrClass = (s.link k).wrrClass := by unfold State.tickRefresh; (repeat' split) <;> simp
@[simp] theorem tickRefresh_port_wrrCount (s : State) (k : Link) : ((s.tickRefresh).link k).wrrCount = (s.link k).wrrCount := by unfold State.tickRefresh; (repeat' split) <;> simp
@[simp] theorem tickRefresh_port_counters (s : State) (k : Link) : ((s.tickRefresh).link k).counters = (s.link k).counters := by unfold State.tickRefresh; (repeat' split) <;> simp

@[simp] theorem performSwap_rstN (s : State) : (s.performSwap).rstN = s.rstN := by simp [State.performSwap]
@[simp] theorem performSwap_straps (s : State) : (s.performSwap).straps = s.straps := by simp [State.performSwap]
@[simp] theorem performSwap_queues (s : State) : (s.performSwap).queues = s.queues := by simp [State.performSwap]
@[simp] theorem performSwap_rrPtr (s : State) : (s.performSwap).rrPtr = s.rrPtr := by simp [State.performSwap]
@[simp] theorem performSwap_pool (s : State) : (s.performSwap).pool = s.pool := by simp [State.performSwap]
@[simp] theorem performSwap_params (s : State) : (s.performSwap).params = s.params := by simp [State.performSwap]
@[simp] theorem performSwap_monitor (s : State) : (s.performSwap).monitor = s.monitor := by simp [State.performSwap]
@[simp] theorem performSwap_flow (s : State) : (s.performSwap).flow = s.flow := by simp [State.performSwap]
@[simp] theorem performSwap_agent (s : State) : (s.performSwap).agent = s.agent := by simp [State.performSwap]
@[simp] theorem performSwap_op (s : State) : (s.performSwap).op = s.op := by simp [State.performSwap]
@[simp] theorem performSwap_scrub (s : State) : (s.performSwap).scrub = s.scrub := by simp [State.performSwap]
@[simp] theorem performSwap_globals (s : State) : (s.performSwap).globals = s.globals := by simp [State.performSwap]
@[simp] theorem performSwap_freeCtr (s : State) : (s.performSwap).freeCtr = s.freeCtr := by simp [State.performSwap]
@[simp] theorem performSwap_pending (s : State) : (s.performSwap).pending = s.pending := by simp [State.performSwap]
@[simp] theorem performSwap_queue (s : State) (q : QueueId) : (s.performSwap).queue q = s.queue q := queue_congr (performSwap_queues s) q
@[simp] theorem performSwap_port_state (s : State) (k : Link) : ((s.performSwap).link k).state = (s.link k).state := by simp [State.performSwap]
@[simp] theorem performSwap_port_disablePending (s : State) (k : Link) : ((s.performSwap).link k).disablePending = (s.link k).disablePending := by simp [State.performSwap]
@[simp] theorem performSwap_port_trainCount (s : State) (k : Link) : ((s.performSwap).link k).trainCount = (s.link k).trainCount := by simp [State.performSwap]
@[simp] theorem performSwap_port_window (s : State) (k : Link) : ((s.performSwap).link k).window = (s.link k).window := by simp [State.performSwap]
@[simp] theorem performSwap_port_keepalive (s : State) (k : Link) : ((s.performSwap).link k).keepalive = (s.link k).keepalive := by simp [State.performSwap]
@[simp] theorem performSwap_port_budget (s : State) (k : Link) : ((s.performSwap).link k).budget = (s.link k).budget := by simp [State.performSwap]
@[simp] theorem performSwap_port_retrainCount (s : State) (k : Link) : ((s.performSwap).link k).retrainCount = (s.link k).retrainCount := by simp [State.performSwap]
@[simp] theorem performSwap_port_holdOff (s : State) (k : Link) : ((s.performSwap).link k).holdOff = (s.link k).holdOff := by simp [State.performSwap]
@[simp] theorem performSwap_port_cause (s : State) (k : Link) : ((s.performSwap).link k).cause = (s.link k).cause := by simp [State.performSwap]
@[simp] theorem performSwap_port_farGap (s : State) (k : Link) : ((s.performSwap).link k).farGap = (s.link k).farGap := by simp [State.performSwap]
@[simp] theorem performSwap_port_rxBuf (s : State) (k : Link) : ((s.performSwap).link k).rxBuf = (s.link k).rxBuf := by simp [State.performSwap]
@[simp] theorem performSwap_port_respQueue (s : State) (k : Link) : ((s.performSwap).link k).respQueue = (s.link k).respQueue := by simp [State.performSwap]
@[simp] theorem performSwap_port_pendFlowst (s : State) (k : Link) : ((s.performSwap).link k).pendFlowst = (s.link k).pendFlowst := by simp [State.performSwap]
@[simp] theorem performSwap_port_inFlight (s : State) (k : Link) : ((s.performSwap).link k).inFlight = (s.link k).inFlight := by simp [State.performSwap]
@[simp] theorem performSwap_port_sending (s : State) (k : Link) : ((s.performSwap).link k).sending = (s.link k).sending := by simp [State.performSwap]
@[simp] theorem performSwap_port_gapCount (s : State) (k : Link) : ((s.performSwap).link k).gapCount = (s.link k).gapCount := by simp [State.performSwap]
@[simp] theorem performSwap_port_wrrClass (s : State) (k : Link) : ((s.performSwap).link k).wrrClass = (s.link k).wrrClass := by simp [State.performSwap]
@[simp] theorem performSwap_port_wrrCount (s : State) (k : Link) : ((s.performSwap).link k).wrrCount = (s.link k).wrrCount := by simp [State.performSwap]
@[simp] theorem performSwap_port_counters (s : State) (k : Link) : ((s.performSwap).link k).counters = (s.link k).counters := by simp [State.performSwap]

@[simp] theorem epochChange_rstN (s : State) : (s.epochChange).rstN = s.rstN := by unfold State.epochChange; dsimp only; (repeat' split) <;> simp
@[simp] theorem epochChange_straps (s : State) : (s.epochChange).straps = s.straps := by unfold State.epochChange; dsimp only; (repeat' split) <;> simp
@[simp] theorem epochChange_queues (s : State) : (s.epochChange).queues = s.queues := by unfold State.epochChange; dsimp only; (repeat' split) <;> simp
@[simp] theorem epochChange_rrPtr (s : State) : (s.epochChange).rrPtr = s.rrPtr := by unfold State.epochChange; dsimp only; (repeat' split) <;> simp
@[simp] theorem epochChange_pool (s : State) : (s.epochChange).pool = s.pool := by unfold State.epochChange; dsimp only; (repeat' split) <;> simp
@[simp] theorem epochChange_params (s : State) : (s.epochChange).params = s.params := by unfold State.epochChange; dsimp only; (repeat' split) <;> simp
@[simp] theorem epochChange_monitor (s : State) : (s.epochChange).monitor = s.monitor := by unfold State.epochChange; dsimp only; (repeat' split) <;> simp
@[simp] theorem epochChange_agent (s : State) : (s.epochChange).agent = s.agent := by unfold State.epochChange; dsimp only; (repeat' split) <;> simp
@[simp] theorem epochChange_op (s : State) : (s.epochChange).op = s.op := by unfold State.epochChange; dsimp only; (repeat' split) <;> simp
@[simp] theorem epochChange_scrub (s : State) : (s.epochChange).scrub = s.scrub := by unfold State.epochChange; dsimp only; (repeat' split) <;> simp
@[simp] theorem epochChange_globals (s : State) : (s.epochChange).globals = s.globals := by unfold State.epochChange; dsimp only; (repeat' split) <;> simp
@[simp] theorem epochChange_freeCtr (s : State) : (s.epochChange).freeCtr = s.freeCtr := by unfold State.epochChange; dsimp only; (repeat' split) <;> simp
@[simp] theorem epochChange_pending (s : State) : (s.epochChange).pending = s.pending := by unfold State.epochChange; dsimp only; (repeat' split) <;> simp
@[simp] theorem epochChange_queue (s : State) (q : QueueId) : (s.epochChange).queue q = s.queue q := queue_congr (epochChange_queues s) q
@[simp] theorem epochChange_port_state (s : State) (k : Link) : ((s.epochChange).link k).state = (s.link k).state := by unfold State.epochChange; dsimp only; split <;> simp
@[simp] theorem epochChange_port_disablePending (s : State) (k : Link) : ((s.epochChange).link k).disablePending = (s.link k).disablePending := by unfold State.epochChange; dsimp only; split <;> simp
@[simp] theorem epochChange_port_trainCount (s : State) (k : Link) : ((s.epochChange).link k).trainCount = (s.link k).trainCount := by unfold State.epochChange; dsimp only; split <;> simp
@[simp] theorem epochChange_port_window (s : State) (k : Link) : ((s.epochChange).link k).window = (s.link k).window := by unfold State.epochChange; dsimp only; split <;> simp
@[simp] theorem epochChange_port_keepalive (s : State) (k : Link) : ((s.epochChange).link k).keepalive = (s.link k).keepalive := by unfold State.epochChange; dsimp only; split <;> simp
@[simp] theorem epochChange_port_budget (s : State) (k : Link) : ((s.epochChange).link k).budget = (s.link k).budget := by unfold State.epochChange; dsimp only; split <;> simp
@[simp] theorem epochChange_port_retrainCount (s : State) (k : Link) : ((s.epochChange).link k).retrainCount = (s.link k).retrainCount := by unfold State.epochChange; dsimp only; split <;> simp
@[simp] theorem epochChange_port_holdOff (s : State) (k : Link) : ((s.epochChange).link k).holdOff = (s.link k).holdOff := by unfold State.epochChange; dsimp only; split <;> simp
@[simp] theorem epochChange_port_cause (s : State) (k : Link) : ((s.epochChange).link k).cause = (s.link k).cause := by unfold State.epochChange; dsimp only; split <;> simp
@[simp] theorem epochChange_port_farGap (s : State) (k : Link) : ((s.epochChange).link k).farGap = (s.link k).farGap := by unfold State.epochChange; dsimp only; split <;> simp
@[simp] theorem epochChange_port_rxBuf (s : State) (k : Link) : ((s.epochChange).link k).rxBuf = (s.link k).rxBuf := by unfold State.epochChange; dsimp only; split <;> simp
@[simp] theorem epochChange_port_respQueue (s : State) (k : Link) : ((s.epochChange).link k).respQueue = (s.link k).respQueue := by unfold State.epochChange; dsimp only; split <;> simp
@[simp] theorem epochChange_port_inFlight (s : State) (k : Link) : ((s.epochChange).link k).inFlight = (s.link k).inFlight := by unfold State.epochChange; dsimp only; split <;> simp
@[simp] theorem epochChange_port_sending (s : State) (k : Link) : ((s.epochChange).link k).sending = (s.link k).sending := by unfold State.epochChange; dsimp only; split <;> simp
@[simp] theorem epochChange_port_gapCount (s : State) (k : Link) : ((s.epochChange).link k).gapCount = (s.link k).gapCount := by unfold State.epochChange; dsimp only; split <;> simp
@[simp] theorem epochChange_port_wrrClass (s : State) (k : Link) : ((s.epochChange).link k).wrrClass = (s.link k).wrrClass := by unfold State.epochChange; dsimp only; split <;> simp
@[simp] theorem epochChange_port_wrrCount (s : State) (k : Link) : ((s.epochChange).link k).wrrCount = (s.link k).wrrCount := by unfold State.epochChange; dsimp only; split <;> simp
@[simp] theorem epochChange_port_counters (s : State) (k : Link) : ((s.epochChange).link k).counters = (s.link k).counters := by unfold State.epochChange; dsimp only; split <;> simp

@[simp] theorem endOp_rstN (s : State) (progress : Nat) (w : Work) : (s.endOp progress w).rstN = s.rstN := by simp [State.endOp]
@[simp] theorem endOp_straps (s : State) (progress : Nat) (w : Work) : (s.endOp progress w).straps = s.straps := by simp [State.endOp]
@[simp] theorem endOp_queues (s : State) (progress : Nat) (w : Work) : (s.endOp progress w).queues = s.queues := by simp [State.endOp]
@[simp] theorem endOp_rrPtr (s : State) (progress : Nat) (w : Work) : (s.endOp progress w).rrPtr = s.rrPtr := by simp [State.endOp]
@[simp] theorem endOp_pool (s : State) (progress : Nat) (w : Work) : (s.endOp progress w).pool = s.pool := by simp [State.endOp]
@[simp] theorem endOp_tables (s : State) (progress : Nat) (w : Work) : (s.endOp progress w).tables = s.tables := by simp [State.endOp]
@[simp] theorem endOp_params (s : State) (progress : Nat) (w : Work) : (s.endOp progress w).params = s.params := by simp [State.endOp]
@[simp] theorem endOp_monitor (s : State) (progress : Nat) (w : Work) : (s.endOp progress w).monitor = s.monitor := by simp [State.endOp]
@[simp] theorem endOp_flow (s : State) (progress : Nat) (w : Work) : (s.endOp progress w).flow = s.flow := by simp [State.endOp]
@[simp] theorem endOp_epoch (s : State) (progress : Nat) (w : Work) : (s.endOp progress w).epoch = s.epoch := by simp [State.endOp]
@[simp] theorem endOp_agent (s : State) (progress : Nat) (w : Work) : (s.endOp progress w).agent = s.agent := by simp [State.endOp]
@[simp] theorem endOp_scrub (s : State) (progress : Nat) (w : Work) : (s.endOp progress w).scrub = s.scrub := by simp [State.endOp]
@[simp] theorem endOp_globals (s : State) (progress : Nat) (w : Work) : (s.endOp progress w).globals = s.globals := by simp [State.endOp]
@[simp] theorem endOp_freeCtr (s : State) (progress : Nat) (w : Work) : (s.endOp progress w).freeCtr = s.freeCtr := by simp [State.endOp]
@[simp] theorem endOp_pending (s : State) (progress : Nat) (w : Work) : (s.endOp progress w).pending = s.pending := by simp [State.endOp]
@[simp] theorem endOp_queue (s : State) (progress : Nat) (w : Work) (q : QueueId) : (s.endOp progress w).queue q = s.queue q := queue_congr (endOp_queues s progress w) q
@[simp] theorem endOp_port_state (s : State) (progress : Nat) (w : Work) (k : Link) : ((s.endOp progress w).link k).state = (s.link k).state := by simp [State.endOp]
@[simp] theorem endOp_port_disablePending (s : State) (progress : Nat) (w : Work) (k : Link) : ((s.endOp progress w).link k).disablePending = (s.link k).disablePending := by simp [State.endOp]
@[simp] theorem endOp_port_trainCount (s : State) (progress : Nat) (w : Work) (k : Link) : ((s.endOp progress w).link k).trainCount = (s.link k).trainCount := by simp [State.endOp]
@[simp] theorem endOp_port_window (s : State) (progress : Nat) (w : Work) (k : Link) : ((s.endOp progress w).link k).window = (s.link k).window := by simp [State.endOp]
@[simp] theorem endOp_port_keepalive (s : State) (progress : Nat) (w : Work) (k : Link) : ((s.endOp progress w).link k).keepalive = (s.link k).keepalive := by simp [State.endOp]
@[simp] theorem endOp_port_budget (s : State) (progress : Nat) (w : Work) (k : Link) : ((s.endOp progress w).link k).budget = (s.link k).budget := by simp [State.endOp]
@[simp] theorem endOp_port_retrainCount (s : State) (progress : Nat) (w : Work) (k : Link) : ((s.endOp progress w).link k).retrainCount = (s.link k).retrainCount := by simp [State.endOp]
@[simp] theorem endOp_port_holdOff (s : State) (progress : Nat) (w : Work) (k : Link) : ((s.endOp progress w).link k).holdOff = (s.link k).holdOff := by simp [State.endOp]
@[simp] theorem endOp_port_cause (s : State) (progress : Nat) (w : Work) (k : Link) : ((s.endOp progress w).link k).cause = (s.link k).cause := by simp [State.endOp]
@[simp] theorem endOp_port_farGap (s : State) (progress : Nat) (w : Work) (k : Link) : ((s.endOp progress w).link k).farGap = (s.link k).farGap := by simp [State.endOp]
@[simp] theorem endOp_port_rxBuf (s : State) (progress : Nat) (w : Work) (k : Link) : ((s.endOp progress w).link k).rxBuf = (s.link k).rxBuf := by simp [State.endOp]
@[simp] theorem endOp_port_respQueue (s : State) (progress : Nat) (w : Work) (k : Link) : ((s.endOp progress w).link k).respQueue = (s.link k).respQueue := by simp [State.endOp]
@[simp] theorem endOp_port_pendFlowst (s : State) (progress : Nat) (w : Work) (k : Link) : ((s.endOp progress w).link k).pendFlowst = (s.link k).pendFlowst := by simp [State.endOp]
@[simp] theorem endOp_port_inFlight (s : State) (progress : Nat) (w : Work) (k : Link) : ((s.endOp progress w).link k).inFlight = (s.link k).inFlight := by simp [State.endOp]
@[simp] theorem endOp_port_sending (s : State) (progress : Nat) (w : Work) (k : Link) : ((s.endOp progress w).link k).sending = (s.link k).sending := by simp [State.endOp]
@[simp] theorem endOp_port_gapCount (s : State) (progress : Nat) (w : Work) (k : Link) : ((s.endOp progress w).link k).gapCount = (s.link k).gapCount := by simp [State.endOp]
@[simp] theorem endOp_port_wrrClass (s : State) (progress : Nat) (w : Work) (k : Link) : ((s.endOp progress w).link k).wrrClass = (s.link k).wrrClass := by simp [State.endOp]
@[simp] theorem endOp_port_wrrCount (s : State) (progress : Nat) (w : Work) (k : Link) : ((s.endOp progress w).link k).wrrCount = (s.link k).wrrCount := by simp [State.endOp]
@[simp] theorem endOp_port_counters (s : State) (progress : Nat) (w : Work) (k : Link) : ((s.endOp progress w).link k).counters = (s.link k).counters := by simp [State.endOp]

@[simp] theorem abortOp_rstN (s : State) : (s.abortOp).rstN = s.rstN := by unfold State.abortOp; (repeat' split) <;> simp
@[simp] theorem abortOp_straps (s : State) : (s.abortOp).straps = s.straps := by unfold State.abortOp; (repeat' split) <;> simp
@[simp] theorem abortOp_queues (s : State) : (s.abortOp).queues = s.queues := by unfold State.abortOp; (repeat' split) <;> simp
@[simp] theorem abortOp_rrPtr (s : State) : (s.abortOp).rrPtr = s.rrPtr := by unfold State.abortOp; (repeat' split) <;> simp
@[simp] theorem abortOp_tables (s : State) : (s.abortOp).tables = s.tables := by unfold State.abortOp; (repeat' split) <;> simp
@[simp] theorem abortOp_params (s : State) : (s.abortOp).params = s.params := by unfold State.abortOp; (repeat' split) <;> simp
@[simp] theorem abortOp_monitor (s : State) : (s.abortOp).monitor = s.monitor := by unfold State.abortOp; (repeat' split) <;> simp
@[simp] theorem abortOp_flow (s : State) : (s.abortOp).flow = s.flow := by unfold State.abortOp; (repeat' split) <;> simp
@[simp] theorem abortOp_epoch (s : State) : (s.abortOp).epoch = s.epoch := by unfold State.abortOp; (repeat' split) <;> simp
@[simp] theorem abortOp_agent (s : State) : (s.abortOp).agent = s.agent := by unfold State.abortOp; (repeat' split) <;> simp
@[simp] theorem abortOp_scrub (s : State) : (s.abortOp).scrub = s.scrub := by unfold State.abortOp; (repeat' split) <;> simp
@[simp] theorem abortOp_globals (s : State) : (s.abortOp).globals = s.globals := by unfold State.abortOp; (repeat' split) <;> simp
@[simp] theorem abortOp_freeCtr (s : State) : (s.abortOp).freeCtr = s.freeCtr := by unfold State.abortOp; (repeat' split) <;> simp
@[simp] theorem abortOp_pending (s : State) : (s.abortOp).pending = s.pending := by unfold State.abortOp; (repeat' split) <;> simp
@[simp] theorem abortOp_queue (s : State) (q : QueueId) : (s.abortOp).queue q = s.queue q := queue_congr (abortOp_queues s) q
@[simp] theorem abortOp_port_state (s : State) (k : Link) : ((s.abortOp).link k).state = (s.link k).state := by unfold State.abortOp; (repeat' split) <;> simp
@[simp] theorem abortOp_port_disablePending (s : State) (k : Link) : ((s.abortOp).link k).disablePending = (s.link k).disablePending := by unfold State.abortOp; (repeat' split) <;> simp
@[simp] theorem abortOp_port_trainCount (s : State) (k : Link) : ((s.abortOp).link k).trainCount = (s.link k).trainCount := by unfold State.abortOp; (repeat' split) <;> simp
@[simp] theorem abortOp_port_window (s : State) (k : Link) : ((s.abortOp).link k).window = (s.link k).window := by unfold State.abortOp; (repeat' split) <;> simp
@[simp] theorem abortOp_port_keepalive (s : State) (k : Link) : ((s.abortOp).link k).keepalive = (s.link k).keepalive := by unfold State.abortOp; (repeat' split) <;> simp
@[simp] theorem abortOp_port_budget (s : State) (k : Link) : ((s.abortOp).link k).budget = (s.link k).budget := by unfold State.abortOp; (repeat' split) <;> simp
@[simp] theorem abortOp_port_retrainCount (s : State) (k : Link) : ((s.abortOp).link k).retrainCount = (s.link k).retrainCount := by unfold State.abortOp; (repeat' split) <;> simp
@[simp] theorem abortOp_port_holdOff (s : State) (k : Link) : ((s.abortOp).link k).holdOff = (s.link k).holdOff := by unfold State.abortOp; (repeat' split) <;> simp
@[simp] theorem abortOp_port_cause (s : State) (k : Link) : ((s.abortOp).link k).cause = (s.link k).cause := by unfold State.abortOp; (repeat' split) <;> simp
@[simp] theorem abortOp_port_farGap (s : State) (k : Link) : ((s.abortOp).link k).farGap = (s.link k).farGap := by unfold State.abortOp; (repeat' split) <;> simp
@[simp] theorem abortOp_port_rxBuf (s : State) (k : Link) : ((s.abortOp).link k).rxBuf = (s.link k).rxBuf := by unfold State.abortOp; (repeat' split) <;> simp
@[simp] theorem abortOp_port_respQueue (s : State) (k : Link) : ((s.abortOp).link k).respQueue = (s.link k).respQueue := by unfold State.abortOp; (repeat' split) <;> simp
@[simp] theorem abortOp_port_pendFlowst (s : State) (k : Link) : ((s.abortOp).link k).pendFlowst = (s.link k).pendFlowst := by unfold State.abortOp; (repeat' split) <;> simp
@[simp] theorem abortOp_port_inFlight (s : State) (k : Link) : ((s.abortOp).link k).inFlight = (s.link k).inFlight := by unfold State.abortOp; (repeat' split) <;> simp
@[simp] theorem abortOp_port_sending (s : State) (k : Link) : ((s.abortOp).link k).sending = (s.link k).sending := by unfold State.abortOp; (repeat' split) <;> simp
@[simp] theorem abortOp_port_gapCount (s : State) (k : Link) : ((s.abortOp).link k).gapCount = (s.link k).gapCount := by unfold State.abortOp; (repeat' split) <;> simp
@[simp] theorem abortOp_port_wrrClass (s : State) (k : Link) : ((s.abortOp).link k).wrrClass = (s.link k).wrrClass := by unfold State.abortOp; (repeat' split) <;> simp
@[simp] theorem abortOp_port_wrrCount (s : State) (k : Link) : ((s.abortOp).link k).wrrCount = (s.link k).wrrCount := by unfold State.abortOp; (repeat' split) <;> simp
@[simp] theorem abortOp_port_counters (s : State) (k : Link) : ((s.abortOp).link k).counters = (s.link k).counters := by unfold State.abortOp; (repeat' split) <;> simp

@[simp] theorem place_rstN (s : State) (l : Link) (record : Payload) : (s.place l record).rstN = s.rstN := by unfold State.place; (repeat' split) <;> simp
@[simp] theorem place_straps (s : State) (l : Link) (record : Payload) : (s.place l record).straps = s.straps := by unfold State.place; (repeat' split) <;> simp
@[simp] theorem place_queues (s : State) (l : Link) (record : Payload) : (s.place l record).queues = s.queues := by unfold State.place; (repeat' split) <;> simp
@[simp] theorem place_rrPtr (s : State) (l : Link) (record : Payload) : (s.place l record).rrPtr = s.rrPtr := by unfold State.place; (repeat' split) <;> simp
@[simp] theorem place_pool (s : State) (l : Link) (record : Payload) : (s.place l record).pool = s.pool := by unfold State.place; (repeat' split) <;> simp
@[simp] theorem place_tables (s : State) (l : Link) (record : Payload) : (s.place l record).tables = s.tables := by unfold State.place; (repeat' split) <;> simp
@[simp] theorem place_params (s : State) (l : Link) (record : Payload) : (s.place l record).params = s.params := by unfold State.place; (repeat' split) <;> simp
@[simp] theorem place_monitor (s : State) (l : Link) (record : Payload) : (s.place l record).monitor = s.monitor := by unfold State.place; (repeat' split) <;> simp
@[simp] theorem place_flow (s : State) (l : Link) (record : Payload) : (s.place l record).flow = s.flow := by unfold State.place; (repeat' split) <;> simp
@[simp] theorem place_epoch (s : State) (l : Link) (record : Payload) : (s.place l record).epoch = s.epoch := by unfold State.place; (repeat' split) <;> simp
@[simp] theorem place_op (s : State) (l : Link) (record : Payload) : (s.place l record).op = s.op := by unfold State.place; (repeat' split) <;> simp
@[simp] theorem place_scrub (s : State) (l : Link) (record : Payload) : (s.place l record).scrub = s.scrub := by unfold State.place; (repeat' split) <;> simp
@[simp] theorem place_attn (s : State) (l : Link) (record : Payload) : (s.place l record).attn = s.attn := by unfold State.place; (repeat' split) <;> simp
@[simp] theorem place_freeCtr (s : State) (l : Link) (record : Payload) : (s.place l record).freeCtr = s.freeCtr := by unfold State.place; (repeat' split) <;> simp
@[simp] theorem place_pending (s : State) (l : Link) (record : Payload) : (s.place l record).pending = s.pending := by unfold State.place; (repeat' split) <;> simp
@[simp] theorem place_queue (s : State) (l : Link) (record : Payload) (q : QueueId) : (s.place l record).queue q = s.queue q := queue_congr (place_queues s l record) q

end Sys2Proof.Laws
end

