-- ==== Sys2Proof/Laws/Meanings.lean ====
section
/-! SUPPORT. What the operations of the meanings leave alone: one lemma for each field of State that an operation does not write. -/

namespace Sys2Proof.Laws

open Sys2Proof.Machine

@[simp] theorem badCell_rstN (s : State) (l : Link) : (s.badCell l).rstN = s.rstN := by unfold State.badCell; dsimp only; (repeat' split) <;> simp
@[simp] theorem badCell_straps (s : State) (l : Link) : (s.badCell l).straps = s.straps := by unfold State.badCell; dsimp only; (repeat' split) <;> simp
@[simp] theorem badCell_rrPtr (s : State) (l : Link) : (s.badCell l).rrPtr = s.rrPtr := by unfold State.badCell; dsimp only; (repeat' split) <;> simp
@[simp] theorem badCell_params (s : State) (l : Link) : (s.badCell l).params = s.params := by unfold State.badCell; dsimp only; (repeat' split) <;> simp
@[simp] theorem badCell_monitor (s : State) (l : Link) : (s.badCell l).monitor = s.monitor := by unfold State.badCell; dsimp only; (repeat' split) <;> simp
@[simp] theorem badCell_epoch (s : State) (l : Link) : (s.badCell l).epoch = s.epoch := by unfold State.badCell; dsimp only; (repeat' split) <;> simp
@[simp] theorem badCell_op (s : State) (l : Link) : (s.badCell l).op = s.op := by unfold State.badCell; dsimp only; (repeat' split) <;> simp
@[simp] theorem badCell_scrub (s : State) (l : Link) : (s.badCell l).scrub = s.scrub := by unfold State.badCell; dsimp only; (repeat' split) <;> simp
@[simp] theorem badCell_freeCtr (s : State) (l : Link) : (s.badCell l).freeCtr = s.freeCtr := by unfold State.badCell; dsimp only; (repeat' split) <;> simp
@[simp] theorem badCell_pending (s : State) (l : Link) : (s.badCell l).pending = s.pending := by unfold State.badCell; dsimp only; (repeat' split) <;> simp

@[simp] theorem receiveData_rstN (s : State) (l : Link) (cell : Cell) : (s.receiveData l cell).rstN = s.rstN := by unfold State.receiveData; (repeat' split) <;> simp
@[simp] theorem receiveData_straps (s : State) (l : Link) (cell : Cell) : (s.receiveData l cell).straps = s.straps := by unfold State.receiveData; (repeat' split) <;> simp
@[simp] theorem receiveData_queues (s : State) (l : Link) (cell : Cell) : (s.receiveData l cell).queues = s.queues := by unfold State.receiveData; (repeat' split) <;> simp
@[simp] theorem receiveData_rrPtr (s : State) (l : Link) (cell : Cell) : (s.receiveData l cell).rrPtr = s.rrPtr := by unfold State.receiveData; (repeat' split) <;> simp
@[simp] theorem receiveData_pool (s : State) (l : Link) (cell : Cell) : (s.receiveData l cell).pool = s.pool := by unfold State.receiveData; (repeat' split) <;> simp
@[simp] theorem receiveData_tables (s : State) (l : Link) (cell : Cell) : (s.receiveData l cell).tables = s.tables := by unfold State.receiveData; (repeat' split) <;> simp
@[simp] theorem receiveData_params (s : State) (l : Link) (cell : Cell) : (s.receiveData l cell).params = s.params := by unfold State.receiveData; (repeat' split) <;> simp
@[simp] theorem receiveData_monitor (s : State) (l : Link) (cell : Cell) : (s.receiveData l cell).monitor = s.monitor := by unfold State.receiveData; (repeat' split) <;> simp
@[simp] theorem receiveData_flow (s : State) (l : Link) (cell : Cell) : (s.receiveData l cell).flow = s.flow := by unfold State.receiveData; (repeat' split) <;> simp
@[simp] theorem receiveData_epoch (s : State) (l : Link) (cell : Cell) : (s.receiveData l cell).epoch = s.epoch := by unfold State.receiveData; (repeat' split) <;> simp
@[simp] theorem receiveData_agent (s : State) (l : Link) (cell : Cell) : (s.receiveData l cell).agent = s.agent := by unfold State.receiveData; (repeat' split) <;> simp
@[simp] theorem receiveData_op (s : State) (l : Link) (cell : Cell) : (s.receiveData l cell).op = s.op := by unfold State.receiveData; (repeat' split) <;> simp
@[simp] theorem receiveData_scrub (s : State) (l : Link) (cell : Cell) : (s.receiveData l cell).scrub = s.scrub := by unfold State.receiveData; (repeat' split) <;> simp
@[simp] theorem receiveData_attn (s : State) (l : Link) (cell : Cell) : (s.receiveData l cell).attn = s.attn := by unfold State.receiveData; (repeat' split) <;> simp
@[simp] theorem receiveData_globals (s : State) (l : Link) (cell : Cell) : (s.receiveData l cell).globals = s.globals := by unfold State.receiveData; (repeat' split) <;> simp
@[simp] theorem receiveData_freeCtr (s : State) (l : Link) (cell : Cell) : (s.receiveData l cell).freeCtr = s.freeCtr := by unfold State.receiveData; (repeat' split) <;> simp
@[simp] theorem receiveData_pending (s : State) (l : Link) (cell : Cell) : (s.receiveData l cell).pending = s.pending := by unfold State.receiveData; (repeat' split) <;> simp

@[simp] theorem arriveRequest_rstN (s : State) (l : Link) (cell : Cell) : (s.arriveRequest l cell).rstN = s.rstN := by unfold State.arriveRequest; (repeat' split) <;> simp
@[simp] theorem arriveRequest_straps (s : State) (l : Link) (cell : Cell) : (s.arriveRequest l cell).straps = s.straps := by unfold State.arriveRequest; (repeat' split) <;> simp
@[simp] theorem arriveRequest_queues (s : State) (l : Link) (cell : Cell) : (s.arriveRequest l cell).queues = s.queues := by unfold State.arriveRequest; (repeat' split) <;> simp
@[simp] theorem arriveRequest_rrPtr (s : State) (l : Link) (cell : Cell) : (s.arriveRequest l cell).rrPtr = s.rrPtr := by unfold State.arriveRequest; (repeat' split) <;> simp
@[simp] theorem arriveRequest_pool (s : State) (l : Link) (cell : Cell) : (s.arriveRequest l cell).pool = s.pool := by unfold State.arriveRequest; (repeat' split) <;> simp
@[simp] theorem arriveRequest_tables (s : State) (l : Link) (cell : Cell) : (s.arriveRequest l cell).tables = s.tables := by unfold State.arriveRequest; (repeat' split) <;> simp
@[simp] theorem arriveRequest_params (s : State) (l : Link) (cell : Cell) : (s.arriveRequest l cell).params = s.params := by unfold State.arriveRequest; (repeat' split) <;> simp
@[simp] theorem arriveRequest_monitor (s : State) (l : Link) (cell : Cell) : (s.arriveRequest l cell).monitor = s.monitor := by unfold State.arriveRequest; (repeat' split) <;> simp
@[simp] theorem arriveRequest_flow (s : State) (l : Link) (cell : Cell) : (s.arriveRequest l cell).flow = s.flow := by unfold State.arriveRequest; (repeat' split) <;> simp
@[simp] theorem arriveRequest_epoch (s : State) (l : Link) (cell : Cell) : (s.arriveRequest l cell).epoch = s.epoch := by unfold State.arriveRequest; (repeat' split) <;> simp
@[simp] theorem arriveRequest_op (s : State) (l : Link) (cell : Cell) : (s.arriveRequest l cell).op = s.op := by unfold State.arriveRequest; (repeat' split) <;> simp
@[simp] theorem arriveRequest_scrub (s : State) (l : Link) (cell : Cell) : (s.arriveRequest l cell).scrub = s.scrub := by unfold State.arriveRequest; (repeat' split) <;> simp
@[simp] theorem arriveRequest_freeCtr (s : State) (l : Link) (cell : Cell) : (s.arriveRequest l cell).freeCtr = s.freeCtr := by unfold State.arriveRequest; (repeat' split) <;> simp
@[simp] theorem arriveRequest_pending (s : State) (l : Link) (cell : Cell) : (s.arriveRequest l cell).pending = s.pending := by unfold State.arriveRequest; (repeat' split) <;> simp

@[simp] theorem arriveSync_rstN (s : State) (l : Link) (n : Epoch) : (s.arriveSync l n).rstN = s.rstN := by unfold State.arriveSync; dsimp only; (repeat' split) <;> simp
@[simp] theorem arriveSync_straps (s : State) (l : Link) (n : Epoch) : (s.arriveSync l n).straps = s.straps := by unfold State.arriveSync; dsimp only; (repeat' split) <;> simp
@[simp] theorem arriveSync_queues (s : State) (l : Link) (n : Epoch) : (s.arriveSync l n).queues = s.queues := by unfold State.arriveSync; dsimp only; (repeat' split) <;> simp
@[simp] theorem arriveSync_rrPtr (s : State) (l : Link) (n : Epoch) : (s.arriveSync l n).rrPtr = s.rrPtr := by unfold State.arriveSync; dsimp only; (repeat' split) <;> simp
@[simp] theorem arriveSync_pool (s : State) (l : Link) (n : Epoch) : (s.arriveSync l n).pool = s.pool := by unfold State.arriveSync; dsimp only; (repeat' split) <;> simp
@[simp] theorem arriveSync_params (s : State) (l : Link) (n : Epoch) : (s.arriveSync l n).params = s.params := by unfold State.arriveSync; dsimp only; (repeat' split) <;> simp
@[simp] theorem arriveSync_monitor (s : State) (l : Link) (n : Epoch) : (s.arriveSync l n).monitor = s.monitor := by unfold State.arriveSync; dsimp only; (repeat' split) <;> simp
@[simp] theorem arriveSync_agent (s : State) (l : Link) (n : Epoch) : (s.arriveSync l n).agent = s.agent := by unfold State.arriveSync; dsimp only; (repeat' split) <;> simp
@[simp] theorem arriveSync_op (s : State) (l : Link) (n : Epoch) : (s.arriveSync l n).op = s.op := by unfold State.arriveSync; dsimp only; (repeat' split) <;> simp
@[simp] theorem arriveSync_scrub (s : State) (l : Link) (n : Epoch) : (s.arriveSync l n).scrub = s.scrub := by unfold State.arriveSync; dsimp only; (repeat' split) <;> simp
@[simp] theorem arriveSync_freeCtr (s : State) (l : Link) (n : Epoch) : (s.arriveSync l n).freeCtr = s.freeCtr := by unfold State.arriveSync; dsimp only; (repeat' split) <;> simp
@[simp] theorem arriveSync_pending (s : State) (l : Link) (n : Epoch) : (s.arriveSync l n).pending = s.pending := by unfold State.arriveSync; dsimp only; (repeat' split) <;> simp

@[simp] theorem deliver_rstN (s : State) (l : Link) (kind : CellKind) (cell : Cell) : (s.deliver l kind cell).rstN = s.rstN := by unfold State.deliver; cases kind <;> simp
@[simp] theorem deliver_straps (s : State) (l : Link) (kind : CellKind) (cell : Cell) : (s.deliver l kind cell).straps = s.straps := by unfold State.deliver; cases kind <;> simp
@[simp] theorem deliver_queues (s : State) (l : Link) (kind : CellKind) (cell : Cell) : (s.deliver l kind cell).queues = s.queues := by unfold State.deliver; cases kind <;> simp
@[simp] theorem deliver_rrPtr (s : State) (l : Link) (kind : CellKind) (cell : Cell) : (s.deliver l kind cell).rrPtr = s.rrPtr := by unfold State.deliver; cases kind <;> simp
@[simp] theorem deliver_pool (s : State) (l : Link) (kind : CellKind) (cell : Cell) : (s.deliver l kind cell).pool = s.pool := by unfold State.deliver; cases kind <;> simp
@[simp] theorem deliver_params (s : State) (l : Link) (kind : CellKind) (cell : Cell) : (s.deliver l kind cell).params = s.params := by unfold State.deliver; cases kind <;> simp
@[simp] theorem deliver_monitor (s : State) (l : Link) (kind : CellKind) (cell : Cell) : (s.deliver l kind cell).monitor = s.monitor := by unfold State.deliver; cases kind <;> simp
@[simp] theorem deliver_op (s : State) (l : Link) (kind : CellKind) (cell : Cell) : (s.deliver l kind cell).op = s.op := by unfold State.deliver; cases kind <;> simp
@[simp] theorem deliver_scrub (s : State) (l : Link) (kind : CellKind) (cell : Cell) : (s.deliver l kind cell).scrub = s.scrub := by unfold State.deliver; cases kind <;> simp
@[simp] theorem deliver_freeCtr (s : State) (l : Link) (kind : CellKind) (cell : Cell) : (s.deliver l kind cell).freeCtr = s.freeCtr := by unfold State.deliver; cases kind <;> simp
@[simp] theorem deliver_pending (s : State) (l : Link) (kind : CellKind) (cell : Cell) : (s.deliver l kind cell).pending = s.pending := by unfold State.deliver; cases kind <;> simp

@[simp] theorem arriveHeaderError_rstN (s : State) (l : Link) : (s.arriveHeaderError l).rstN = s.rstN := by unfold State.arriveHeaderError; dsimp only; (repeat' split) <;> simp
@[simp] theorem arriveHeaderError_straps (s : State) (l : Link) : (s.arriveHeaderError l).straps = s.straps := by unfold State.arriveHeaderError; dsimp only; (repeat' split) <;> simp
@[simp] theorem arriveHeaderError_rrPtr (s : State) (l : Link) : (s.arriveHeaderError l).rrPtr = s.rrPtr := by unfold State.arriveHeaderError; dsimp only; (repeat' split) <;> simp
@[simp] theorem arriveHeaderError_params (s : State) (l : Link) : (s.arriveHeaderError l).params = s.params := by unfold State.arriveHeaderError; dsimp only; (repeat' split) <;> simp
@[simp] theorem arriveHeaderError_monitor (s : State) (l : Link) : (s.arriveHeaderError l).monitor = s.monitor := by unfold State.arriveHeaderError; dsimp only; (repeat' split) <;> simp
@[simp] theorem arriveHeaderError_epoch (s : State) (l : Link) : (s.arriveHeaderError l).epoch = s.epoch := by unfold State.arriveHeaderError; dsimp only; (repeat' split) <;> simp
@[simp] theorem arriveHeaderError_op (s : State) (l : Link) : (s.arriveHeaderError l).op = s.op := by unfold State.arriveHeaderError; dsimp only; (repeat' split) <;> simp
@[simp] theorem arriveHeaderError_scrub (s : State) (l : Link) : (s.arriveHeaderError l).scrub = s.scrub := by unfold State.arriveHeaderError; dsimp only; (repeat' split) <;> simp
@[simp] theorem arriveHeaderError_freeCtr (s : State) (l : Link) : (s.arriveHeaderError l).freeCtr = s.freeCtr := by unfold State.arriveHeaderError; dsimp only; (repeat' split) <;> simp
@[simp] theorem arriveHeaderError_pending (s : State) (l : Link) : (s.arriveHeaderError l).pending = s.pending := by unfold State.arriveHeaderError; dsimp only; (repeat' split) <;> simp

@[simp] theorem train_rstN (s : State) (l : Link) (kind : CellKind) : (s.train l kind).rstN = s.rstN := by unfold State.train; dsimp only; (repeat' split) <;> simp
@[simp] theorem train_straps (s : State) (l : Link) (kind : CellKind) : (s.train l kind).straps = s.straps := by unfold State.train; dsimp only; (repeat' split) <;> simp
@[simp] theorem train_queues (s : State) (l : Link) (kind : CellKind) : (s.train l kind).queues = s.queues := by unfold State.train; dsimp only; (repeat' split) <;> simp
@[simp] theorem train_rrPtr (s : State) (l : Link) (kind : CellKind) : (s.train l kind).rrPtr = s.rrPtr := by unfold State.train; dsimp only; (repeat' split) <;> simp
@[simp] theorem train_pool (s : State) (l : Link) (kind : CellKind) : (s.train l kind).pool = s.pool := by unfold State.train; dsimp only; (repeat' split) <;> simp
@[simp] theorem train_params (s : State) (l : Link) (kind : CellKind) : (s.train l kind).params = s.params := by unfold State.train; dsimp only; (repeat' split) <;> simp
@[simp] theorem train_monitor (s : State) (l : Link) (kind : CellKind) : (s.train l kind).monitor = s.monitor := by unfold State.train; dsimp only; (repeat' split) <;> simp
@[simp] theorem train_flow (s : State) (l : Link) (kind : CellKind) : (s.train l kind).flow = s.flow := by unfold State.train; dsimp only; (repeat' split) <;> simp
@[simp] theorem train_epoch (s : State) (l : Link) (kind : CellKind) : (s.train l kind).epoch = s.epoch := by unfold State.train; dsimp only; (repeat' split) <;> simp
@[simp] theorem train_agent (s : State) (l : Link) (kind : CellKind) : (s.train l kind).agent = s.agent := by unfold State.train; dsimp only; (repeat' split) <;> simp
@[simp] theorem train_op (s : State) (l : Link) (kind : CellKind) : (s.train l kind).op = s.op := by unfold State.train; dsimp only; (repeat' split) <;> simp
@[simp] theorem train_scrub (s : State) (l : Link) (kind : CellKind) : (s.train l kind).scrub = s.scrub := by unfold State.train; dsimp only; (repeat' split) <;> simp
@[simp] theorem train_freeCtr (s : State) (l : Link) (kind : CellKind) : (s.train l kind).freeCtr = s.freeCtr := by unfold State.train; dsimp only; (repeat' split) <;> simp
@[simp] theorem train_pending (s : State) (l : Link) (kind : CellKind) : (s.train l kind).pending = s.pending := by unfold State.train; dsimp only; (repeat' split) <;> simp

@[simp] theorem arriveGood_rstN (s : State) (l : Link) (kind : CellKind) (cell : Cell) : (s.arriveGood l kind cell).rstN = s.rstN := by simp [State.arriveGood]
@[simp] theorem arriveGood_straps (s : State) (l : Link) (kind : CellKind) (cell : Cell) : (s.arriveGood l kind cell).straps = s.straps := by simp [State.arriveGood]
@[simp] theorem arriveGood_queues (s : State) (l : Link) (kind : CellKind) (cell : Cell) : (s.arriveGood l kind cell).queues = s.queues := by simp [State.arriveGood]
@[simp] theorem arriveGood_rrPtr (s : State) (l : Link) (kind : CellKind) (cell : Cell) : (s.arriveGood l kind cell).rrPtr = s.rrPtr := by simp [State.arriveGood]
@[simp] theorem arriveGood_pool (s : State) (l : Link) (kind : CellKind) (cell : Cell) : (s.arriveGood l kind cell).pool = s.pool := by simp [State.arriveGood]
@[simp] theorem arriveGood_params (s : State) (l : Link) (kind : CellKind) (cell : Cell) : (s.arriveGood l kind cell).params = s.params := by simp [State.arriveGood]
@[simp] theorem arriveGood_monitor (s : State) (l : Link) (kind : CellKind) (cell : Cell) : (s.arriveGood l kind cell).monitor = s.monitor := by simp [State.arriveGood]
@[simp] theorem arriveGood_op (s : State) (l : Link) (kind : CellKind) (cell : Cell) : (s.arriveGood l kind cell).op = s.op := by simp [State.arriveGood]
@[simp] theorem arriveGood_scrub (s : State) (l : Link) (kind : CellKind) (cell : Cell) : (s.arriveGood l kind cell).scrub = s.scrub := by simp [State.arriveGood]
@[simp] theorem arriveGood_freeCtr (s : State) (l : Link) (kind : CellKind) (cell : Cell) : (s.arriveGood l kind cell).freeCtr = s.freeCtr := by simp [State.arriveGood]
@[simp] theorem arriveGood_pending (s : State) (l : Link) (kind : CellKind) (cell : Cell) : (s.arriveGood l kind cell).pending = s.pending := by simp [State.arriveGood]

@[simp] theorem arriveGoodHeader_rstN (s : State) (l : Link) (kind : CellKind) (cell : Cell) : (s.arriveGoodHeader l kind cell).rstN = s.rstN := by unfold State.arriveGoodHeader; dsimp only; (repeat' split) <;> simp
@[simp] theorem arriveGoodHeader_straps (s : State) (l : Link) (kind : CellKind) (cell : Cell) : (s.arriveGoodHeader l kind cell).straps = s.straps := by unfold State.arriveGoodHeader; dsimp only; (repeat' split) <;> simp
@[simp] theorem arriveGoodHeader_rrPtr (s : State) (l : Link) (kind : CellKind) (cell : Cell) : (s.arriveGoodHeader l kind cell).rrPtr = s.rrPtr := by unfold State.arriveGoodHeader; dsimp only; (repeat' split) <;> simp
@[simp] theorem arriveGoodHeader_params (s : State) (l : Link) (kind : CellKind) (cell : Cell) : (s.arriveGoodHeader l kind cell).params = s.params := by unfold State.arriveGoodHeader; dsimp only; (repeat' split) <;> simp
@[simp] theorem arriveGoodHeader_monitor (s : State) (l : Link) (kind : CellKind) (cell : Cell) : (s.arriveGoodHeader l kind cell).monitor = s.monitor := by unfold State.arriveGoodHeader; dsimp only; (repeat' split) <;> simp
@[simp] theorem arriveGoodHeader_op (s : State) (l : Link) (kind : CellKind) (cell : Cell) : (s.arriveGoodHeader l kind cell).op = s.op := by unfold State.arriveGoodHeader; dsimp only; (repeat' split) <;> simp
@[simp] theorem arriveGoodHeader_scrub (s : State) (l : Link) (kind : CellKind) (cell : Cell) : (s.arriveGoodHeader l kind cell).scrub = s.scrub := by unfold State.arriveGoodHeader; dsimp only; (repeat' split) <;> simp
@[simp] theorem arriveGoodHeader_freeCtr (s : State) (l : Link) (kind : CellKind) (cell : Cell) : (s.arriveGoodHeader l kind cell).freeCtr = s.freeCtr := by unfold State.arriveGoodHeader; dsimp only; (repeat' split) <;> simp
@[simp] theorem arriveGoodHeader_pending (s : State) (l : Link) (kind : CellKind) (cell : Cell) : (s.arriveGoodHeader l kind cell).pending = s.pending := by unfold State.arriveGoodHeader; dsimp only; (repeat' split) <;> simp

@[simp] theorem countTailDrop_rstN (s : State) (l : Link) (k : Class) : (s.countTailDrop l k).rstN = s.rstN := by simp [State.countTailDrop]
@[simp] theorem countTailDrop_straps (s : State) (l : Link) (k : Class) : (s.countTailDrop l k).straps = s.straps := by simp [State.countTailDrop]
@[simp] theorem countTailDrop_links (s : State) (l : Link) (k : Class) : (s.countTailDrop l k).links = s.links := by simp [State.countTailDrop]
@[simp] theorem countTailDrop_rrPtr (s : State) (l : Link) (k : Class) : (s.countTailDrop l k).rrPtr = s.rrPtr := by simp [State.countTailDrop]
@[simp] theorem countTailDrop_pool (s : State) (l : Link) (k : Class) : (s.countTailDrop l k).pool = s.pool := by simp [State.countTailDrop]
@[simp] theorem countTailDrop_tables (s : State) (l : Link) (k : Class) : (s.countTailDrop l k).tables = s.tables := by simp [State.countTailDrop]
@[simp] theorem countTailDrop_params (s : State) (l : Link) (k : Class) : (s.countTailDrop l k).params = s.params := by simp [State.countTailDrop]
@[simp] theorem countTailDrop_monitor (s : State) (l : Link) (k : Class) : (s.countTailDrop l k).monitor = s.monitor := by simp [State.countTailDrop]
@[simp] theorem countTailDrop_flow (s : State) (l : Link) (k : Class) : (s.countTailDrop l k).flow = s.flow := by simp [State.countTailDrop]
@[simp] theorem countTailDrop_epoch (s : State) (l : Link) (k : Class) : (s.countTailDrop l k).epoch = s.epoch := by simp [State.countTailDrop]
@[simp] theorem countTailDrop_agent (s : State) (l : Link) (k : Class) : (s.countTailDrop l k).agent = s.agent := by simp [State.countTailDrop]
@[simp] theorem countTailDrop_op (s : State) (l : Link) (k : Class) : (s.countTailDrop l k).op = s.op := by simp [State.countTailDrop]
@[simp] theorem countTailDrop_scrub (s : State) (l : Link) (k : Class) : (s.countTailDrop l k).scrub = s.scrub := by simp [State.countTailDrop]
@[simp] theorem countTailDrop_attn (s : State) (l : Link) (k : Class) : (s.countTailDrop l k).attn = s.attn := by simp [State.countTailDrop]
@[simp] theorem countTailDrop_globals (s : State) (l : Link) (k : Class) : (s.countTailDrop l k).globals = s.globals := by simp [State.countTailDrop]
@[simp] theorem countTailDrop_freeCtr (s : State) (l : Link) (k : Class) : (s.countTailDrop l k).freeCtr = s.freeCtr := by simp [State.countTailDrop]
@[simp] theorem countTailDrop_pending (s : State) (l : Link) (k : Class) : (s.countTailDrop l k).pending = s.pending := by simp [State.countTailDrop]

@[simp] theorem offerMiss_rstN (s : State) (group : Nat) (l : Link) : (s.offerMiss group l).rstN = s.rstN := by unfold State.offerMiss; (repeat' split) <;> simp
@[simp] theorem offerMiss_straps (s : State) (group : Nat) (l : Link) : (s.offerMiss group l).straps = s.straps := by unfold State.offerMiss; (repeat' split) <;> simp
@[simp] theorem offerMiss_queues (s : State) (group : Nat) (l : Link) : (s.offerMiss group l).queues = s.queues := by unfold State.offerMiss; (repeat' split) <;> simp
@[simp] theorem offerMiss_rrPtr (s : State) (group : Nat) (l : Link) : (s.offerMiss group l).rrPtr = s.rrPtr := by unfold State.offerMiss; (repeat' split) <;> simp
@[simp] theorem offerMiss_pool (s : State) (group : Nat) (l : Link) : (s.offerMiss group l).pool = s.pool := by unfold State.offerMiss; (repeat' split) <;> simp
@[simp] theorem offerMiss_tables (s : State) (group : Nat) (l : Link) : (s.offerMiss group l).tables = s.tables := by unfold State.offerMiss; (repeat' split) <;> simp
@[simp] theorem offerMiss_params (s : State) (group : Nat) (l : Link) : (s.offerMiss group l).params = s.params := by unfold State.offerMiss; (repeat' split) <;> simp
@[simp] theorem offerMiss_monitor (s : State) (group : Nat) (l : Link) : (s.offerMiss group l).monitor = s.monitor := by unfold State.offerMiss; (repeat' split) <;> simp
@[simp] theorem offerMiss_flow (s : State) (group : Nat) (l : Link) : (s.offerMiss group l).flow = s.flow := by unfold State.offerMiss; (repeat' split) <;> simp
@[simp] theorem offerMiss_epoch (s : State) (group : Nat) (l : Link) : (s.offerMiss group l).epoch = s.epoch := by unfold State.offerMiss; (repeat' split) <;> simp
@[simp] theorem offerMiss_agent (s : State) (group : Nat) (l : Link) : (s.offerMiss group l).agent = s.agent := by unfold State.offerMiss; (repeat' split) <;> simp
@[simp] theorem offerMiss_op (s : State) (group : Nat) (l : Link) : (s.offerMiss group l).op = s.op := by unfold State.offerMiss; (repeat' split) <;> simp
@[simp] theorem offerMiss_scrub (s : State) (group : Nat) (l : Link) : (s.offerMiss group l).scrub = s.scrub := by unfold State.offerMiss; (repeat' split) <;> simp
@[simp] theorem offerMiss_globals (s : State) (group : Nat) (l : Link) : (s.offerMiss group l).globals = s.globals := by unfold State.offerMiss; (repeat' split) <;> simp
@[simp] theorem offerMiss_freeCtr (s : State) (group : Nat) (l : Link) : (s.offerMiss group l).freeCtr = s.freeCtr := by unfold State.offerMiss; (repeat' split) <;> simp
@[simp] theorem offerMiss_pending (s : State) (group : Nat) (l : Link) : (s.offerMiss group l).pending = s.pending := by unfold State.offerMiss; (repeat' split) <;> simp

@[simp] theorem groupMiss_rstN (s : State) (ingress : Link) (group : Nat) : (s.groupMiss ingress group).rstN = s.rstN := by simp [State.groupMiss]
@[simp] theorem groupMiss_straps (s : State) (ingress : Link) (group : Nat) : (s.groupMiss ingress group).straps = s.straps := by simp [State.groupMiss]
@[simp] theorem groupMiss_queues (s : State) (ingress : Link) (group : Nat) : (s.groupMiss ingress group).queues = s.queues := by simp [State.groupMiss]
@[simp] theorem groupMiss_rrPtr (s : State) (ingress : Link) (group : Nat) : (s.groupMiss ingress group).rrPtr = s.rrPtr := by simp [State.groupMiss]
@[simp] theorem groupMiss_pool (s : State) (ingress : Link) (group : Nat) : (s.groupMiss ingress group).pool = s.pool := by simp [State.groupMiss]
@[simp] theorem groupMiss_tables (s : State) (ingress : Link) (group : Nat) : (s.groupMiss ingress group).tables = s.tables := by simp [State.groupMiss]
@[simp] theorem groupMiss_params (s : State) (ingress : Link) (group : Nat) : (s.groupMiss ingress group).params = s.params := by simp [State.groupMiss]
@[simp] theorem groupMiss_monitor (s : State) (ingress : Link) (group : Nat) : (s.groupMiss ingress group).monitor = s.monitor := by simp [State.groupMiss]
@[simp] theorem groupMiss_flow (s : State) (ingress : Link) (group : Nat) : (s.groupMiss ingress group).flow = s.flow := by simp [State.groupMiss]
@[simp] theorem groupMiss_epoch (s : State) (ingress : Link) (group : Nat) : (s.groupMiss ingress group).epoch = s.epoch := by simp [State.groupMiss]
@[simp] theorem groupMiss_agent (s : State) (ingress : Link) (group : Nat) : (s.groupMiss ingress group).agent = s.agent := by simp [State.groupMiss]
@[simp] theorem groupMiss_op (s : State) (ingress : Link) (group : Nat) : (s.groupMiss ingress group).op = s.op := by simp [State.groupMiss]
@[simp] theorem groupMiss_scrub (s : State) (ingress : Link) (group : Nat) : (s.groupMiss ingress group).scrub = s.scrub := by simp [State.groupMiss]
@[simp] theorem groupMiss_globals (s : State) (ingress : Link) (group : Nat) : (s.groupMiss ingress group).globals = s.globals := by simp [State.groupMiss]
@[simp] theorem groupMiss_freeCtr (s : State) (ingress : Link) (group : Nat) : (s.groupMiss ingress group).freeCtr = s.freeCtr := by simp [State.groupMiss]
@[simp] theorem groupMiss_pending (s : State) (ingress : Link) (group : Nat) : (s.groupMiss ingress group).pending = s.pending := by simp [State.groupMiss]

@[simp] theorem foldl_countTailDrop_rstN (s : State) (ms : List Link) (k : Class) :
    (ms.foldl (fun acc mem => acc.countTailDrop mem k) s).rstN = s.rstN := by
  induction ms generalizing s with
  | nil => rfl
  | cons m rest ih => simp [ih]
@[simp] theorem foldl_enqueue_rstN (s : State) (ms : List Link) (k : Class) (e : QueueEntry) :
    (ms.foldl (fun acc l => acc.enqueue (queueId l k) e) s).rstN = s.rstN := by
  induction ms generalizing s with
  | nil => rfl
  | cons m rest ih => simp [ih]
@[simp] theorem foldl_countTailDrop_straps (s : State) (ms : List Link) (k : Class) :
    (ms.foldl (fun acc mem => acc.countTailDrop mem k) s).straps = s.straps := by
  induction ms generalizing s with
  | nil => rfl
  | cons m rest ih => simp [ih]
@[simp] theorem foldl_enqueue_straps (s : State) (ms : List Link) (k : Class) (e : QueueEntry) :
    (ms.foldl (fun acc l => acc.enqueue (queueId l k) e) s).straps = s.straps := by
  induction ms generalizing s with
  | nil => rfl
  | cons m rest ih => simp [ih]
@[simp] theorem foldl_countTailDrop_links (s : State) (ms : List Link) (k : Class) :
    (ms.foldl (fun acc mem => acc.countTailDrop mem k) s).links = s.links := by
  induction ms generalizing s with
  | nil => rfl
  | cons m rest ih => simp [ih]
@[simp] theorem foldl_enqueue_links (s : State) (ms : List Link) (k : Class) (e : QueueEntry) :
    (ms.foldl (fun acc l => acc.enqueue (queueId l k) e) s).links = s.links := by
  induction ms generalizing s with
  | nil => rfl
  | cons m rest ih => simp [ih]
@[simp] theorem foldl_countTailDrop_rrPtr (s : State) (ms : List Link) (k : Class) :
    (ms.foldl (fun acc mem => acc.countTailDrop mem k) s).rrPtr = s.rrPtr := by
  induction ms generalizing s with
  | nil => rfl
  | cons m rest ih => simp [ih]
@[simp] theorem foldl_enqueue_rrPtr (s : State) (ms : List Link) (k : Class) (e : QueueEntry) :
    (ms.foldl (fun acc l => acc.enqueue (queueId l k) e) s).rrPtr = s.rrPtr := by
  induction ms generalizing s with
  | nil => rfl
  | cons m rest ih => simp [ih]
@[simp] theorem foldl_countTailDrop_pool (s : State) (ms : List Link) (k : Class) :
    (ms.foldl (fun acc mem => acc.countTailDrop mem k) s).pool = s.pool := by
  induction ms generalizing s with
  | nil => rfl
  | cons m rest ih => simp [ih]
@[simp] theorem foldl_enqueue_pool (s : State) (ms : List Link) (k : Class) (e : QueueEntry) :
    (ms.foldl (fun acc l => acc.enqueue (queueId l k) e) s).pool = s.pool := by
  induction ms generalizing s with
  | nil => rfl
  | cons m rest ih => simp [ih]
@[simp] theorem foldl_countTailDrop_tables (s : State) (ms : List Link) (k : Class) :
    (ms.foldl (fun acc mem => acc.countTailDrop mem k) s).tables = s.tables := by
  induction ms generalizing s with
  | nil => rfl
  | cons m rest ih => simp [ih]
@[simp] theorem foldl_enqueue_tables (s : State) (ms : List Link) (k : Class) (e : QueueEntry) :
    (ms.foldl (fun acc l => acc.enqueue (queueId l k) e) s).tables = s.tables := by
  induction ms generalizing s with
  | nil => rfl
  | cons m rest ih => simp [ih]
@[simp] theorem foldl_countTailDrop_params (s : State) (ms : List Link) (k : Class) :
    (ms.foldl (fun acc mem => acc.countTailDrop mem k) s).params = s.params := by
  induction ms generalizing s with
  | nil => rfl
  | cons m rest ih => simp [ih]
@[simp] theorem foldl_enqueue_params (s : State) (ms : List Link) (k : Class) (e : QueueEntry) :
    (ms.foldl (fun acc l => acc.enqueue (queueId l k) e) s).params = s.params := by
  induction ms generalizing s with
  | nil => rfl
  | cons m rest ih => simp [ih]
@[simp] theorem foldl_countTailDrop_monitor (s : State) (ms : List Link) (k : Class) :
    (ms.foldl (fun acc mem => acc.countTailDrop mem k) s).monitor = s.monitor := by
  induction ms generalizing s with
  | nil => rfl
  | cons m rest ih => simp [ih]
@[simp] theorem foldl_enqueue_monitor (s : State) (ms : List Link) (k : Class) (e : QueueEntry) :
    (ms.foldl (fun acc l => acc.enqueue (queueId l k) e) s).monitor = s.monitor := by
  induction ms generalizing s with
  | nil => rfl
  | cons m rest ih => simp [ih]
@[simp] theorem foldl_countTailDrop_flow (s : State) (ms : List Link) (k : Class) :
    (ms.foldl (fun acc mem => acc.countTailDrop mem k) s).flow = s.flow := by
  induction ms generalizing s with
  | nil => rfl
  | cons m rest ih => simp [ih]
@[simp] theorem foldl_enqueue_flow (s : State) (ms : List Link) (k : Class) (e : QueueEntry) :
    (ms.foldl (fun acc l => acc.enqueue (queueId l k) e) s).flow = s.flow := by
  induction ms generalizing s with
  | nil => rfl
  | cons m rest ih => simp [ih]
@[simp] theorem foldl_countTailDrop_epoch (s : State) (ms : List Link) (k : Class) :
    (ms.foldl (fun acc mem => acc.countTailDrop mem k) s).epoch = s.epoch := by
  induction ms generalizing s with
  | nil => rfl
  | cons m rest ih => simp [ih]
@[simp] theorem foldl_enqueue_epoch (s : State) (ms : List Link) (k : Class) (e : QueueEntry) :
    (ms.foldl (fun acc l => acc.enqueue (queueId l k) e) s).epoch = s.epoch := by
  induction ms generalizing s with
  | nil => rfl
  | cons m rest ih => simp [ih]
@[simp] theorem foldl_countTailDrop_agent (s : State) (ms : List Link) (k : Class) :
    (ms.foldl (fun acc mem => acc.countTailDrop mem k) s).agent = s.agent := by
  induction ms generalizing s with
  | nil => rfl
  | cons m rest ih => simp [ih]
@[simp] theorem foldl_enqueue_agent (s : State) (ms : List Link) (k : Class) (e : QueueEntry) :
    (ms.foldl (fun acc l => acc.enqueue (queueId l k) e) s).agent = s.agent := by
  induction ms generalizing s with
  | nil => rfl
  | cons m rest ih => simp [ih]
@[simp] theorem foldl_countTailDrop_op (s : State) (ms : List Link) (k : Class) :
    (ms.foldl (fun acc mem => acc.countTailDrop mem k) s).op = s.op := by
  induction ms generalizing s with
  | nil => rfl
  | cons m rest ih => simp [ih]
@[simp] theorem foldl_enqueue_op (s : State) (ms : List Link) (k : Class) (e : QueueEntry) :
    (ms.foldl (fun acc l => acc.enqueue (queueId l k) e) s).op = s.op := by
  induction ms generalizing s with
  | nil => rfl
  | cons m rest ih => simp [ih]
@[simp] theorem foldl_countTailDrop_scrub (s : State) (ms : List Link) (k : Class) :
    (ms.foldl (fun acc mem => acc.countTailDrop mem k) s).scrub = s.scrub := by
  induction ms generalizing s with
  | nil => rfl
  | cons m rest ih => simp [ih]
@[simp] theorem foldl_enqueue_scrub (s : State) (ms : List Link) (k : Class) (e : QueueEntry) :
    (ms.foldl (fun acc l => acc.enqueue (queueId l k) e) s).scrub = s.scrub := by
  induction ms generalizing s with
  | nil => rfl
  | cons m rest ih => simp [ih]
@[simp] theorem foldl_countTailDrop_attn (s : State) (ms : List Link) (k : Class) :
    (ms.foldl (fun acc mem => acc.countTailDrop mem k) s).attn = s.attn := by
  induction ms generalizing s with
  | nil => rfl
  | cons m rest ih => simp [ih]
@[simp] theorem foldl_enqueue_attn (s : State) (ms : List Link) (k : Class) (e : QueueEntry) :
    (ms.foldl (fun acc l => acc.enqueue (queueId l k) e) s).attn = s.attn := by
  induction ms generalizing s with
  | nil => rfl
  | cons m rest ih => simp [ih]
@[simp] theorem foldl_countTailDrop_globals (s : State) (ms : List Link) (k : Class) :
    (ms.foldl (fun acc mem => acc.countTailDrop mem k) s).globals = s.globals := by
  induction ms generalizing s with
  | nil => rfl
  | cons m rest ih => simp [ih]
@[simp] theorem foldl_enqueue_globals (s : State) (ms : List Link) (k : Class) (e : QueueEntry) :
    (ms.foldl (fun acc l => acc.enqueue (queueId l k) e) s).globals = s.globals := by
  induction ms generalizing s with
  | nil => rfl
  | cons m rest ih => simp [ih]
@[simp] theorem foldl_countTailDrop_freeCtr (s : State) (ms : List Link) (k : Class) :
    (ms.foldl (fun acc mem => acc.countTailDrop mem k) s).freeCtr = s.freeCtr := by
  induction ms generalizing s with
  | nil => rfl
  | cons m rest ih => simp [ih]
@[simp] theorem foldl_enqueue_freeCtr (s : State) (ms : List Link) (k : Class) (e : QueueEntry) :
    (ms.foldl (fun acc l => acc.enqueue (queueId l k) e) s).freeCtr = s.freeCtr := by
  induction ms generalizing s with
  | nil => rfl
  | cons m rest ih => simp [ih]
@[simp] theorem foldl_countTailDrop_pending (s : State) (ms : List Link) (k : Class) :
    (ms.foldl (fun acc mem => acc.countTailDrop mem k) s).pending = s.pending := by
  induction ms generalizing s with
  | nil => rfl
  | cons m rest ih => simp [ih]
@[simp] theorem foldl_enqueue_pending (s : State) (ms : List Link) (k : Class) (e : QueueEntry) :
    (ms.foldl (fun acc l => acc.enqueue (queueId l k) e) s).pending = s.pending := by
  induction ms generalizing s with
  | nil => rfl
  | cons m rest ih => simp [ih]

theorem allocate_rstN (s t : State) (cell : Cell) (n : Nat) (h : Handle) (ha : s.allocate cell n = some (h, t)) : t.rstN = s.rstN := by
  unfold State.allocate at ha
  split at ha
  · cases ha
  · simp only [Option.some.injEq, Prod.mk.injEq] at ha
    obtain ⟨-, rfl⟩ := ha
    split <;> simp
theorem allocate_straps (s t : State) (cell : Cell) (n : Nat) (h : Handle) (ha : s.allocate cell n = some (h, t)) : t.straps = s.straps := by
  unfold State.allocate at ha
  split at ha
  · cases ha
  · simp only [Option.some.injEq, Prod.mk.injEq] at ha
    obtain ⟨-, rfl⟩ := ha
    split <;> simp
theorem allocate_queues (s t : State) (cell : Cell) (n : Nat) (h : Handle) (ha : s.allocate cell n = some (h, t)) : t.queues = s.queues := by
  unfold State.allocate at ha
  split at ha
  · cases ha
  · simp only [Option.some.injEq, Prod.mk.injEq] at ha
    obtain ⟨-, rfl⟩ := ha
    split <;> simp
theorem allocate_rrPtr (s t : State) (cell : Cell) (n : Nat) (h : Handle) (ha : s.allocate cell n = some (h, t)) : t.rrPtr = s.rrPtr := by
  unfold State.allocate at ha
  split at ha
  · cases ha
  · simp only [Option.some.injEq, Prod.mk.injEq] at ha
    obtain ⟨-, rfl⟩ := ha
    split <;> simp
theorem allocate_tables (s t : State) (cell : Cell) (n : Nat) (h : Handle) (ha : s.allocate cell n = some (h, t)) : t.tables = s.tables := by
  unfold State.allocate at ha
  split at ha
  · cases ha
  · simp only [Option.some.injEq, Prod.mk.injEq] at ha
    obtain ⟨-, rfl⟩ := ha
    split <;> simp
theorem allocate_params (s t : State) (cell : Cell) (n : Nat) (h : Handle) (ha : s.allocate cell n = some (h, t)) : t.params = s.params := by
  unfold State.allocate at ha
  split at ha
  · cases ha
  · simp only [Option.some.injEq, Prod.mk.injEq] at ha
    obtain ⟨-, rfl⟩ := ha
    split <;> simp
theorem allocate_monitor (s t : State) (cell : Cell) (n : Nat) (h : Handle) (ha : s.allocate cell n = some (h, t)) : t.monitor = s.monitor := by
  unfold State.allocate at ha
  split at ha
  · cases ha
  · simp only [Option.some.injEq, Prod.mk.injEq] at ha
    obtain ⟨-, rfl⟩ := ha
    split <;> simp
theorem allocate_flow (s t : State) (cell : Cell) (n : Nat) (h : Handle) (ha : s.allocate cell n = some (h, t)) : t.flow = s.flow := by
  unfold State.allocate at ha
  split at ha
  · cases ha
  · simp only [Option.some.injEq, Prod.mk.injEq] at ha
    obtain ⟨-, rfl⟩ := ha
    split <;> simp
theorem allocate_epoch (s t : State) (cell : Cell) (n : Nat) (h : Handle) (ha : s.allocate cell n = some (h, t)) : t.epoch = s.epoch := by
  unfold State.allocate at ha
  split at ha
  · cases ha
  · simp only [Option.some.injEq, Prod.mk.injEq] at ha
    obtain ⟨-, rfl⟩ := ha
    split <;> simp
theorem allocate_agent (s t : State) (cell : Cell) (n : Nat) (h : Handle) (ha : s.allocate cell n = some (h, t)) : t.agent = s.agent := by
  unfold State.allocate at ha
  split at ha
  · cases ha
  · simp only [Option.some.injEq, Prod.mk.injEq] at ha
    obtain ⟨-, rfl⟩ := ha
    split <;> simp
theorem allocate_op (s t : State) (cell : Cell) (n : Nat) (h : Handle) (ha : s.allocate cell n = some (h, t)) : t.op = s.op := by
  unfold State.allocate at ha
  split at ha
  · cases ha
  · simp only [Option.some.injEq, Prod.mk.injEq] at ha
    obtain ⟨-, rfl⟩ := ha
    split <;> simp
theorem allocate_scrub (s t : State) (cell : Cell) (n : Nat) (h : Handle) (ha : s.allocate cell n = some (h, t)) : t.scrub = s.scrub := by
  unfold State.allocate at ha
  split at ha
  · cases ha
  · simp only [Option.some.injEq, Prod.mk.injEq] at ha
    obtain ⟨-, rfl⟩ := ha
    split <;> simp
theorem allocate_globals (s t : State) (cell : Cell) (n : Nat) (h : Handle) (ha : s.allocate cell n = some (h, t)) : t.globals = s.globals := by
  unfold State.allocate at ha
  split at ha
  · cases ha
  · simp only [Option.some.injEq, Prod.mk.injEq] at ha
    obtain ⟨-, rfl⟩ := ha
    split <;> simp
theorem allocate_freeCtr (s t : State) (cell : Cell) (n : Nat) (h : Handle) (ha : s.allocate cell n = some (h, t)) : t.freeCtr = s.freeCtr := by
  unfold State.allocate at ha
  split at ha
  · cases ha
  · simp only [Option.some.injEq, Prod.mk.injEq] at ha
    obtain ⟨-, rfl⟩ := ha
    split <;> simp
theorem allocate_pending (s t : State) (cell : Cell) (n : Nat) (h : Handle) (ha : s.allocate cell n = some (h, t)) : t.pending = s.pending := by
  unfold State.allocate at ha
  split at ha
  · cases ha
  · simp only [Option.some.injEq, Prod.mk.injEq] at ha
    obtain ⟨-, rfl⟩ := ha
    split <;> simp

@[simp] theorem writeRange_rstN (s : State) (b : Bank) (first count : Nat) (e : Nat → EntryFields) :
    (s.writeRange b first count e).rstN = s.rstN := by
  unfold State.writeRange
  induction (List.range count) generalizing s with
  | nil => rfl
  | cons k rest ih => simp [ih]
@[simp] theorem writeRange_straps (s : State) (b : Bank) (first count : Nat) (e : Nat → EntryFields) :
    (s.writeRange b first count e).straps = s.straps := by
  unfold State.writeRange
  induction (List.range count) generalizing s with
  | nil => rfl
  | cons k rest ih => simp [ih]
@[simp] theorem writeRange_links (s : State) (b : Bank) (first count : Nat) (e : Nat → EntryFields) :
    (s.writeRange b first count e).links = s.links := by
  unfold State.writeRange
  induction (List.range count) generalizing s with
  | nil => rfl
  | cons k rest ih => simp [ih]
@[simp] theorem writeRange_queues (s : State) (b : Bank) (first count : Nat) (e : Nat → EntryFields) :
    (s.writeRange b first count e).queues = s.queues := by
  unfold State.writeRange
  induction (List.range count) generalizing s with
  | nil => rfl
  | cons k rest ih => simp [ih]
@[simp] theorem writeRange_rrPtr (s : State) (b : Bank) (first count : Nat) (e : Nat → EntryFields) :
    (s.writeRange b first count e).rrPtr = s.rrPtr := by
  unfold State.writeRange
  induction (List.range count) generalizing s with
  | nil => rfl
  | cons k rest ih => simp [ih]
@[simp] theorem writeRange_pool (s : State) (b : Bank) (first count : Nat) (e : Nat → EntryFields) :
    (s.writeRange b first count e).pool = s.pool := by
  unfold State.writeRange
  induction (List.range count) generalizing s with
  | nil => rfl
  | cons k rest ih => simp [ih]
@[simp] theorem writeRange_params (s : State) (b : Bank) (first count : Nat) (e : Nat → EntryFields) :
    (s.writeRange b first count e).params = s.params := by
  unfold State.writeRange
  induction (List.range count) generalizing s with
  | nil => rfl
  | cons k rest ih => simp [ih]
@[simp] theorem writeRange_monitor (s : State) (b : Bank) (first count : Nat) (e : Nat → EntryFields) :
    (s.writeRange b first count e).monitor = s.monitor := by
  unfold State.writeRange
  induction (List.range count) generalizing s with
  | nil => rfl
  | cons k rest ih => simp [ih]
@[simp] theorem writeRange_flow (s : State) (b : Bank) (first count : Nat) (e : Nat → EntryFields) :
    (s.writeRange b first count e).flow = s.flow := by
  unfold State.writeRange
  induction (List.range count) generalizing s with
  | nil => rfl
  | cons k rest ih => simp [ih]
@[simp] theorem writeRange_epoch (s : State) (b : Bank) (first count : Nat) (e : Nat → EntryFields) :
    (s.writeRange b first count e).epoch = s.epoch := by
  unfold State.writeRange
  induction (List.range count) generalizing s with
  | nil => rfl
  | cons k rest ih => simp [ih]
@[simp] theorem writeRange_agent (s : State) (b : Bank) (first count : Nat) (e : Nat → EntryFields) :
    (s.writeRange b first count e).agent = s.agent := by
  unfold State.writeRange
  induction (List.range count) generalizing s with
  | nil => rfl
  | cons k rest ih => simp [ih]
@[simp] theorem writeRange_op (s : State) (b : Bank) (first count : Nat) (e : Nat → EntryFields) :
    (s.writeRange b first count e).op = s.op := by
  unfold State.writeRange
  induction (List.range count) generalizing s with
  | nil => rfl
  | cons k rest ih => simp [ih]
@[simp] theorem writeRange_scrub (s : State) (b : Bank) (first count : Nat) (e : Nat → EntryFields) :
    (s.writeRange b first count e).scrub = s.scrub := by
  unfold State.writeRange
  induction (List.range count) generalizing s with
  | nil => rfl
  | cons k rest ih => simp [ih]
@[simp] theorem writeRange_attn (s : State) (b : Bank) (first count : Nat) (e : Nat → EntryFields) :
    (s.writeRange b first count e).attn = s.attn := by
  unfold State.writeRange
  induction (List.range count) generalizing s with
  | nil => rfl
  | cons k rest ih => simp [ih]
@[simp] theorem writeRange_globals (s : State) (b : Bank) (first count : Nat) (e : Nat → EntryFields) :
    (s.writeRange b first count e).globals = s.globals := by
  unfold State.writeRange
  induction (List.range count) generalizing s with
  | nil => rfl
  | cons k rest ih => simp [ih]
@[simp] theorem writeRange_freeCtr (s : State) (b : Bank) (first count : Nat) (e : Nat → EntryFields) :
    (s.writeRange b first count e).freeCtr = s.freeCtr := by
  unfold State.writeRange
  induction (List.range count) generalizing s with
  | nil => rfl
  | cons k rest ih => simp [ih]
@[simp] theorem writeRange_pending (s : State) (b : Bank) (first count : Nat) (e : Nat → EntryFields) :
    (s.writeRange b first count e).pending = s.pending := by
  unfold State.writeRange
  induction (List.range count) generalizing s with
  | nil => rfl
  | cons k rest ih => simp [ih]

@[simp] theorem storeCell_rstN (s : State) (cell : Cell) (k : Class) (members : List Link) : (s.storeCell cell k members).rstN = s.rstN := by
  unfold State.storeCell
  split
  · rfl
  · rename_i ha; simp [allocate_rstN _ _ _ _ _ ha]
@[simp] theorem storeCell_straps (s : State) (cell : Cell) (k : Class) (members : List Link) : (s.storeCell cell k members).straps = s.straps := by
  unfold State.storeCell
  split
  · rfl
  · rename_i ha; simp [allocate_straps _ _ _ _ _ ha]
@[simp] theorem storeCell_rrPtr (s : State) (cell : Cell) (k : Class) (members : List Link) : (s.storeCell cell k members).rrPtr = s.rrPtr := by
  unfold State.storeCell
  split
  · rfl
  · rename_i ha; simp [allocate_rrPtr _ _ _ _ _ ha]
@[simp] theorem storeCell_tables (s : State) (cell : Cell) (k : Class) (members : List Link) : (s.storeCell cell k members).tables = s.tables := by
  unfold State.storeCell
  split
  · rfl
  · rename_i ha; simp [allocate_tables _ _ _ _ _ ha]
@[simp] theorem storeCell_params (s : State) (cell : Cell) (k : Class) (members : List Link) : (s.storeCell cell k members).params = s.params := by
  unfold State.storeCell
  split
  · rfl
  · rename_i ha; simp [allocate_params _ _ _ _ _ ha]
@[simp] theorem storeCell_monitor (s : State) (cell : Cell) (k : Class) (members : List Link) : (s.storeCell cell k members).monitor = s.monitor := by
  unfold State.storeCell
  split
  · rfl
  · rename_i ha; simp [allocate_monitor _ _ _ _ _ ha]
@[simp] theorem storeCell_flow (s : State) (cell : Cell) (k : Class) (members : List Link) : (s.storeCell cell k members).flow = s.flow := by
  unfold State.storeCell
  split
  · rfl
  · rename_i ha; simp [allocate_flow _ _ _ _ _ ha]
@[simp] theorem storeCell_epoch (s : State) (cell : Cell) (k : Class) (members : List Link) : (s.storeCell cell k members).epoch = s.epoch := by
  unfold State.storeCell
  split
  · rfl
  · rename_i ha; simp [allocate_epoch _ _ _ _ _ ha]
@[simp] theorem storeCell_agent (s : State) (cell : Cell) (k : Class) (members : List Link) : (s.storeCell cell k members).agent = s.agent := by
  unfold State.storeCell
  split
  · rfl
  · rename_i ha; simp [allocate_agent _ _ _ _ _ ha]
@[simp] theorem storeCell_op (s : State) (cell : Cell) (k : Class) (members : List Link) : (s.storeCell cell k members).op = s.op := by
  unfold State.storeCell
  split
  · rfl
  · rename_i ha; simp [allocate_op _ _ _ _ _ ha]
@[simp] theorem storeCell_scrub (s : State) (cell : Cell) (k : Class) (members : List Link) : (s.storeCell cell k members).scrub = s.scrub := by
  unfold State.storeCell
  split
  · rfl
  · rename_i ha; simp [allocate_scrub _ _ _ _ _ ha]
@[simp] theorem storeCell_globals (s : State) (cell : Cell) (k : Class) (members : List Link) : (s.storeCell cell k members).globals = s.globals := by
  unfold State.storeCell
  split
  · rfl
  · rename_i ha; simp [allocate_globals _ _ _ _ _ ha]
@[simp] theorem storeCell_freeCtr (s : State) (cell : Cell) (k : Class) (members : List Link) : (s.storeCell cell k members).freeCtr = s.freeCtr := by
  unfold State.storeCell
  split
  · rfl
  · rename_i ha; simp [allocate_freeCtr _ _ _ _ _ ha]
@[simp] theorem storeCell_pending (s : State) (cell : Cell) (k : Class) (members : List Link) : (s.storeCell cell k members).pending = s.pending := by
  unfold State.storeCell
  split
  · rfl
  · rename_i ha; simp [allocate_pending _ _ _ _ _ ha]

@[simp] theorem admitUnicast_rstN (s : State) (ingress : Link) (cell : Cell) (l : Link) : (s.admitUnicast ingress cell l).rstN = s.rstN := by unfold State.admitUnicast; dsimp only; (repeat' split) <;> simp
@[simp] theorem admitUnicast_straps (s : State) (ingress : Link) (cell : Cell) (l : Link) : (s.admitUnicast ingress cell l).straps = s.straps := by unfold State.admitUnicast; dsimp only; (repeat' split) <;> simp
@[simp] theorem admitUnicast_rrPtr (s : State) (ingress : Link) (cell : Cell) (l : Link) : (s.admitUnicast ingress cell l).rrPtr = s.rrPtr := by unfold State.admitUnicast; dsimp only; (repeat' split) <;> simp
@[simp] theorem admitUnicast_tables (s : State) (ingress : Link) (cell : Cell) (l : Link) : (s.admitUnicast ingress cell l).tables = s.tables := by unfold State.admitUnicast; dsimp only; (repeat' split) <;> simp
@[simp] theorem admitUnicast_params (s : State) (ingress : Link) (cell : Cell) (l : Link) : (s.admitUnicast ingress cell l).params = s.params := by unfold State.admitUnicast; dsimp only; (repeat' split) <;> simp
@[simp] theorem admitUnicast_monitor (s : State) (ingress : Link) (cell : Cell) (l : Link) : (s.admitUnicast ingress cell l).monitor = s.monitor := by unfold State.admitUnicast; dsimp only; (repeat' split) <;> simp
@[simp] theorem admitUnicast_flow (s : State) (ingress : Link) (cell : Cell) (l : Link) : (s.admitUnicast ingress cell l).flow = s.flow := by unfold State.admitUnicast; dsimp only; (repeat' split) <;> simp
@[simp] theorem admitUnicast_epoch (s : State) (ingress : Link) (cell : Cell) (l : Link) : (s.admitUnicast ingress cell l).epoch = s.epoch := by unfold State.admitUnicast; dsimp only; (repeat' split) <;> simp
@[simp] theorem admitUnicast_agent (s : State) (ingress : Link) (cell : Cell) (l : Link) : (s.admitUnicast ingress cell l).agent = s.agent := by unfold State.admitUnicast; dsimp only; (repeat' split) <;> simp
@[simp] theorem admitUnicast_op (s : State) (ingress : Link) (cell : Cell) (l : Link) : (s.admitUnicast ingress cell l).op = s.op := by unfold State.admitUnicast; dsimp only; (repeat' split) <;> simp
@[simp] theorem admitUnicast_scrub (s : State) (ingress : Link) (cell : Cell) (l : Link) : (s.admitUnicast ingress cell l).scrub = s.scrub := by unfold State.admitUnicast; dsimp only; (repeat' split) <;> simp
@[simp] theorem admitUnicast_globals (s : State) (ingress : Link) (cell : Cell) (l : Link) : (s.admitUnicast ingress cell l).globals = s.globals := by unfold State.admitUnicast; dsimp only; (repeat' split) <;> simp
@[simp] theorem admitUnicast_freeCtr (s : State) (ingress : Link) (cell : Cell) (l : Link) : (s.admitUnicast ingress cell l).freeCtr = s.freeCtr := by unfold State.admitUnicast; dsimp only; (repeat' split) <;> simp
@[simp] theorem admitUnicast_pending (s : State) (ingress : Link) (cell : Cell) (l : Link) : (s.admitUnicast ingress cell l).pending = s.pending := by unfold State.admitUnicast; dsimp only; (repeat' split) <;> simp

@[simp] theorem routeLink_rstN (s : State) (d : Link) : (s.routeLink d).2.rstN = s.rstN := by unfold State.routeLink; split <;> simp
@[simp] theorem routeLink_straps (s : State) (d : Link) : (s.routeLink d).2.straps = s.straps := by unfold State.routeLink; split <;> simp
@[simp] theorem routeLink_links (s : State) (d : Link) : (s.routeLink d).2.links = s.links := by unfold State.routeLink; split <;> simp
@[simp] theorem routeLink_queues (s : State) (d : Link) : (s.routeLink d).2.queues = s.queues := by unfold State.routeLink; split <;> simp
@[simp] theorem routeLink_rrPtr (s : State) (d : Link) : (s.routeLink d).2.rrPtr = s.rrPtr := by unfold State.routeLink; split <;> simp
@[simp] theorem routeLink_pool (s : State) (d : Link) : (s.routeLink d).2.pool = s.pool := by unfold State.routeLink; split <;> simp
@[simp] theorem routeLink_tables (s : State) (d : Link) : (s.routeLink d).2.tables = s.tables := by unfold State.routeLink; split <;> simp
@[simp] theorem routeLink_params (s : State) (d : Link) : (s.routeLink d).2.params = s.params := by unfold State.routeLink; split <;> simp
@[simp] theorem routeLink_monitor (s : State) (d : Link) : (s.routeLink d).2.monitor = s.monitor := by unfold State.routeLink; split <;> simp
@[simp] theorem routeLink_flow (s : State) (d : Link) : (s.routeLink d).2.flow = s.flow := by unfold State.routeLink; split <;> simp
@[simp] theorem routeLink_epoch (s : State) (d : Link) : (s.routeLink d).2.epoch = s.epoch := by unfold State.routeLink; split <;> simp
@[simp] theorem routeLink_agent (s : State) (d : Link) : (s.routeLink d).2.agent = s.agent := by unfold State.routeLink; split <;> simp
@[simp] theorem routeLink_op (s : State) (d : Link) : (s.routeLink d).2.op = s.op := by unfold State.routeLink; split <;> simp
@[simp] theorem routeLink_scrub (s : State) (d : Link) : (s.routeLink d).2.scrub = s.scrub := by unfold State.routeLink; split <;> simp
@[simp] theorem routeLink_attn (s : State) (d : Link) : (s.routeLink d).2.attn = s.attn := by unfold State.routeLink; split <;> simp
@[simp] theorem routeLink_globals (s : State) (d : Link) : (s.routeLink d).2.globals = s.globals := by unfold State.routeLink; split <;> simp
@[simp] theorem routeLink_pending (s : State) (d : Link) : (s.routeLink d).2.pending = s.pending := by unfold State.routeLink; split <;> simp

@[simp] theorem routeUnicast_rstN (s : State) (ingress : Link) (cell : Cell) (d : Link) : (s.routeUnicast ingress cell d).rstN = s.rstN := by unfold State.routeUnicast; dsimp only; (repeat' split) <;> simp
@[simp] theorem routeUnicast_straps (s : State) (ingress : Link) (cell : Cell) (d : Link) : (s.routeUnicast ingress cell d).straps = s.straps := by unfold State.routeUnicast; dsimp only; (repeat' split) <;> simp
@[simp] theorem routeUnicast_rrPtr (s : State) (ingress : Link) (cell : Cell) (d : Link) : (s.routeUnicast ingress cell d).rrPtr = s.rrPtr := by unfold State.routeUnicast; dsimp only; (repeat' split) <;> simp
@[simp] theorem routeUnicast_tables (s : State) (ingress : Link) (cell : Cell) (d : Link) : (s.routeUnicast ingress cell d).tables = s.tables := by unfold State.routeUnicast; dsimp only; (repeat' split) <;> simp
@[simp] theorem routeUnicast_params (s : State) (ingress : Link) (cell : Cell) (d : Link) : (s.routeUnicast ingress cell d).params = s.params := by unfold State.routeUnicast; dsimp only; (repeat' split) <;> simp
@[simp] theorem routeUnicast_monitor (s : State) (ingress : Link) (cell : Cell) (d : Link) : (s.routeUnicast ingress cell d).monitor = s.monitor := by unfold State.routeUnicast; dsimp only; (repeat' split) <;> simp
@[simp] theorem routeUnicast_flow (s : State) (ingress : Link) (cell : Cell) (d : Link) : (s.routeUnicast ingress cell d).flow = s.flow := by unfold State.routeUnicast; dsimp only; (repeat' split) <;> simp
@[simp] theorem routeUnicast_epoch (s : State) (ingress : Link) (cell : Cell) (d : Link) : (s.routeUnicast ingress cell d).epoch = s.epoch := by unfold State.routeUnicast; dsimp only; (repeat' split) <;> simp
@[simp] theorem routeUnicast_agent (s : State) (ingress : Link) (cell : Cell) (d : Link) : (s.routeUnicast ingress cell d).agent = s.agent := by unfold State.routeUnicast; dsimp only; (repeat' split) <;> simp
@[simp] theorem routeUnicast_op (s : State) (ingress : Link) (cell : Cell) (d : Link) : (s.routeUnicast ingress cell d).op = s.op := by unfold State.routeUnicast; dsimp only; (repeat' split) <;> simp
@[simp] theorem routeUnicast_scrub (s : State) (ingress : Link) (cell : Cell) (d : Link) : (s.routeUnicast ingress cell d).scrub = s.scrub := by unfold State.routeUnicast; dsimp only; (repeat' split) <;> simp
@[simp] theorem routeUnicast_globals (s : State) (ingress : Link) (cell : Cell) (d : Link) : (s.routeUnicast ingress cell d).globals = s.globals := by unfold State.routeUnicast; dsimp only; (repeat' split) <;> simp
@[simp] theorem routeUnicast_pending (s : State) (ingress : Link) (cell : Cell) (d : Link) : (s.routeUnicast ingress cell d).pending = s.pending := by unfold State.routeUnicast; dsimp only; (repeat' split) <;> simp

@[simp] theorem unicast_rstN (s : State) (ingress : Link) (cell : Cell) : (s.unicast ingress cell).rstN = s.rstN := by unfold State.unicast; dsimp only; (repeat' split) <;> simp
@[simp] theorem unicast_straps (s : State) (ingress : Link) (cell : Cell) : (s.unicast ingress cell).straps = s.straps := by unfold State.unicast; dsimp only; (repeat' split) <;> simp
@[simp] theorem unicast_rrPtr (s : State) (ingress : Link) (cell : Cell) : (s.unicast ingress cell).rrPtr = s.rrPtr := by unfold State.unicast; dsimp only; (repeat' split) <;> simp
@[simp] theorem unicast_params (s : State) (ingress : Link) (cell : Cell) : (s.unicast ingress cell).params = s.params := by unfold State.unicast; dsimp only; (repeat' split) <;> simp
@[simp] theorem unicast_monitor (s : State) (ingress : Link) (cell : Cell) : (s.unicast ingress cell).monitor = s.monitor := by unfold State.unicast; dsimp only; (repeat' split) <;> simp
@[simp] theorem unicast_flow (s : State) (ingress : Link) (cell : Cell) : (s.unicast ingress cell).flow = s.flow := by unfold State.unicast; dsimp only; (repeat' split) <;> simp
@[simp] theorem unicast_epoch (s : State) (ingress : Link) (cell : Cell) : (s.unicast ingress cell).epoch = s.epoch := by unfold State.unicast; dsimp only; (repeat' split) <;> simp
@[simp] theorem unicast_agent (s : State) (ingress : Link) (cell : Cell) : (s.unicast ingress cell).agent = s.agent := by unfold State.unicast; dsimp only; (repeat' split) <;> simp
@[simp] theorem unicast_op (s : State) (ingress : Link) (cell : Cell) : (s.unicast ingress cell).op = s.op := by unfold State.unicast; dsimp only; (repeat' split) <;> simp
@[simp] theorem unicast_scrub (s : State) (ingress : Link) (cell : Cell) : (s.unicast ingress cell).scrub = s.scrub := by unfold State.unicast; dsimp only; (repeat' split) <;> simp
@[simp] theorem unicast_pending (s : State) (ingress : Link) (cell : Cell) : (s.unicast ingress cell).pending = s.pending := by unfold State.unicast; dsimp only; (repeat' split) <;> simp

@[simp] theorem walkMembers_rstN (s : State) (ingress : Link) (cell : Cell) (g : GroupFields) (k : Class) : (s.walkMembers ingress cell g k).rstN = s.rstN := by unfold State.walkMembers; dsimp only; (repeat' split) <;> simp
@[simp] theorem walkMembers_straps (s : State) (ingress : Link) (cell : Cell) (g : GroupFields) (k : Class) : (s.walkMembers ingress cell g k).straps = s.straps := by unfold State.walkMembers; dsimp only; (repeat' split) <;> simp
@[simp] theorem walkMembers_rrPtr (s : State) (ingress : Link) (cell : Cell) (g : GroupFields) (k : Class) : (s.walkMembers ingress cell g k).rrPtr = s.rrPtr := by unfold State.walkMembers; dsimp only; (repeat' split) <;> simp
@[simp] theorem walkMembers_tables (s : State) (ingress : Link) (cell : Cell) (g : GroupFields) (k : Class) : (s.walkMembers ingress cell g k).tables = s.tables := by unfold State.walkMembers; dsimp only; (repeat' split) <;> simp
@[simp] theorem walkMembers_params (s : State) (ingress : Link) (cell : Cell) (g : GroupFields) (k : Class) : (s.walkMembers ingress cell g k).params = s.params := by unfold State.walkMembers; dsimp only; (repeat' split) <;> simp
@[simp] theorem walkMembers_monitor (s : State) (ingress : Link) (cell : Cell) (g : GroupFields) (k : Class) : (s.walkMembers ingress cell g k).monitor = s.monitor := by unfold State.walkMembers; dsimp only; (repeat' split) <;> simp
@[simp] theorem walkMembers_flow (s : State) (ingress : Link) (cell : Cell) (g : GroupFields) (k : Class) : (s.walkMembers ingress cell g k).flow = s.flow := by unfold State.walkMembers; dsimp only; (repeat' split) <;> simp
@[simp] theorem walkMembers_epoch (s : State) (ingress : Link) (cell : Cell) (g : GroupFields) (k : Class) : (s.walkMembers ingress cell g k).epoch = s.epoch := by unfold State.walkMembers; dsimp only; (repeat' split) <;> simp
@[simp] theorem walkMembers_agent (s : State) (ingress : Link) (cell : Cell) (g : GroupFields) (k : Class) : (s.walkMembers ingress cell g k).agent = s.agent := by unfold State.walkMembers; dsimp only; (repeat' split) <;> simp
@[simp] theorem walkMembers_op (s : State) (ingress : Link) (cell : Cell) (g : GroupFields) (k : Class) : (s.walkMembers ingress cell g k).op = s.op := by unfold State.walkMembers; dsimp only; (repeat' split) <;> simp
@[simp] theorem walkMembers_scrub (s : State) (ingress : Link) (cell : Cell) (g : GroupFields) (k : Class) : (s.walkMembers ingress cell g k).scrub = s.scrub := by unfold State.walkMembers; dsimp only; (repeat' split) <;> simp
@[simp] theorem walkMembers_globals (s : State) (ingress : Link) (cell : Cell) (g : GroupFields) (k : Class) : (s.walkMembers ingress cell g k).globals = s.globals := by unfold State.walkMembers; dsimp only; (repeat' split) <;> simp
@[simp] theorem walkMembers_freeCtr (s : State) (ingress : Link) (cell : Cell) (g : GroupFields) (k : Class) : (s.walkMembers ingress cell g k).freeCtr = s.freeCtr := by unfold State.walkMembers; dsimp only; (repeat' split) <;> simp
@[simp] theorem walkMembers_pending (s : State) (ingress : Link) (cell : Cell) (g : GroupFields) (k : Class) : (s.walkMembers ingress cell g k).pending = s.pending := by unfold State.walkMembers; dsimp only; (repeat' split) <;> simp

@[simp] theorem multicast_rstN (s : State) (ingress : Link) (cell : Cell) : (s.multicast ingress cell).rstN = s.rstN := by unfold State.multicast; dsimp only; (repeat' split) <;> simp
@[simp] theorem multicast_straps (s : State) (ingress : Link) (cell : Cell) : (s.multicast ingress cell).straps = s.straps := by unfold State.multicast; dsimp only; (repeat' split) <;> simp
@[simp] theorem multicast_rrPtr (s : State) (ingress : Link) (cell : Cell) : (s.multicast ingress cell).rrPtr = s.rrPtr := by unfold State.multicast; dsimp only; (repeat' split) <;> simp
@[simp] theorem multicast_params (s : State) (ingress : Link) (cell : Cell) : (s.multicast ingress cell).params = s.params := by unfold State.multicast; dsimp only; (repeat' split) <;> simp
@[simp] theorem multicast_monitor (s : State) (ingress : Link) (cell : Cell) : (s.multicast ingress cell).monitor = s.monitor := by unfold State.multicast; dsimp only; (repeat' split) <;> simp
@[simp] theorem multicast_flow (s : State) (ingress : Link) (cell : Cell) : (s.multicast ingress cell).flow = s.flow := by unfold State.multicast; dsimp only; (repeat' split) <;> simp
@[simp] theorem multicast_epoch (s : State) (ingress : Link) (cell : Cell) : (s.multicast ingress cell).epoch = s.epoch := by unfold State.multicast; dsimp only; (repeat' split) <;> simp
@[simp] theorem multicast_agent (s : State) (ingress : Link) (cell : Cell) : (s.multicast ingress cell).agent = s.agent := by unfold State.multicast; dsimp only; (repeat' split) <;> simp
@[simp] theorem multicast_op (s : State) (ingress : Link) (cell : Cell) : (s.multicast ingress cell).op = s.op := by unfold State.multicast; dsimp only; (repeat' split) <;> simp
@[simp] theorem multicast_scrub (s : State) (ingress : Link) (cell : Cell) : (s.multicast ingress cell).scrub = s.scrub := by unfold State.multicast; dsimp only; (repeat' split) <;> simp
@[simp] theorem multicast_freeCtr (s : State) (ingress : Link) (cell : Cell) : (s.multicast ingress cell).freeCtr = s.freeCtr := by unfold State.multicast; dsimp only; (repeat' split) <;> simp
@[simp] theorem multicast_pending (s : State) (ingress : Link) (cell : Cell) : (s.multicast ingress cell).pending = s.pending := by unfold State.multicast; dsimp only; (repeat' split) <;> simp

@[simp] theorem admitCell_rstN (s : State) (ingress : Link) (cell : Cell) : (s.admitCell ingress cell).rstN = s.rstN := by unfold State.admitCell; (repeat' split) <;> simp
@[simp] theorem admitCell_straps (s : State) (ingress : Link) (cell : Cell) : (s.admitCell ingress cell).straps = s.straps := by unfold State.admitCell; (repeat' split) <;> simp
@[simp] theorem admitCell_rrPtr (s : State) (ingress : Link) (cell : Cell) : (s.admitCell ingress cell).rrPtr = s.rrPtr := by unfold State.admitCell; (repeat' split) <;> simp
@[simp] theorem admitCell_params (s : State) (ingress : Link) (cell : Cell) : (s.admitCell ingress cell).params = s.params := by unfold State.admitCell; (repeat' split) <;> simp
@[simp] theorem admitCell_monitor (s : State) (ingress : Link) (cell : Cell) : (s.admitCell ingress cell).monitor = s.monitor := by unfold State.admitCell; (repeat' split) <;> simp
@[simp] theorem admitCell_flow (s : State) (ingress : Link) (cell : Cell) : (s.admitCell ingress cell).flow = s.flow := by unfold State.admitCell; (repeat' split) <;> simp
@[simp] theorem admitCell_epoch (s : State) (ingress : Link) (cell : Cell) : (s.admitCell ingress cell).epoch = s.epoch := by unfold State.admitCell; (repeat' split) <;> simp
@[simp] theorem admitCell_agent (s : State) (ingress : Link) (cell : Cell) : (s.admitCell ingress cell).agent = s.agent := by unfold State.admitCell; (repeat' split) <;> simp
@[simp] theorem admitCell_op (s : State) (ingress : Link) (cell : Cell) : (s.admitCell ingress cell).op = s.op := by unfold State.admitCell; (repeat' split) <;> simp
@[simp] theorem admitCell_scrub (s : State) (ingress : Link) (cell : Cell) : (s.admitCell ingress cell).scrub = s.scrub := by unfold State.admitCell; (repeat' split) <;> simp
@[simp] theorem admitCell_pending (s : State) (ingress : Link) (cell : Cell) : (s.admitCell ingress cell).pending = s.pending := by unfold State.admitCell; (repeat' split) <;> simp

@[simp] theorem admission_rstN (s : State) : (s.admission).rstN = s.rstN := by unfold State.admission; (repeat' split) <;> simp
@[simp] theorem admission_straps (s : State) : (s.admission).straps = s.straps := by unfold State.admission; (repeat' split) <;> simp
@[simp] theorem admission_params (s : State) : (s.admission).params = s.params := by unfold State.admission; (repeat' split) <;> simp
@[simp] theorem admission_monitor (s : State) : (s.admission).monitor = s.monitor := by unfold State.admission; (repeat' split) <;> simp
@[simp] theorem admission_flow (s : State) : (s.admission).flow = s.flow := by unfold State.admission; (repeat' split) <;> simp
@[simp] theorem admission_epoch (s : State) : (s.admission).epoch = s.epoch := by unfold State.admission; (repeat' split) <;> simp
@[simp] theorem admission_agent (s : State) : (s.admission).agent = s.agent := by unfold State.admission; (repeat' split) <;> simp
@[simp] theorem admission_op (s : State) : (s.admission).op = s.op := by unfold State.admission; (repeat' split) <;> simp
@[simp] theorem admission_scrub (s : State) : (s.admission).scrub = s.scrub := by unfold State.admission; (repeat' split) <;> simp
@[simp] theorem admission_pending (s : State) : (s.admission).pending = s.pending := by unfold State.admission; (repeat' split) <;> simp

@[simp] theorem sendNonData_rstN (s : State) (l : Link) (kind : SentKind) (bytes : Cell) : (s.sendNonData l kind bytes).rstN = s.rstN := by simp [State.sendNonData]
@[simp] theorem sendNonData_straps (s : State) (l : Link) (kind : SentKind) (bytes : Cell) : (s.sendNonData l kind bytes).straps = s.straps := by simp [State.sendNonData]
@[simp] theorem sendNonData_queues (s : State) (l : Link) (kind : SentKind) (bytes : Cell) : (s.sendNonData l kind bytes).queues = s.queues := by simp [State.sendNonData]
@[simp] theorem sendNonData_rrPtr (s : State) (l : Link) (kind : SentKind) (bytes : Cell) : (s.sendNonData l kind bytes).rrPtr = s.rrPtr := by simp [State.sendNonData]
@[simp] theorem sendNonData_pool (s : State) (l : Link) (kind : SentKind) (bytes : Cell) : (s.sendNonData l kind bytes).pool = s.pool := by simp [State.sendNonData]
@[simp] theorem sendNonData_tables (s : State) (l : Link) (kind : SentKind) (bytes : Cell) : (s.sendNonData l kind bytes).tables = s.tables := by simp [State.sendNonData]
@[simp] theorem sendNonData_params (s : State) (l : Link) (kind : SentKind) (bytes : Cell) : (s.sendNonData l kind bytes).params = s.params := by simp [State.sendNonData]
@[simp] theorem sendNonData_monitor (s : State) (l : Link) (kind : SentKind) (bytes : Cell) : (s.sendNonData l kind bytes).monitor = s.monitor := by simp [State.sendNonData]
@[simp] theorem sendNonData_flow (s : State) (l : Link) (kind : SentKind) (bytes : Cell) : (s.sendNonData l kind bytes).flow = s.flow := by simp [State.sendNonData]
@[simp] theorem sendNonData_epoch (s : State) (l : Link) (kind : SentKind) (bytes : Cell) : (s.sendNonData l kind bytes).epoch = s.epoch := by simp [State.sendNonData]
@[simp] theorem sendNonData_agent (s : State) (l : Link) (kind : SentKind) (bytes : Cell) : (s.sendNonData l kind bytes).agent = s.agent := by simp [State.sendNonData]
@[simp] theorem sendNonData_op (s : State) (l : Link) (kind : SentKind) (bytes : Cell) : (s.sendNonData l kind bytes).op = s.op := by simp [State.sendNonData]
@[simp] theorem sendNonData_scrub (s : State) (l : Link) (kind : SentKind) (bytes : Cell) : (s.sendNonData l kind bytes).scrub = s.scrub := by simp [State.sendNonData]
@[simp] theorem sendNonData_attn (s : State) (l : Link) (kind : SentKind) (bytes : Cell) : (s.sendNonData l kind bytes).attn = s.attn := by simp [State.sendNonData]
@[simp] theorem sendNonData_globals (s : State) (l : Link) (kind : SentKind) (bytes : Cell) : (s.sendNonData l kind bytes).globals = s.globals := by simp [State.sendNonData]
@[simp] theorem sendNonData_freeCtr (s : State) (l : Link) (kind : SentKind) (bytes : Cell) : (s.sendNonData l kind bytes).freeCtr = s.freeCtr := by simp [State.sendNonData]
@[simp] theorem sendNonData_pending (s : State) (l : Link) (kind : SentKind) (bytes : Cell) : (s.sendNonData l kind bytes).pending = s.pending := by simp [State.sendNonData]

@[simp] theorem placeHeld_rstN (s : State) (l : Link) : (s.placeHeld l).rstN = s.rstN := by unfold State.placeHeld; (repeat' split) <;> simp
@[simp] theorem placeHeld_straps (s : State) (l : Link) : (s.placeHeld l).straps = s.straps := by unfold State.placeHeld; (repeat' split) <;> simp
@[simp] theorem placeHeld_queues (s : State) (l : Link) : (s.placeHeld l).queues = s.queues := by unfold State.placeHeld; (repeat' split) <;> simp
@[simp] theorem placeHeld_rrPtr (s : State) (l : Link) : (s.placeHeld l).rrPtr = s.rrPtr := by unfold State.placeHeld; (repeat' split) <;> simp
@[simp] theorem placeHeld_pool (s : State) (l : Link) : (s.placeHeld l).pool = s.pool := by unfold State.placeHeld; (repeat' split) <;> simp
@[simp] theorem placeHeld_tables (s : State) (l : Link) : (s.placeHeld l).tables = s.tables := by unfold State.placeHeld; (repeat' split) <;> simp
@[simp] theorem placeHeld_params (s : State) (l : Link) : (s.placeHeld l).params = s.params := by unfold State.placeHeld; (repeat' split) <;> simp
@[simp] theorem placeHeld_monitor (s : State) (l : Link) : (s.placeHeld l).monitor = s.monitor := by unfold State.placeHeld; (repeat' split) <;> simp
@[simp] theorem placeHeld_flow (s : State) (l : Link) : (s.placeHeld l).flow = s.flow := by unfold State.placeHeld; (repeat' split) <;> simp
@[simp] theorem placeHeld_epoch (s : State) (l : Link) : (s.placeHeld l).epoch = s.epoch := by unfold State.placeHeld; (repeat' split) <;> simp
@[simp] theorem placeHeld_op (s : State) (l : Link) : (s.placeHeld l).op = s.op := by unfold State.placeHeld; (repeat' split) <;> simp
@[simp] theorem placeHeld_scrub (s : State) (l : Link) : (s.placeHeld l).scrub = s.scrub := by unfold State.placeHeld; (repeat' split) <;> simp
@[simp] theorem placeHeld_attn (s : State) (l : Link) : (s.placeHeld l).attn = s.attn := by unfold State.placeHeld; (repeat' split) <;> simp
@[simp] theorem placeHeld_globals (s : State) (l : Link) : (s.placeHeld l).globals = s.globals := by unfold State.placeHeld; (repeat' split) <;> simp
@[simp] theorem placeHeld_freeCtr (s : State) (l : Link) : (s.placeHeld l).freeCtr = s.freeCtr := by unfold State.placeHeld; (repeat' split) <;> simp
@[simp] theorem placeHeld_pending (s : State) (l : Link) : (s.placeHeld l).pending = s.pending := by unfold State.placeHeld; (repeat' split) <;> simp

@[simp] theorem sendMrsp_rstN (s : State) (l : Link) (record : Payload) (rest : List Payload) : (s.sendMrsp l record rest).rstN = s.rstN := by simp [State.sendMrsp]
@[simp] theorem sendMrsp_straps (s : State) (l : Link) (record : Payload) (rest : List Payload) : (s.sendMrsp l record rest).straps = s.straps := by simp [State.sendMrsp]
@[simp] theorem sendMrsp_queues (s : State) (l : Link) (record : Payload) (rest : List Payload) : (s.sendMrsp l record rest).queues = s.queues := by simp [State.sendMrsp]
@[simp] theorem sendMrsp_rrPtr (s : State) (l : Link) (record : Payload) (rest : List Payload) : (s.sendMrsp l record rest).rrPtr = s.rrPtr := by simp [State.sendMrsp]
@[simp] theorem sendMrsp_pool (s : State) (l : Link) (record : Payload) (rest : List Payload) : (s.sendMrsp l record rest).pool = s.pool := by simp [State.sendMrsp]
@[simp] theorem sendMrsp_tables (s : State) (l : Link) (record : Payload) (rest : List Payload) : (s.sendMrsp l record rest).tables = s.tables := by simp [State.sendMrsp]
@[simp] theorem sendMrsp_params (s : State) (l : Link) (record : Payload) (rest : List Payload) : (s.sendMrsp l record rest).params = s.params := by simp [State.sendMrsp]
@[simp] theorem sendMrsp_monitor (s : State) (l : Link) (record : Payload) (rest : List Payload) : (s.sendMrsp l record rest).monitor = s.monitor := by simp [State.sendMrsp]
@[simp] theorem sendMrsp_flow (s : State) (l : Link) (record : Payload) (rest : List Payload) : (s.sendMrsp l record rest).flow = s.flow := by simp [State.sendMrsp]
@[simp] theorem sendMrsp_epoch (s : State) (l : Link) (record : Payload) (rest : List Payload) : (s.sendMrsp l record rest).epoch = s.epoch := by simp [State.sendMrsp]
@[simp] theorem sendMrsp_op (s : State) (l : Link) (record : Payload) (rest : List Payload) : (s.sendMrsp l record rest).op = s.op := by simp [State.sendMrsp]
@[simp] theorem sendMrsp_scrub (s : State) (l : Link) (record : Payload) (rest : List Payload) : (s.sendMrsp l record rest).scrub = s.scrub := by simp [State.sendMrsp]
@[simp] theorem sendMrsp_attn (s : State) (l : Link) (record : Payload) (rest : List Payload) : (s.sendMrsp l record rest).attn = s.attn := by simp [State.sendMrsp]
@[simp] theorem sendMrsp_globals (s : State) (l : Link) (record : Payload) (rest : List Payload) : (s.sendMrsp l record rest).globals = s.globals := by simp [State.sendMrsp]
@[simp] theorem sendMrsp_freeCtr (s : State) (l : Link) (record : Payload) (rest : List Payload) : (s.sendMrsp l record rest).freeCtr = s.freeCtr := by simp [State.sendMrsp]
@[simp] theorem sendMrsp_pending (s : State) (l : Link) (record : Payload) (rest : List Payload) : (s.sendMrsp l record rest).pending = s.pending := by simp [State.sendMrsp]

@[simp] theorem sendAttn_rstN (s : State) (l : Link) : (s.sendAttn l).rstN = s.rstN := by simp [State.sendAttn]
@[simp] theorem sendAttn_straps (s : State) (l : Link) : (s.sendAttn l).straps = s.straps := by simp [State.sendAttn]
@[simp] theorem sendAttn_queues (s : State) (l : Link) : (s.sendAttn l).queues = s.queues := by simp [State.sendAttn]
@[simp] theorem sendAttn_rrPtr (s : State) (l : Link) : (s.sendAttn l).rrPtr = s.rrPtr := by simp [State.sendAttn]
@[simp] theorem sendAttn_pool (s : State) (l : Link) : (s.sendAttn l).pool = s.pool := by simp [State.sendAttn]
@[simp] theorem sendAttn_tables (s : State) (l : Link) : (s.sendAttn l).tables = s.tables := by simp [State.sendAttn]
@[simp] theorem sendAttn_params (s : State) (l : Link) : (s.sendAttn l).params = s.params := by simp [State.sendAttn]
@[simp] theorem sendAttn_monitor (s : State) (l : Link) : (s.sendAttn l).monitor = s.monitor := by simp [State.sendAttn]
@[simp] theorem sendAttn_flow (s : State) (l : Link) : (s.sendAttn l).flow = s.flow := by simp [State.sendAttn]
@[simp] theorem sendAttn_epoch (s : State) (l : Link) : (s.sendAttn l).epoch = s.epoch := by simp [State.sendAttn]
@[simp] theorem sendAttn_agent (s : State) (l : Link) : (s.sendAttn l).agent = s.agent := by simp [State.sendAttn]
@[simp] theorem sendAttn_op (s : State) (l : Link) : (s.sendAttn l).op = s.op := by simp [State.sendAttn]
@[simp] theorem sendAttn_scrub (s : State) (l : Link) : (s.sendAttn l).scrub = s.scrub := by simp [State.sendAttn]
@[simp] theorem sendAttn_attn (s : State) (l : Link) : (s.sendAttn l).attn = s.attn := by simp [State.sendAttn]
@[simp] theorem sendAttn_globals (s : State) (l : Link) : (s.sendAttn l).globals = s.globals := by simp [State.sendAttn]
@[simp] theorem sendAttn_freeCtr (s : State) (l : Link) : (s.sendAttn l).freeCtr = s.freeCtr := by simp [State.sendAttn]
@[simp] theorem sendAttn_pending (s : State) (l : Link) : (s.sendAttn l).pending = s.pending := by simp [State.sendAttn]

@[simp] theorem sendFlowst_rstN (s : State) (l : Link) : (s.sendFlowst l).rstN = s.rstN := by simp [State.sendFlowst]
@[simp] theorem sendFlowst_straps (s : State) (l : Link) : (s.sendFlowst l).straps = s.straps := by simp [State.sendFlowst]
@[simp] theorem sendFlowst_queues (s : State) (l : Link) : (s.sendFlowst l).queues = s.queues := by simp [State.sendFlowst]
@[simp] theorem sendFlowst_rrPtr (s : State) (l : Link) : (s.sendFlowst l).rrPtr = s.rrPtr := by simp [State.sendFlowst]
@[simp] theorem sendFlowst_pool (s : State) (l : Link) : (s.sendFlowst l).pool = s.pool := by simp [State.sendFlowst]
@[simp] theorem sendFlowst_tables (s : State) (l : Link) : (s.sendFlowst l).tables = s.tables := by simp [State.sendFlowst]
@[simp] theorem sendFlowst_params (s : State) (l : Link) : (s.sendFlowst l).params = s.params := by simp [State.sendFlowst]
@[simp] theorem sendFlowst_monitor (s : State) (l : Link) : (s.sendFlowst l).monitor = s.monitor := by simp [State.sendFlowst]
@[simp] theorem sendFlowst_flow (s : State) (l : Link) : (s.sendFlowst l).flow = s.flow := by simp [State.sendFlowst]
@[simp] theorem sendFlowst_epoch (s : State) (l : Link) : (s.sendFlowst l).epoch = s.epoch := by simp [State.sendFlowst]
@[simp] theorem sendFlowst_agent (s : State) (l : Link) : (s.sendFlowst l).agent = s.agent := by simp [State.sendFlowst]
@[simp] theorem sendFlowst_op (s : State) (l : Link) : (s.sendFlowst l).op = s.op := by simp [State.sendFlowst]
@[simp] theorem sendFlowst_scrub (s : State) (l : Link) : (s.sendFlowst l).scrub = s.scrub := by simp [State.sendFlowst]
@[simp] theorem sendFlowst_attn (s : State) (l : Link) : (s.sendFlowst l).attn = s.attn := by simp [State.sendFlowst]
@[simp] theorem sendFlowst_globals (s : State) (l : Link) : (s.sendFlowst l).globals = s.globals := by simp [State.sendFlowst]
@[simp] theorem sendFlowst_freeCtr (s : State) (l : Link) : (s.sendFlowst l).freeCtr = s.freeCtr := by simp [State.sendFlowst]
@[simp] theorem sendFlowst_pending (s : State) (l : Link) : (s.sendFlowst l).pending = s.pending := by simp [State.sendFlowst]

@[simp] theorem sendIdle_rstN (s : State) (l : Link) : (s.sendIdle l).rstN = s.rstN := by simp [State.sendIdle]
@[simp] theorem sendIdle_straps (s : State) (l : Link) : (s.sendIdle l).straps = s.straps := by simp [State.sendIdle]
@[simp] theorem sendIdle_queues (s : State) (l : Link) : (s.sendIdle l).queues = s.queues := by simp [State.sendIdle]
@[simp] theorem sendIdle_rrPtr (s : State) (l : Link) : (s.sendIdle l).rrPtr = s.rrPtr := by simp [State.sendIdle]
@[simp] theorem sendIdle_pool (s : State) (l : Link) : (s.sendIdle l).pool = s.pool := by simp [State.sendIdle]
@[simp] theorem sendIdle_tables (s : State) (l : Link) : (s.sendIdle l).tables = s.tables := by simp [State.sendIdle]
@[simp] theorem sendIdle_params (s : State) (l : Link) : (s.sendIdle l).params = s.params := by simp [State.sendIdle]
@[simp] theorem sendIdle_monitor (s : State) (l : Link) : (s.sendIdle l).monitor = s.monitor := by simp [State.sendIdle]
@[simp] theorem sendIdle_flow (s : State) (l : Link) : (s.sendIdle l).flow = s.flow := by simp [State.sendIdle]
@[simp] theorem sendIdle_epoch (s : State) (l : Link) : (s.sendIdle l).epoch = s.epoch := by simp [State.sendIdle]
@[simp] theorem sendIdle_agent (s : State) (l : Link) : (s.sendIdle l).agent = s.agent := by simp [State.sendIdle]
@[simp] theorem sendIdle_op (s : State) (l : Link) : (s.sendIdle l).op = s.op := by simp [State.sendIdle]
@[simp] theorem sendIdle_scrub (s : State) (l : Link) : (s.sendIdle l).scrub = s.scrub := by simp [State.sendIdle]
@[simp] theorem sendIdle_attn (s : State) (l : Link) : (s.sendIdle l).attn = s.attn := by simp [State.sendIdle]
@[simp] theorem sendIdle_globals (s : State) (l : Link) : (s.sendIdle l).globals = s.globals := by simp [State.sendIdle]
@[simp] theorem sendIdle_freeCtr (s : State) (l : Link) : (s.sendIdle l).freeCtr = s.freeCtr := by simp [State.sendIdle]
@[simp] theorem sendIdle_pending (s : State) (l : Link) : (s.sendIdle l).pending = s.pending := by simp [State.sendIdle]

@[simp] theorem endData_rstN (s : State) (l : Link) (h : Handle) : (s.endData l h).rstN = s.rstN := by simp [State.endData]
@[simp] theorem endData_straps (s : State) (l : Link) (h : Handle) : (s.endData l h).straps = s.straps := by simp [State.endData]
@[simp] theorem endData_queues (s : State) (l : Link) (h : Handle) : (s.endData l h).queues = s.queues := by simp [State.endData]
@[simp] theorem endData_rrPtr (s : State) (l : Link) (h : Handle) : (s.endData l h).rrPtr = s.rrPtr := by simp [State.endData]
@[simp] theorem endData_tables (s : State) (l : Link) (h : Handle) : (s.endData l h).tables = s.tables := by simp [State.endData]
@[simp] theorem endData_params (s : State) (l : Link) (h : Handle) : (s.endData l h).params = s.params := by simp [State.endData]
@[simp] theorem endData_monitor (s : State) (l : Link) (h : Handle) : (s.endData l h).monitor = s.monitor := by simp [State.endData]
@[simp] theorem endData_flow (s : State) (l : Link) (h : Handle) : (s.endData l h).flow = s.flow := by simp [State.endData]
@[simp] theorem endData_epoch (s : State) (l : Link) (h : Handle) : (s.endData l h).epoch = s.epoch := by simp [State.endData]
@[simp] theorem endData_agent (s : State) (l : Link) (h : Handle) : (s.endData l h).agent = s.agent := by simp [State.endData]
@[simp] theorem endData_op (s : State) (l : Link) (h : Handle) : (s.endData l h).op = s.op := by simp [State.endData]
@[simp] theorem endData_scrub (s : State) (l : Link) (h : Handle) : (s.endData l h).scrub = s.scrub := by simp [State.endData]
@[simp] theorem endData_attn (s : State) (l : Link) (h : Handle) : (s.endData l h).attn = s.attn := by simp [State.endData]
@[simp] theorem endData_globals (s : State) (l : Link) (h : Handle) : (s.endData l h).globals = s.globals := by simp [State.endData]
@[simp] theorem endData_freeCtr (s : State) (l : Link) (h : Handle) : (s.endData l h).freeCtr = s.freeCtr := by simp [State.endData]
@[simp] theorem endData_pending (s : State) (l : Link) (h : Handle) : (s.endData l h).pending = s.pending := by simp [State.endData]

@[simp] theorem visit_rstN (s : State) (q : QueueId) : (s.visit q).rstN = s.rstN := by unfold State.visit; dsimp only; (repeat' split) <;> simp
@[simp] theorem visit_straps (s : State) (q : QueueId) : (s.visit q).straps = s.straps := by unfold State.visit; dsimp only; (repeat' split) <;> simp
@[simp] theorem visit_rrPtr (s : State) (q : QueueId) : (s.visit q).rrPtr = s.rrPtr := by unfold State.visit; dsimp only; (repeat' split) <;> simp
@[simp] theorem visit_pool (s : State) (q : QueueId) : (s.visit q).pool = s.pool := by unfold State.visit; dsimp only; (repeat' split) <;> simp
@[simp] theorem visit_tables (s : State) (q : QueueId) : (s.visit q).tables = s.tables := by unfold State.visit; dsimp only; (repeat' split) <;> simp
@[simp] theorem visit_params (s : State) (q : QueueId) : (s.visit q).params = s.params := by unfold State.visit; dsimp only; (repeat' split) <;> simp
@[simp] theorem visit_monitor (s : State) (q : QueueId) : (s.visit q).monitor = s.monitor := by unfold State.visit; dsimp only; (repeat' split) <;> simp
@[simp] theorem visit_epoch (s : State) (q : QueueId) : (s.visit q).epoch = s.epoch := by unfold State.visit; dsimp only; (repeat' split) <;> simp
@[simp] theorem visit_agent (s : State) (q : QueueId) : (s.visit q).agent = s.agent := by unfold State.visit; dsimp only; (repeat' split) <;> simp
@[simp] theorem visit_op (s : State) (q : QueueId) : (s.visit q).op = s.op := by unfold State.visit; dsimp only; (repeat' split) <;> simp
@[simp] theorem visit_scrub (s : State) (q : QueueId) : (s.visit q).scrub = s.scrub := by unfold State.visit; dsimp only; (repeat' split) <;> simp
@[simp] theorem visit_attn (s : State) (q : QueueId) : (s.visit q).attn = s.attn := by unfold State.visit; dsimp only; (repeat' split) <;> simp
@[simp] theorem visit_globals (s : State) (q : QueueId) : (s.visit q).globals = s.globals := by unfold State.visit; dsimp only; (repeat' split) <;> simp
@[simp] theorem visit_freeCtr (s : State) (q : QueueId) : (s.visit q).freeCtr = s.freeCtr := by unfold State.visit; dsimp only; (repeat' split) <;> simp
@[simp] theorem visit_pending (s : State) (q : QueueId) : (s.visit q).pending = s.pending := by unfold State.visit; dsimp only; (repeat' split) <;> simp

@[simp] theorem monitorStep_rstN (s : State) : (s.monitorStep).rstN = s.rstN := by unfold State.monitorStep; (repeat' split) <;> simp
@[simp] theorem monitorStep_straps (s : State) : (s.monitorStep).straps = s.straps := by unfold State.monitorStep; (repeat' split) <;> simp
@[simp] theorem monitorStep_rrPtr (s : State) : (s.monitorStep).rrPtr = s.rrPtr := by unfold State.monitorStep; (repeat' split) <;> simp
@[simp] theorem monitorStep_pool (s : State) : (s.monitorStep).pool = s.pool := by unfold State.monitorStep; (repeat' split) <;> simp
@[simp] theorem monitorStep_tables (s : State) : (s.monitorStep).tables = s.tables := by unfold State.monitorStep; (repeat' split) <;> simp
@[simp] theorem monitorStep_params (s : State) : (s.monitorStep).params = s.params := by unfold State.monitorStep; (repeat' split) <;> simp
@[simp] theorem monitorStep_epoch (s : State) : (s.monitorStep).epoch = s.epoch := by unfold State.monitorStep; (repeat' split) <;> simp
@[simp] theorem monitorStep_agent (s : State) : (s.monitorStep).agent = s.agent := by unfold State.monitorStep; (repeat' split) <;> simp
@[simp] theorem monitorStep_op (s : State) : (s.monitorStep).op = s.op := by unfold State.monitorStep; (repeat' split) <;> simp
@[simp] theorem monitorStep_scrub (s : State) : (s.monitorStep).scrub = s.scrub := by unfold State.monitorStep; (repeat' split) <;> simp
@[simp] theorem monitorStep_attn (s : State) : (s.monitorStep).attn = s.attn := by unfold State.monitorStep; (repeat' split) <;> simp
@[simp] theorem monitorStep_globals (s : State) : (s.monitorStep).globals = s.globals := by unfold State.monitorStep; (repeat' split) <;> simp
@[simp] theorem monitorStep_freeCtr (s : State) : (s.monitorStep).freeCtr = s.freeCtr := by unfold State.monitorStep; (repeat' split) <;> simp
@[simp] theorem monitorStep_pending (s : State) : (s.monitorStep).pending = s.pending := by unfold State.monitorStep; (repeat' split) <;> simp

@[simp] theorem attentionExpiry_rstN (s : State) : (s.attentionExpiry).rstN = s.rstN := by unfold State.attentionExpiry; dsimp only; (repeat' split) <;> simp
@[simp] theorem attentionExpiry_straps (s : State) : (s.attentionExpiry).straps = s.straps := by unfold State.attentionExpiry; dsimp only; (repeat' split) <;> simp
@[simp] theorem attentionExpiry_queues (s : State) : (s.attentionExpiry).queues = s.queues := by unfold State.attentionExpiry; dsimp only; (repeat' split) <;> simp
@[simp] theorem attentionExpiry_rrPtr (s : State) : (s.attentionExpiry).rrPtr = s.rrPtr := by unfold State.attentionExpiry; dsimp only; (repeat' split) <;> simp
@[simp] theorem attentionExpiry_pool (s : State) : (s.attentionExpiry).pool = s.pool := by unfold State.attentionExpiry; dsimp only; (repeat' split) <;> simp
@[simp] theorem attentionExpiry_tables (s : State) : (s.attentionExpiry).tables = s.tables := by unfold State.attentionExpiry; dsimp only; (repeat' split) <;> simp
@[simp] theorem attentionExpiry_params (s : State) : (s.attentionExpiry).params = s.params := by unfold State.attentionExpiry; dsimp only; (repeat' split) <;> simp
@[simp] theorem attentionExpiry_monitor (s : State) : (s.attentionExpiry).monitor = s.monitor := by unfold State.attentionExpiry; dsimp only; (repeat' split) <;> simp
@[simp] theorem attentionExpiry_flow (s : State) : (s.attentionExpiry).flow = s.flow := by unfold State.attentionExpiry; dsimp only; (repeat' split) <;> simp
@[simp] theorem attentionExpiry_epoch (s : State) : (s.attentionExpiry).epoch = s.epoch := by unfold State.attentionExpiry; dsimp only; (repeat' split) <;> simp
@[simp] theorem attentionExpiry_agent (s : State) : (s.attentionExpiry).agent = s.agent := by unfold State.attentionExpiry; dsimp only; (repeat' split) <;> simp
@[simp] theorem attentionExpiry_op (s : State) : (s.attentionExpiry).op = s.op := by unfold State.attentionExpiry; dsimp only; (repeat' split) <;> simp
@[simp] theorem attentionExpiry_scrub (s : State) : (s.attentionExpiry).scrub = s.scrub := by unfold State.attentionExpiry; dsimp only; (repeat' split) <;> simp
@[simp] theorem attentionExpiry_globals (s : State) : (s.attentionExpiry).globals = s.globals := by unfold State.attentionExpiry; dsimp only; (repeat' split) <;> simp
@[simp] theorem attentionExpiry_freeCtr (s : State) : (s.attentionExpiry).freeCtr = s.freeCtr := by unfold State.attentionExpiry; dsimp only; (repeat' split) <;> simp
@[simp] theorem attentionExpiry_pending (s : State) : (s.attentionExpiry).pending = s.pending := by unfold State.attentionExpiry; dsimp only; (repeat' split) <;> simp

@[simp] theorem scrubVisit_rstN (s : State) : (s.scrubVisit).rstN = s.rstN := by simp [State.scrubVisit]
@[simp] theorem scrubVisit_straps (s : State) : (s.scrubVisit).straps = s.straps := by simp [State.scrubVisit]
@[simp] theorem scrubVisit_queues (s : State) : (s.scrubVisit).queues = s.queues := by simp [State.scrubVisit]
@[simp] theorem scrubVisit_rrPtr (s : State) : (s.scrubVisit).rrPtr = s.rrPtr := by simp [State.scrubVisit]
@[simp] theorem scrubVisit_pool (s : State) : (s.scrubVisit).pool = s.pool := by simp [State.scrubVisit]
@[simp] theorem scrubVisit_params (s : State) : (s.scrubVisit).params = s.params := by simp [State.scrubVisit]
@[simp] theorem scrubVisit_monitor (s : State) : (s.scrubVisit).monitor = s.monitor := by simp [State.scrubVisit]
@[simp] theorem scrubVisit_flow (s : State) : (s.scrubVisit).flow = s.flow := by simp [State.scrubVisit]
@[simp] theorem scrubVisit_epoch (s : State) : (s.scrubVisit).epoch = s.epoch := by simp [State.scrubVisit]
@[simp] theorem scrubVisit_agent (s : State) : (s.scrubVisit).agent = s.agent := by simp [State.scrubVisit]
@[simp] theorem scrubVisit_op (s : State) : (s.scrubVisit).op = s.op := by simp [State.scrubVisit]
@[simp] theorem scrubVisit_freeCtr (s : State) : (s.scrubVisit).freeCtr = s.freeCtr := by simp [State.scrubVisit]
@[simp] theorem scrubVisit_pending (s : State) : (s.scrubVisit).pending = s.pending := by simp [State.scrubVisit]

@[simp] theorem fillStep_rstN (s : State) : (s.fillStep).rstN = s.rstN := by unfold State.fillStep; dsimp only; (repeat' split) <;> simp
@[simp] theorem fillStep_straps (s : State) : (s.fillStep).straps = s.straps := by unfold State.fillStep; dsimp only; (repeat' split) <;> simp
@[simp] theorem fillStep_queues (s : State) : (s.fillStep).queues = s.queues := by unfold State.fillStep; dsimp only; (repeat' split) <;> simp
@[simp] theorem fillStep_rrPtr (s : State) : (s.fillStep).rrPtr = s.rrPtr := by unfold State.fillStep; dsimp only; (repeat' split) <;> simp
@[simp] theorem fillStep_pool (s : State) : (s.fillStep).pool = s.pool := by unfold State.fillStep; dsimp only; (repeat' split) <;> simp
@[simp] theorem fillStep_params (s : State) : (s.fillStep).params = s.params := by unfold State.fillStep; dsimp only; (repeat' split) <;> simp
@[simp] theorem fillStep_monitor (s : State) : (s.fillStep).monitor = s.monitor := by unfold State.fillStep; dsimp only; (repeat' split) <;> simp
@[simp] theorem fillStep_flow (s : State) : (s.fillStep).flow = s.flow := by unfold State.fillStep; dsimp only; (repeat' split) <;> simp
@[simp] theorem fillStep_epoch (s : State) : (s.fillStep).epoch = s.epoch := by unfold State.fillStep; dsimp only; (repeat' split) <;> simp
@[simp] theorem fillStep_agent (s : State) : (s.fillStep).agent = s.agent := by unfold State.fillStep; dsimp only; (repeat' split) <;> simp
@[simp] theorem fillStep_scrub (s : State) : (s.fillStep).scrub = s.scrub := by unfold State.fillStep; dsimp only; (repeat' split) <;> simp
@[simp] theorem fillStep_globals (s : State) : (s.fillStep).globals = s.globals := by unfold State.fillStep; dsimp only; (repeat' split) <;> simp
@[simp] theorem fillStep_freeCtr (s : State) : (s.fillStep).freeCtr = s.freeCtr := by unfold State.fillStep; dsimp only; (repeat' split) <;> simp
@[simp] theorem fillStep_pending (s : State) : (s.fillStep).pending = s.pending := by unfold State.fillStep; dsimp only; (repeat' split) <;> simp

@[simp] theorem copyStep_rstN (s : State) : (s.copyStep).rstN = s.rstN := by unfold State.copyStep; dsimp only; (repeat' split) <;> simp
@[simp] theorem copyStep_straps (s : State) : (s.copyStep).straps = s.straps := by unfold State.copyStep; dsimp only; (repeat' split) <;> simp
@[simp] theorem copyStep_queues (s : State) : (s.copyStep).queues = s.queues := by unfold State.copyStep; dsimp only; (repeat' split) <;> simp
@[simp] theorem copyStep_rrPtr (s : State) : (s.copyStep).rrPtr = s.rrPtr := by unfold State.copyStep; dsimp only; (repeat' split) <;> simp
@[simp] theorem copyStep_pool (s : State) : (s.copyStep).pool = s.pool := by unfold State.copyStep; dsimp only; (repeat' split) <;> simp
@[simp] theorem copyStep_params (s : State) : (s.copyStep).params = s.params := by unfold State.copyStep; dsimp only; (repeat' split) <;> simp
@[simp] theorem copyStep_monitor (s : State) : (s.copyStep).monitor = s.monitor := by unfold State.copyStep; dsimp only; (repeat' split) <;> simp
@[simp] theorem copyStep_flow (s : State) : (s.copyStep).flow = s.flow := by unfold State.copyStep; dsimp only; (repeat' split) <;> simp
@[simp] theorem copyStep_epoch (s : State) : (s.copyStep).epoch = s.epoch := by unfold State.copyStep; dsimp only; (repeat' split) <;> simp
@[simp] theorem copyStep_agent (s : State) : (s.copyStep).agent = s.agent := by unfold State.copyStep; dsimp only; (repeat' split) <;> simp
@[simp] theorem copyStep_scrub (s : State) : (s.copyStep).scrub = s.scrub := by unfold State.copyStep; dsimp only; (repeat' split) <;> simp
@[simp] theorem copyStep_globals (s : State) : (s.copyStep).globals = s.globals := by unfold State.copyStep; dsimp only; (repeat' split) <;> simp
@[simp] theorem copyStep_freeCtr (s : State) : (s.copyStep).freeCtr = s.freeCtr := by unfold State.copyStep; dsimp only; (repeat' split) <;> simp
@[simp] theorem copyStep_pending (s : State) : (s.copyStep).pending = s.pending := by unfold State.copyStep; dsimp only; (repeat' split) <;> simp

@[simp] theorem digestStep_rstN (s : State) : (s.digestStep).rstN = s.rstN := by unfold State.digestStep; dsimp only; (repeat' split) <;> simp
@[simp] theorem digestStep_straps (s : State) : (s.digestStep).straps = s.straps := by unfold State.digestStep; dsimp only; (repeat' split) <;> simp
@[simp] theorem digestStep_queues (s : State) : (s.digestStep).queues = s.queues := by unfold State.digestStep; dsimp only; (repeat' split) <;> simp
@[simp] theorem digestStep_rrPtr (s : State) : (s.digestStep).rrPtr = s.rrPtr := by unfold State.digestStep; dsimp only; (repeat' split) <;> simp
@[simp] theorem digestStep_pool (s : State) : (s.digestStep).pool = s.pool := by unfold State.digestStep; dsimp only; (repeat' split) <;> simp
@[simp] theorem digestStep_tables (s : State) : (s.digestStep).tables = s.tables := by unfold State.digestStep; dsimp only; (repeat' split) <;> simp
@[simp] theorem digestStep_params (s : State) : (s.digestStep).params = s.params := by unfold State.digestStep; dsimp only; (repeat' split) <;> simp
@[simp] theorem digestStep_monitor (s : State) : (s.digestStep).monitor = s.monitor := by unfold State.digestStep; dsimp only; (repeat' split) <;> simp
@[simp] theorem digestStep_flow (s : State) : (s.digestStep).flow = s.flow := by unfold State.digestStep; dsimp only; (repeat' split) <;> simp
@[simp] theorem digestStep_epoch (s : State) : (s.digestStep).epoch = s.epoch := by unfold State.digestStep; dsimp only; (repeat' split) <;> simp
@[simp] theorem digestStep_agent (s : State) : (s.digestStep).agent = s.agent := by unfold State.digestStep; dsimp only; (repeat' split) <;> simp
@[simp] theorem digestStep_scrub (s : State) : (s.digestStep).scrub = s.scrub := by unfold State.digestStep; dsimp only; (repeat' split) <;> simp
@[simp] theorem digestStep_globals (s : State) : (s.digestStep).globals = s.globals := by unfold State.digestStep; dsimp only; (repeat' split) <;> simp
@[simp] theorem digestStep_freeCtr (s : State) : (s.digestStep).freeCtr = s.freeCtr := by unfold State.digestStep; dsimp only; (repeat' split) <;> simp
@[simp] theorem digestStep_pending (s : State) : (s.digestStep).pending = s.pending := by unfold State.digestStep; dsimp only; (repeat' split) <;> simp

@[simp] theorem memtestStep_rstN (s : State) (passes : Bool) : (s.memtestStep passes).rstN = s.rstN := by unfold State.memtestStep; dsimp only; (repeat' split) <;> simp
@[simp] theorem memtestStep_straps (s : State) (passes : Bool) : (s.memtestStep passes).straps = s.straps := by unfold State.memtestStep; dsimp only; (repeat' split) <;> simp
@[simp] theorem memtestStep_queues (s : State) (passes : Bool) : (s.memtestStep passes).queues = s.queues := by unfold State.memtestStep; dsimp only; (repeat' split) <;> simp
@[simp] theorem memtestStep_rrPtr (s : State) (passes : Bool) : (s.memtestStep passes).rrPtr = s.rrPtr := by unfold State.memtestStep; dsimp only; (repeat' split) <;> simp
@[simp] theorem memtestStep_tables (s : State) (passes : Bool) : (s.memtestStep passes).tables = s.tables := by unfold State.memtestStep; dsimp only; (repeat' split) <;> simp
@[simp] theorem memtestStep_params (s : State) (passes : Bool) : (s.memtestStep passes).params = s.params := by unfold State.memtestStep; dsimp only; (repeat' split) <;> simp
@[simp] theorem memtestStep_monitor (s : State) (passes : Bool) : (s.memtestStep passes).monitor = s.monitor := by unfold State.memtestStep; dsimp only; (repeat' split) <;> simp
@[simp] theorem memtestStep_flow (s : State) (passes : Bool) : (s.memtestStep passes).flow = s.flow := by unfold State.memtestStep; dsimp only; (repeat' split) <;> simp
@[simp] theorem memtestStep_epoch (s : State) (passes : Bool) : (s.memtestStep passes).epoch = s.epoch := by unfold State.memtestStep; dsimp only; (repeat' split) <;> simp
@[simp] theorem memtestStep_agent (s : State) (passes : Bool) : (s.memtestStep passes).agent = s.agent := by unfold State.memtestStep; dsimp only; (repeat' split) <;> simp
@[simp] theorem memtestStep_scrub (s : State) (passes : Bool) : (s.memtestStep passes).scrub = s.scrub := by unfold State.memtestStep; dsimp only; (repeat' split) <;> simp
@[simp] theorem memtestStep_globals (s : State) (passes : Bool) : (s.memtestStep passes).globals = s.globals := by unfold State.memtestStep; dsimp only; (repeat' split) <;> simp
@[simp] theorem memtestStep_freeCtr (s : State) (passes : Bool) : (s.memtestStep passes).freeCtr = s.freeCtr := by unfold State.memtestStep; dsimp only; (repeat' split) <;> simp
@[simp] theorem memtestStep_pending (s : State) (passes : Bool) : (s.memtestStep passes).pending = s.pending := by unfold State.memtestStep; dsimp only; (repeat' split) <;> simp

@[simp] theorem reselectOne_rstN (s : State) (n : Nat) : (s.reselectOne n).rstN = s.rstN := by unfold State.reselectOne; split <;> rfl
@[simp] theorem reselectOne_straps (s : State) (n : Nat) : (s.reselectOne n).straps = s.straps := by unfold State.reselectOne; split <;> rfl
@[simp] theorem reselectOne_links (s : State) (n : Nat) : (s.reselectOne n).links = s.links := by unfold State.reselectOne; split <;> rfl
@[simp] theorem reselectOne_queues (s : State) (n : Nat) : (s.reselectOne n).queues = s.queues := by unfold State.reselectOne; split <;> rfl
@[simp] theorem reselectOne_rrPtr (s : State) (n : Nat) : (s.reselectOne n).rrPtr = s.rrPtr := by unfold State.reselectOne; split <;> rfl
@[simp] theorem reselectOne_pool (s : State) (n : Nat) : (s.reselectOne n).pool = s.pool := by unfold State.reselectOne; split <;> rfl
@[simp] theorem reselectOne_params (s : State) (n : Nat) : (s.reselectOne n).params = s.params := by unfold State.reselectOne; split <;> rfl
@[simp] theorem reselectOne_monitor (s : State) (n : Nat) : (s.reselectOne n).monitor = s.monitor := by unfold State.reselectOne; split <;> rfl
@[simp] theorem reselectOne_flow (s : State) (n : Nat) : (s.reselectOne n).flow = s.flow := by unfold State.reselectOne; split <;> rfl
@[simp] theorem reselectOne_epoch (s : State) (n : Nat) : (s.reselectOne n).epoch = s.epoch := by unfold State.reselectOne; split <;> rfl
@[simp] theorem reselectOne_agent (s : State) (n : Nat) : (s.reselectOne n).agent = s.agent := by unfold State.reselectOne; split <;> rfl
@[simp] theorem reselectOne_op (s : State) (n : Nat) : (s.reselectOne n).op = s.op := by unfold State.reselectOne; split <;> rfl
@[simp] theorem reselectOne_scrub (s : State) (n : Nat) : (s.reselectOne n).scrub = s.scrub := by unfold State.reselectOne; split <;> rfl
@[simp] theorem reselectOne_attn (s : State) (n : Nat) : (s.reselectOne n).attn = s.attn := by unfold State.reselectOne; split <;> rfl
@[simp] theorem reselectOne_globals (s : State) (n : Nat) : (s.reselectOne n).globals = s.globals := by unfold State.reselectOne; split <;> rfl
@[simp] theorem reselectOne_freeCtr (s : State) (n : Nat) : (s.reselectOne n).freeCtr = s.freeCtr := by unfold State.reselectOne; split <;> rfl
@[simp] theorem reselectOne_pending (s : State) (n : Nat) : (s.reselectOne n).pending = s.pending := by unfold State.reselectOne; split <;> rfl

@[simp] theorem repair_rstN (s : State) (t : Table) (i : Nat) (e : EntryFields) : (s.repair t i e).rstN = s.rstN := by unfold State.repair; cases t <;> simp
@[simp] theorem repair_straps (s : State) (t : Table) (i : Nat) (e : EntryFields) : (s.repair t i e).straps = s.straps := by unfold State.repair; cases t <;> simp
@[simp] theorem repair_links (s : State) (t : Table) (i : Nat) (e : EntryFields) : (s.repair t i e).links = s.links := by unfold State.repair; cases t <;> simp
@[simp] theorem repair_queues (s : State) (t : Table) (i : Nat) (e : EntryFields) : (s.repair t i e).queues = s.queues := by unfold State.repair; cases t <;> simp
@[simp] theorem repair_rrPtr (s : State) (t : Table) (i : Nat) (e : EntryFields) : (s.repair t i e).rrPtr = s.rrPtr := by unfold State.repair; cases t <;> simp
@[simp] theorem repair_pool (s : State) (t : Table) (i : Nat) (e : EntryFields) : (s.repair t i e).pool = s.pool := by unfold State.repair; cases t <;> simp
@[simp] theorem repair_params (s : State) (t : Table) (i : Nat) (e : EntryFields) : (s.repair t i e).params = s.params := by unfold State.repair; cases t <;> simp
@[simp] theorem repair_monitor (s : State) (t : Table) (i : Nat) (e : EntryFields) : (s.repair t i e).monitor = s.monitor := by unfold State.repair; cases t <;> simp
@[simp] theorem repair_flow (s : State) (t : Table) (i : Nat) (e : EntryFields) : (s.repair t i e).flow = s.flow := by unfold State.repair; cases t <;> simp
@[simp] theorem repair_epoch (s : State) (t : Table) (i : Nat) (e : EntryFields) : (s.repair t i e).epoch = s.epoch := by unfold State.repair; cases t <;> simp
@[simp] theorem repair_agent (s : State) (t : Table) (i : Nat) (e : EntryFields) : (s.repair t i e).agent = s.agent := by unfold State.repair; cases t <;> simp
@[simp] theorem repair_op (s : State) (t : Table) (i : Nat) (e : EntryFields) : (s.repair t i e).op = s.op := by unfold State.repair; cases t <;> simp
@[simp] theorem repair_scrub (s : State) (t : Table) (i : Nat) (e : EntryFields) : (s.repair t i e).scrub = s.scrub := by unfold State.repair; cases t <;> simp
@[simp] theorem repair_attn (s : State) (t : Table) (i : Nat) (e : EntryFields) : (s.repair t i e).attn = s.attn := by unfold State.repair; cases t <;> simp
@[simp] theorem repair_globals (s : State) (t : Table) (i : Nat) (e : EntryFields) : (s.repair t i e).globals = s.globals := by unfold State.repair; cases t <;> simp
@[simp] theorem repair_freeCtr (s : State) (t : Table) (i : Nat) (e : EntryFields) : (s.repair t i e).freeCtr = s.freeCtr := by unfold State.repair; cases t <;> simp
@[simp] theorem repair_pending (s : State) (t : Table) (i : Nat) (e : EntryFields) : (s.repair t i e).pending = s.pending := by unfold State.repair; cases t <;> simp

@[simp] theorem enableLink_rstN (s : State) (l : Link) : (s.enableLink l).rstN = s.rstN := by unfold State.enableLink; (repeat' split) <;> simp
@[simp] theorem enableLink_straps (s : State) (l : Link) : (s.enableLink l).straps = s.straps := by unfold State.enableLink; (repeat' split) <;> simp
@[simp] theorem enableLink_queues (s : State) (l : Link) : (s.enableLink l).queues = s.queues := by unfold State.enableLink; (repeat' split) <;> simp
@[simp] theorem enableLink_rrPtr (s : State) (l : Link) : (s.enableLink l).rrPtr = s.rrPtr := by unfold State.enableLink; (repeat' split) <;> simp
@[simp] theorem enableLink_pool (s : State) (l : Link) : (s.enableLink l).pool = s.pool := by unfold State.enableLink; (repeat' split) <;> simp
@[simp] theorem enableLink_params (s : State) (l : Link) : (s.enableLink l).params = s.params := by unfold State.enableLink; (repeat' split) <;> simp
@[simp] theorem enableLink_monitor (s : State) (l : Link) : (s.enableLink l).monitor = s.monitor := by unfold State.enableLink; (repeat' split) <;> simp
@[simp] theorem enableLink_flow (s : State) (l : Link) : (s.enableLink l).flow = s.flow := by unfold State.enableLink; (repeat' split) <;> simp
@[simp] theorem enableLink_epoch (s : State) (l : Link) : (s.enableLink l).epoch = s.epoch := by unfold State.enableLink; (repeat' split) <;> simp
@[simp] theorem enableLink_agent (s : State) (l : Link) : (s.enableLink l).agent = s.agent := by unfold State.enableLink; (repeat' split) <;> simp
@[simp] theorem enableLink_op (s : State) (l : Link) : (s.enableLink l).op = s.op := by unfold State.enableLink; (repeat' split) <;> simp
@[simp] theorem enableLink_scrub (s : State) (l : Link) : (s.enableLink l).scrub = s.scrub := by unfold State.enableLink; (repeat' split) <;> simp
@[simp] theorem enableLink_freeCtr (s : State) (l : Link) : (s.enableLink l).freeCtr = s.freeCtr := by unfold State.enableLink; (repeat' split) <;> simp
@[simp] theorem enableLink_pending (s : State) (l : Link) : (s.enableLink l).pending = s.pending := by unfold State.enableLink; (repeat' split) <;> simp

@[simp] theorem disableLink_rstN (s : State) (l : Link) : (s.disableLink l).rstN = s.rstN := by unfold State.disableLink; (repeat' split) <;> simp
@[simp] theorem disableLink_straps (s : State) (l : Link) : (s.disableLink l).straps = s.straps := by unfold State.disableLink; (repeat' split) <;> simp
@[simp] theorem disableLink_queues (s : State) (l : Link) : (s.disableLink l).queues = s.queues := by unfold State.disableLink; (repeat' split) <;> simp
@[simp] theorem disableLink_rrPtr (s : State) (l : Link) : (s.disableLink l).rrPtr = s.rrPtr := by unfold State.disableLink; (repeat' split) <;> simp
@[simp] theorem disableLink_pool (s : State) (l : Link) : (s.disableLink l).pool = s.pool := by unfold State.disableLink; (repeat' split) <;> simp
@[simp] theorem disableLink_params (s : State) (l : Link) : (s.disableLink l).params = s.params := by unfold State.disableLink; (repeat' split) <;> simp
@[simp] theorem disableLink_monitor (s : State) (l : Link) : (s.disableLink l).monitor = s.monitor := by unfold State.disableLink; (repeat' split) <;> simp
@[simp] theorem disableLink_flow (s : State) (l : Link) : (s.disableLink l).flow = s.flow := by unfold State.disableLink; (repeat' split) <;> simp
@[simp] theorem disableLink_epoch (s : State) (l : Link) : (s.disableLink l).epoch = s.epoch := by unfold State.disableLink; (repeat' split) <;> simp
@[simp] theorem disableLink_op (s : State) (l : Link) : (s.disableLink l).op = s.op := by unfold State.disableLink; (repeat' split) <;> simp
@[simp] theorem disableLink_scrub (s : State) (l : Link) : (s.disableLink l).scrub = s.scrub := by unfold State.disableLink; (repeat' split) <;> simp
@[simp] theorem disableLink_freeCtr (s : State) (l : Link) : (s.disableLink l).freeCtr = s.freeCtr := by unfold State.disableLink; (repeat' split) <;> simp
@[simp] theorem disableLink_pending (s : State) (l : Link) : (s.disableLink l).pending = s.pending := by unfold State.disableLink; (repeat' split) <;> simp

@[simp] theorem emptyReceiveBuffers_rstN (s : State) : (s.emptyReceiveBuffers).rstN = s.rstN := by simp [State.emptyReceiveBuffers]
@[simp] theorem emptyReceiveBuffers_straps (s : State) : (s.emptyReceiveBuffers).straps = s.straps := by simp [State.emptyReceiveBuffers]
@[simp] theorem emptyReceiveBuffers_queues (s : State) : (s.emptyReceiveBuffers).queues = s.queues := by simp [State.emptyReceiveBuffers]
@[simp] theorem emptyReceiveBuffers_rrPtr (s : State) : (s.emptyReceiveBuffers).rrPtr = s.rrPtr := by simp [State.emptyReceiveBuffers]
@[simp] theorem emptyReceiveBuffers_pool (s : State) : (s.emptyReceiveBuffers).pool = s.pool := by simp [State.emptyReceiveBuffers]
@[simp] theorem emptyReceiveBuffers_tables (s : State) : (s.emptyReceiveBuffers).tables = s.tables := by simp [State.emptyReceiveBuffers]
@[simp] theorem emptyReceiveBuffers_params (s : State) : (s.emptyReceiveBuffers).params = s.params := by simp [State.emptyReceiveBuffers]
@[simp] theorem emptyReceiveBuffers_monitor (s : State) : (s.emptyReceiveBuffers).monitor = s.monitor := by simp [State.emptyReceiveBuffers]
@[simp] theorem emptyReceiveBuffers_flow (s : State) : (s.emptyReceiveBuffers).flow = s.flow := by simp [State.emptyReceiveBuffers]
@[simp] theorem emptyReceiveBuffers_epoch (s : State) : (s.emptyReceiveBuffers).epoch = s.epoch := by simp [State.emptyReceiveBuffers]
@[simp] theorem emptyReceiveBuffers_agent (s : State) : (s.emptyReceiveBuffers).agent = s.agent := by simp [State.emptyReceiveBuffers]
@[simp] theorem emptyReceiveBuffers_op (s : State) : (s.emptyReceiveBuffers).op = s.op := by simp [State.emptyReceiveBuffers]
@[simp] theorem emptyReceiveBuffers_scrub (s : State) : (s.emptyReceiveBuffers).scrub = s.scrub := by simp [State.emptyReceiveBuffers]
@[simp] theorem emptyReceiveBuffers_attn (s : State) : (s.emptyReceiveBuffers).attn = s.attn := by simp [State.emptyReceiveBuffers]
@[simp] theorem emptyReceiveBuffers_globals (s : State) : (s.emptyReceiveBuffers).globals = s.globals := by simp [State.emptyReceiveBuffers]
@[simp] theorem emptyReceiveBuffers_freeCtr (s : State) : (s.emptyReceiveBuffers).freeCtr = s.freeCtr := by simp [State.emptyReceiveBuffers]
@[simp] theorem emptyReceiveBuffers_pending (s : State) : (s.emptyReceiveBuffers).pending = s.pending := by simp [State.emptyReceiveBuffers]

@[simp] theorem resetSchedulers_rstN (s : State) : (s.resetSchedulers).rstN = s.rstN := by simp [State.resetSchedulers]
@[simp] theorem resetSchedulers_straps (s : State) : (s.resetSchedulers).straps = s.straps := by simp [State.resetSchedulers]
@[simp] theorem resetSchedulers_queues (s : State) : (s.resetSchedulers).queues = s.queues := by simp [State.resetSchedulers]
@[simp] theorem resetSchedulers_rrPtr (s : State) : (s.resetSchedulers).rrPtr = s.rrPtr := by simp [State.resetSchedulers]
@[simp] theorem resetSchedulers_pool (s : State) : (s.resetSchedulers).pool = s.pool := by simp [State.resetSchedulers]
@[simp] theorem resetSchedulers_tables (s : State) : (s.resetSchedulers).tables = s.tables := by simp [State.resetSchedulers]
@[simp] theorem resetSchedulers_params (s : State) : (s.resetSchedulers).params = s.params := by simp [State.resetSchedulers]
@[simp] theorem resetSchedulers_monitor (s : State) : (s.resetSchedulers).monitor = s.monitor := by simp [State.resetSchedulers]
@[simp] theorem resetSchedulers_flow (s : State) : (s.resetSchedulers).flow = s.flow := by simp [State.resetSchedulers]
@[simp] theorem resetSchedulers_epoch (s : State) : (s.resetSchedulers).epoch = s.epoch := by simp [State.resetSchedulers]
@[simp] theorem resetSchedulers_agent (s : State) : (s.resetSchedulers).agent = s.agent := by simp [State.resetSchedulers]
@[simp] theorem resetSchedulers_op (s : State) : (s.resetSchedulers).op = s.op := by simp [State.resetSchedulers]
@[simp] theorem resetSchedulers_scrub (s : State) : (s.resetSchedulers).scrub = s.scrub := by simp [State.resetSchedulers]
@[simp] theorem resetSchedulers_attn (s : State) : (s.resetSchedulers).attn = s.attn := by simp [State.resetSchedulers]
@[simp] theorem resetSchedulers_globals (s : State) : (s.resetSchedulers).globals = s.globals := by simp [State.resetSchedulers]
@[simp] theorem resetSchedulers_freeCtr (s : State) : (s.resetSchedulers).freeCtr = s.freeCtr := by simp [State.resetSchedulers]
@[simp] theorem resetSchedulers_pending (s : State) : (s.resetSchedulers).pending = s.pending := by simp [State.resetSchedulers]

@[simp] theorem resetDatapath_rstN (s : State) : (s.resetDatapath).rstN = s.rstN := by simp [State.resetDatapath]
@[simp] theorem resetDatapath_straps (s : State) : (s.resetDatapath).straps = s.straps := by simp [State.resetDatapath]
@[simp] theorem resetDatapath_rrPtr (s : State) : (s.resetDatapath).rrPtr = s.rrPtr := by simp [State.resetDatapath]
@[simp] theorem resetDatapath_tables (s : State) : (s.resetDatapath).tables = s.tables := by simp [State.resetDatapath]
@[simp] theorem resetDatapath_params (s : State) : (s.resetDatapath).params = s.params := by simp [State.resetDatapath]
@[simp] theorem resetDatapath_monitor (s : State) : (s.resetDatapath).monitor = s.monitor := by simp [State.resetDatapath]
@[simp] theorem resetDatapath_epoch (s : State) : (s.resetDatapath).epoch = s.epoch := by simp [State.resetDatapath]
@[simp] theorem resetDatapath_agent (s : State) : (s.resetDatapath).agent = s.agent := by simp [State.resetDatapath]
@[simp] theorem resetDatapath_scrub (s : State) : (s.resetDatapath).scrub = s.scrub := by simp [State.resetDatapath]
@[simp] theorem resetDatapath_globals (s : State) : (s.resetDatapath).globals = s.globals := by simp [State.resetDatapath]
@[simp] theorem resetDatapath_freeCtr (s : State) : (s.resetDatapath).freeCtr = s.freeCtr := by simp [State.resetDatapath]
@[simp] theorem resetDatapath_pending (s : State) : (s.resetDatapath).pending = s.pending := by simp [State.resetDatapath]

@[simp] theorem afterWrite_rstN (s : State) (p : Param) : (s.afterWrite p).rstN = s.rstN := by cases p <;> rfl
@[simp] theorem afterWrite_straps (s : State) (p : Param) : (s.afterWrite p).straps = s.straps := by cases p <;> rfl
@[simp] theorem afterWrite_links (s : State) (p : Param) : (s.afterWrite p).links = s.links := by cases p <;> rfl
@[simp] theorem afterWrite_queues (s : State) (p : Param) : (s.afterWrite p).queues = s.queues := by cases p <;> rfl
@[simp] theorem afterWrite_rrPtr (s : State) (p : Param) : (s.afterWrite p).rrPtr = s.rrPtr := by cases p <;> rfl
@[simp] theorem afterWrite_tables (s : State) (p : Param) : (s.afterWrite p).tables = s.tables := by cases p <;> rfl
@[simp] theorem afterWrite_params (s : State) (p : Param) : (s.afterWrite p).params = s.params := by cases p <;> rfl
@[simp] theorem afterWrite_monitor (s : State) (p : Param) : (s.afterWrite p).monitor = s.monitor := by cases p <;> rfl
@[simp] theorem afterWrite_flow (s : State) (p : Param) : (s.afterWrite p).flow = s.flow := by cases p <;> rfl
@[simp] theorem afterWrite_epoch (s : State) (p : Param) : (s.afterWrite p).epoch = s.epoch := by cases p <;> rfl
@[simp] theorem afterWrite_agent (s : State) (p : Param) : (s.afterWrite p).agent = s.agent := by cases p <;> rfl
@[simp] theorem afterWrite_op (s : State) (p : Param) : (s.afterWrite p).op = s.op := by cases p <;> rfl
@[simp] theorem afterWrite_attn (s : State) (p : Param) : (s.afterWrite p).attn = s.attn := by cases p <;> rfl
@[simp] theorem afterWrite_globals (s : State) (p : Param) : (s.afterWrite p).globals = s.globals := by cases p <;> rfl
@[simp] theorem afterWrite_freeCtr (s : State) (p : Param) : (s.afterWrite p).freeCtr = s.freeCtr := by cases p <;> rfl
@[simp] theorem afterWrite_pending (s : State) (p : Param) : (s.afterWrite p).pending = s.pending := by cases p <;> rfl

/-- Taking an outcome apart. -/
theorem next_inj {s t : State} (h : (Host.Outcome.next s : Host.Outcome State Fault Refusal) = .next t) : s = t := by cases h; rfl

theorem selectFrom_rstN (s t : State) (l : Link) (k : Class) (h : s.selectFrom l k = .next t) : t.rstN = s.rstN := by
  unfold State.selectFrom at h
  split at h
  · cases h
  · split at h
    · cases h
    · have := next_inj h; subst this; simp
theorem selectFrom_straps (s t : State) (l : Link) (k : Class) (h : s.selectFrom l k = .next t) : t.straps = s.straps := by
  unfold State.selectFrom at h
  split at h
  · cases h
  · split at h
    · cases h
    · have := next_inj h; subst this; simp
theorem selectFrom_rrPtr (s t : State) (l : Link) (k : Class) (h : s.selectFrom l k = .next t) : t.rrPtr = s.rrPtr := by
  unfold State.selectFrom at h
  split at h
  · cases h
  · split at h
    · cases h
    · have := next_inj h; subst this; simp
theorem selectFrom_pool (s t : State) (l : Link) (k : Class) (h : s.selectFrom l k = .next t) : t.pool = s.pool := by
  unfold State.selectFrom at h
  split at h
  · cases h
  · split at h
    · cases h
    · have := next_inj h; subst this; simp
theorem selectFrom_tables (s t : State) (l : Link) (k : Class) (h : s.selectFrom l k = .next t) : t.tables = s.tables := by
  unfold State.selectFrom at h
  split at h
  · cases h
  · split at h
    · cases h
    · have := next_inj h; subst this; simp
theorem selectFrom_params (s t : State) (l : Link) (k : Class) (h : s.selectFrom l k = .next t) : t.params = s.params := by
  unfold State.selectFrom at h
  split at h
  · cases h
  · split at h
    · cases h
    · have := next_inj h; subst this; simp
theorem selectFrom_monitor (s t : State) (l : Link) (k : Class) (h : s.selectFrom l k = .next t) : t.monitor = s.monitor := by
  unfold State.selectFrom at h
  split at h
  · cases h
  · split at h
    · cases h
    · have := next_inj h; subst this; simp
theorem selectFrom_flow (s t : State) (l : Link) (k : Class) (h : s.selectFrom l k = .next t) : t.flow = s.flow := by
  unfold State.selectFrom at h
  split at h
  · cases h
  · split at h
    · cases h
    · have := next_inj h; subst this; simp
theorem selectFrom_epoch (s t : State) (l : Link) (k : Class) (h : s.selectFrom l k = .next t) : t.epoch = s.epoch := by
  unfold State.selectFrom at h
  split at h
  · cases h
  · split at h
    · cases h
    · have := next_inj h; subst this; simp
theorem selectFrom_agent (s t : State) (l : Link) (k : Class) (h : s.selectFrom l k = .next t) : t.agent = s.agent := by
  unfold State.selectFrom at h
  split at h
  · cases h
  · split at h
    · cases h
    · have := next_inj h; subst this; simp
theorem selectFrom_op (s t : State) (l : Link) (k : Class) (h : s.selectFrom l k = .next t) : t.op = s.op := by
  unfold State.selectFrom at h
  split at h
  · cases h
  · split at h
    · cases h
    · have := next_inj h; subst this; simp
theorem selectFrom_scrub (s t : State) (l : Link) (k : Class) (h : s.selectFrom l k = .next t) : t.scrub = s.scrub := by
  unfold State.selectFrom at h
  split at h
  · cases h
  · split at h
    · cases h
    · have := next_inj h; subst this; simp
theorem selectFrom_attn (s t : State) (l : Link) (k : Class) (h : s.selectFrom l k = .next t) : t.attn = s.attn := by
  unfold State.selectFrom at h
  split at h
  · cases h
  · split at h
    · cases h
    · have := next_inj h; subst this; simp
theorem selectFrom_globals (s t : State) (l : Link) (k : Class) (h : s.selectFrom l k = .next t) : t.globals = s.globals := by
  unfold State.selectFrom at h
  split at h
  · cases h
  · split at h
    · cases h
    · have := next_inj h; subst this; simp
theorem selectFrom_freeCtr (s t : State) (l : Link) (k : Class) (h : s.selectFrom l k = .next t) : t.freeCtr = s.freeCtr := by
  unfold State.selectFrom at h
  split at h
  · cases h
  · split at h
    · cases h
    · have := next_inj h; subst this; simp
theorem selectFrom_pending (s t : State) (l : Link) (k : Class) (h : s.selectFrom l k = .next t) : t.pending = s.pending := by
  unfold State.selectFrom at h
  split at h
  · cases h
  · split at h
    · cases h
    · have := next_inj h; subst this; simp

theorem sendData_rstN (s t : State) (l : Link) (h : s.sendData l = .next t) : t.rstN = s.rstN := by
  unfold State.sendData at h
  split at h
  · exact selectFrom_rstN _ _ _ _ h
  · split at h
    · cases h
    · rw [selectFrom_rstN _ _ _ _ h]; simp
theorem sendData_straps (s t : State) (l : Link) (h : s.sendData l = .next t) : t.straps = s.straps := by
  unfold State.sendData at h
  split at h
  · exact selectFrom_straps _ _ _ _ h
  · split at h
    · cases h
    · rw [selectFrom_straps _ _ _ _ h]; simp
theorem sendData_rrPtr (s t : State) (l : Link) (h : s.sendData l = .next t) : t.rrPtr = s.rrPtr := by
  unfold State.sendData at h
  split at h
  · exact selectFrom_rrPtr _ _ _ _ h
  · split at h
    · cases h
    · rw [selectFrom_rrPtr _ _ _ _ h]; simp
theorem sendData_pool (s t : State) (l : Link) (h : s.sendData l = .next t) : t.pool = s.pool := by
  unfold State.sendData at h
  split at h
  · exact selectFrom_pool _ _ _ _ h
  · split at h
    · cases h
    · rw [selectFrom_pool _ _ _ _ h]; simp
theorem sendData_tables (s t : State) (l : Link) (h : s.sendData l = .next t) : t.tables = s.tables := by
  unfold State.sendData at h
  split at h
  · exact selectFrom_tables _ _ _ _ h
  · split at h
    · cases h
    · rw [selectFrom_tables _ _ _ _ h]; simp
theorem sendData_params (s t : State) (l : Link) (h : s.sendData l = .next t) : t.params = s.params := by
  unfold State.sendData at h
  split at h
  · exact selectFrom_params _ _ _ _ h
  · split at h
    · cases h
    · rw [selectFrom_params _ _ _ _ h]; simp
theorem sendData_monitor (s t : State) (l : Link) (h : s.sendData l = .next t) : t.monitor = s.monitor := by
  unfold State.sendData at h
  split at h
  · exact selectFrom_monitor _ _ _ _ h
  · split at h
    · cases h
    · rw [selectFrom_monitor _ _ _ _ h]; simp
theorem sendData_flow (s t : State) (l : Link) (h : s.sendData l = .next t) : t.flow = s.flow := by
  unfold State.sendData at h
  split at h
  · exact selectFrom_flow _ _ _ _ h
  · split at h
    · cases h
    · rw [selectFrom_flow _ _ _ _ h]; simp
theorem sendData_epoch (s t : State) (l : Link) (h : s.sendData l = .next t) : t.epoch = s.epoch := by
  unfold State.sendData at h
  split at h
  · exact selectFrom_epoch _ _ _ _ h
  · split at h
    · cases h
    · rw [selectFrom_epoch _ _ _ _ h]; simp
theorem sendData_agent (s t : State) (l : Link) (h : s.sendData l = .next t) : t.agent = s.agent := by
  unfold State.sendData at h
  split at h
  · exact selectFrom_agent _ _ _ _ h
  · split at h
    · cases h
    · rw [selectFrom_agent _ _ _ _ h]; simp
theorem sendData_op (s t : State) (l : Link) (h : s.sendData l = .next t) : t.op = s.op := by
  unfold State.sendData at h
  split at h
  · exact selectFrom_op _ _ _ _ h
  · split at h
    · cases h
    · rw [selectFrom_op _ _ _ _ h]; simp
theorem sendData_scrub (s t : State) (l : Link) (h : s.sendData l = .next t) : t.scrub = s.scrub := by
  unfold State.sendData at h
  split at h
  · exact selectFrom_scrub _ _ _ _ h
  · split at h
    · cases h
    · rw [selectFrom_scrub _ _ _ _ h]; simp
theorem sendData_attn (s t : State) (l : Link) (h : s.sendData l = .next t) : t.attn = s.attn := by
  unfold State.sendData at h
  split at h
  · exact selectFrom_attn _ _ _ _ h
  · split at h
    · cases h
    · rw [selectFrom_attn _ _ _ _ h]; simp
theorem sendData_globals (s t : State) (l : Link) (h : s.sendData l = .next t) : t.globals = s.globals := by
  unfold State.sendData at h
  split at h
  · exact selectFrom_globals _ _ _ _ h
  · split at h
    · cases h
    · rw [selectFrom_globals _ _ _ _ h]; simp
theorem sendData_freeCtr (s t : State) (l : Link) (h : s.sendData l = .next t) : t.freeCtr = s.freeCtr := by
  unfold State.sendData at h
  split at h
  · exact selectFrom_freeCtr _ _ _ _ h
  · split at h
    · cases h
    · rw [selectFrom_freeCtr _ _ _ _ h]; simp
theorem sendData_pending (s t : State) (l : Link) (h : s.sendData l = .next t) : t.pending = s.pending := by
  unfold State.sendData at h
  split at h
  · exact selectFrom_pending _ _ _ _ h
  · split at h
    · cases h
    · rw [selectFrom_pending _ _ _ _ h]; simp

theorem chooseAfterAttn_rstN (s t : State) (l : Link) (h : s.chooseAfterAttn l = .next t) : t.rstN = s.rstN := by
  unfold State.chooseAfterAttn at h
  split at h
  · have := next_inj h; subst this; simp
  · split at h
    · exact sendData_rstN _ _ _ h
    · have := next_inj h; subst this; simp
theorem chooseAfterAttn_straps (s t : State) (l : Link) (h : s.chooseAfterAttn l = .next t) : t.straps = s.straps := by
  unfold State.chooseAfterAttn at h
  split at h
  · have := next_inj h; subst this; simp
  · split at h
    · exact sendData_straps _ _ _ h
    · have := next_inj h; subst this; simp
theorem chooseAfterAttn_rrPtr (s t : State) (l : Link) (h : s.chooseAfterAttn l = .next t) : t.rrPtr = s.rrPtr := by
  unfold State.chooseAfterAttn at h
  split at h
  · have := next_inj h; subst this; simp
  · split at h
    · exact sendData_rrPtr _ _ _ h
    · have := next_inj h; subst this; simp
theorem chooseAfterAttn_pool (s t : State) (l : Link) (h : s.chooseAfterAttn l = .next t) : t.pool = s.pool := by
  unfold State.chooseAfterAttn at h
  split at h
  · have := next_inj h; subst this; simp
  · split at h
    · exact sendData_pool _ _ _ h
    · have := next_inj h; subst this; simp
theorem chooseAfterAttn_tables (s t : State) (l : Link) (h : s.chooseAfterAttn l = .next t) : t.tables = s.tables := by
  unfold State.chooseAfterAttn at h
  split at h
  · have := next_inj h; subst this; simp
  · split at h
    · exact sendData_tables _ _ _ h
    · have := next_inj h; subst this; simp
theorem chooseAfterAttn_params (s t : State) (l : Link) (h : s.chooseAfterAttn l = .next t) : t.params = s.params := by
  unfold State.chooseAfterAttn at h
  split at h
  · have := next_inj h; subst this; simp
  · split at h
    · exact sendData_params _ _ _ h
    · have := next_inj h; subst this; simp
theorem chooseAfterAttn_monitor (s t : State) (l : Link) (h : s.chooseAfterAttn l = .next t) : t.monitor = s.monitor := by
  unfold State.chooseAfterAttn at h
  split at h
  · have := next_inj h; subst this; simp
  · split at h
    · exact sendData_monitor _ _ _ h
    · have := next_inj h; subst this; simp
theorem chooseAfterAttn_flow (s t : State) (l : Link) (h : s.chooseAfterAttn l = .next t) : t.flow = s.flow := by
  unfold State.chooseAfterAttn at h
  split at h
  · have := next_inj h; subst this; simp
  · split at h
    · exact sendData_flow _ _ _ h
    · have := next_inj h; subst this; simp
theorem chooseAfterAttn_epoch (s t : State) (l : Link) (h : s.chooseAfterAttn l = .next t) : t.epoch = s.epoch := by
  unfold State.chooseAfterAttn at h
  split at h
  · have := next_inj h; subst this; simp
  · split at h
    · exact sendData_epoch _ _ _ h
    · have := next_inj h; subst this; simp
theorem chooseAfterAttn_agent (s t : State) (l : Link) (h : s.chooseAfterAttn l = .next t) : t.agent = s.agent := by
  unfold State.chooseAfterAttn at h
  split at h
  · have := next_inj h; subst this; simp
  · split at h
    · exact sendData_agent _ _ _ h
    · have := next_inj h; subst this; simp
theorem chooseAfterAttn_op (s t : State) (l : Link) (h : s.chooseAfterAttn l = .next t) : t.op = s.op := by
  unfold State.chooseAfterAttn at h
  split at h
  · have := next_inj h; subst this; simp
  · split at h
    · exact sendData_op _ _ _ h
    · have := next_inj h; subst this; simp
theorem chooseAfterAttn_scrub (s t : State) (l : Link) (h : s.chooseAfterAttn l = .next t) : t.scrub = s.scrub := by
  unfold State.chooseAfterAttn at h
  split at h
  · have := next_inj h; subst this; simp
  · split at h
    · exact sendData_scrub _ _ _ h
    · have := next_inj h; subst this; simp
theorem chooseAfterAttn_attn (s t : State) (l : Link) (h : s.chooseAfterAttn l = .next t) : t.attn = s.attn := by
  unfold State.chooseAfterAttn at h
  split at h
  · have := next_inj h; subst this; simp
  · split at h
    · exact sendData_attn _ _ _ h
    · have := next_inj h; subst this; simp
theorem chooseAfterAttn_globals (s t : State) (l : Link) (h : s.chooseAfterAttn l = .next t) : t.globals = s.globals := by
  unfold State.chooseAfterAttn at h
  split at h
  · have := next_inj h; subst this; simp
  · split at h
    · exact sendData_globals _ _ _ h
    · have := next_inj h; subst this; simp
theorem chooseAfterAttn_freeCtr (s t : State) (l : Link) (h : s.chooseAfterAttn l = .next t) : t.freeCtr = s.freeCtr := by
  unfold State.chooseAfterAttn at h
  split at h
  · have := next_inj h; subst this; simp
  · split at h
    · exact sendData_freeCtr _ _ _ h
    · have := next_inj h; subst this; simp
theorem chooseAfterAttn_pending (s t : State) (l : Link) (h : s.chooseAfterAttn l = .next t) : t.pending = s.pending := by
  unfold State.chooseAfterAttn at h
  split at h
  · have := next_inj h; subst this; simp
  · split at h
    · exact sendData_pending _ _ _ h
    · have := next_inj h; subst this; simp

theorem chooseNext_rstN (s t : State) (l : Link) (h : s.chooseNext l = .next t) : t.rstN = s.rstN := by
  unfold State.chooseNext at h
  split at h
  · have := next_inj h; subst this; simp
  · split at h
    · split at h
      · have := next_inj h; subst this; simp
      · rw [chooseAfterAttn_rstN _ _ _ h]; simp
    · exact chooseAfterAttn_rstN _ _ _ h
theorem chooseNext_straps (s t : State) (l : Link) (h : s.chooseNext l = .next t) : t.straps = s.straps := by
  unfold State.chooseNext at h
  split at h
  · have := next_inj h; subst this; simp
  · split at h
    · split at h
      · have := next_inj h; subst this; simp
      · rw [chooseAfterAttn_straps _ _ _ h]; simp
    · exact chooseAfterAttn_straps _ _ _ h
theorem chooseNext_rrPtr (s t : State) (l : Link) (h : s.chooseNext l = .next t) : t.rrPtr = s.rrPtr := by
  unfold State.chooseNext at h
  split at h
  · have := next_inj h; subst this; simp
  · split at h
    · split at h
      · have := next_inj h; subst this; simp
      · rw [chooseAfterAttn_rrPtr _ _ _ h]; simp
    · exact chooseAfterAttn_rrPtr _ _ _ h
theorem chooseNext_pool (s t : State) (l : Link) (h : s.chooseNext l = .next t) : t.pool = s.pool := by
  unfold State.chooseNext at h
  split at h
  · have := next_inj h; subst this; simp
  · split at h
    · split at h
      · have := next_inj h; subst this; simp
      · rw [chooseAfterAttn_pool _ _ _ h]; simp
    · exact chooseAfterAttn_pool _ _ _ h
theorem chooseNext_tables (s t : State) (l : Link) (h : s.chooseNext l = .next t) : t.tables = s.tables := by
  unfold State.chooseNext at h
  split at h
  · have := next_inj h; subst this; simp
  · split at h
    · split at h
      · have := next_inj h; subst this; simp
      · rw [chooseAfterAttn_tables _ _ _ h]; simp
    · exact chooseAfterAttn_tables _ _ _ h
theorem chooseNext_params (s t : State) (l : Link) (h : s.chooseNext l = .next t) : t.params = s.params := by
  unfold State.chooseNext at h
  split at h
  · have := next_inj h; subst this; simp
  · split at h
    · split at h
      · have := next_inj h; subst this; simp
      · rw [chooseAfterAttn_params _ _ _ h]; simp
    · exact chooseAfterAttn_params _ _ _ h
theorem chooseNext_monitor (s t : State) (l : Link) (h : s.chooseNext l = .next t) : t.monitor = s.monitor := by
  unfold State.chooseNext at h
  split at h
  · have := next_inj h; subst this; simp
  · split at h
    · split at h
      · have := next_inj h; subst this; simp
      · rw [chooseAfterAttn_monitor _ _ _ h]; simp
    · exact chooseAfterAttn_monitor _ _ _ h
theorem chooseNext_flow (s t : State) (l : Link) (h : s.chooseNext l = .next t) : t.flow = s.flow := by
  unfold State.chooseNext at h
  split at h
  · have := next_inj h; subst this; simp
  · split at h
    · split at h
      · have := next_inj h; subst this; simp
      · rw [chooseAfterAttn_flow _ _ _ h]; simp
    · exact chooseAfterAttn_flow _ _ _ h
theorem chooseNext_epoch (s t : State) (l : Link) (h : s.chooseNext l = .next t) : t.epoch = s.epoch := by
  unfold State.chooseNext at h
  split at h
  · have := next_inj h; subst this; simp
  · split at h
    · split at h
      · have := next_inj h; subst this; simp
      · rw [chooseAfterAttn_epoch _ _ _ h]; simp
    · exact chooseAfterAttn_epoch _ _ _ h
theorem chooseNext_op (s t : State) (l : Link) (h : s.chooseNext l = .next t) : t.op = s.op := by
  unfold State.chooseNext at h
  split at h
  · have := next_inj h; subst this; simp
  · split at h
    · split at h
      · have := next_inj h; subst this; simp
      · rw [chooseAfterAttn_op _ _ _ h]; simp
    · exact chooseAfterAttn_op _ _ _ h
theorem chooseNext_scrub (s t : State) (l : Link) (h : s.chooseNext l = .next t) : t.scrub = s.scrub := by
  unfold State.chooseNext at h
  split at h
  · have := next_inj h; subst this; simp
  · split at h
    · split at h
      · have := next_inj h; subst this; simp
      · rw [chooseAfterAttn_scrub _ _ _ h]; simp
    · exact chooseAfterAttn_scrub _ _ _ h
theorem chooseNext_attn (s t : State) (l : Link) (h : s.chooseNext l = .next t) : t.attn = s.attn := by
  unfold State.chooseNext at h
  split at h
  · have := next_inj h; subst this; simp
  · split at h
    · split at h
      · have := next_inj h; subst this; simp
      · rw [chooseAfterAttn_attn _ _ _ h]; simp
    · exact chooseAfterAttn_attn _ _ _ h
theorem chooseNext_globals (s t : State) (l : Link) (h : s.chooseNext l = .next t) : t.globals = s.globals := by
  unfold State.chooseNext at h
  split at h
  · have := next_inj h; subst this; simp
  · split at h
    · split at h
      · have := next_inj h; subst this; simp
      · rw [chooseAfterAttn_globals _ _ _ h]; simp
    · exact chooseAfterAttn_globals _ _ _ h
theorem chooseNext_freeCtr (s t : State) (l : Link) (h : s.chooseNext l = .next t) : t.freeCtr = s.freeCtr := by
  unfold State.chooseNext at h
  split at h
  · have := next_inj h; subst this; simp
  · split at h
    · split at h
      · have := next_inj h; subst this; simp
      · rw [chooseAfterAttn_freeCtr _ _ _ h]; simp
    · exact chooseAfterAttn_freeCtr _ _ _ h
theorem chooseNext_pending (s t : State) (l : Link) (h : s.chooseNext l = .next t) : t.pending = s.pending := by
  unfold State.chooseNext at h
  split at h
  · have := next_inj h; subst this; simp
  · split at h
    · split at h
      · have := next_inj h; subst this; simp
      · rw [chooseAfterAttn_pending _ _ _ h]; simp
    · exact chooseAfterAttn_pending _ _ _ h

theorem nextCell_rstN (s t : State) (l : Link) (h : s.nextCell l = .next t) : t.rstN = s.rstN := by
  unfold State.nextCell at h
  split at h
  · exact chooseNext_rstN _ _ _ h
  · split at h
    · have := next_inj h; subst this; simp
    · rw [chooseNext_rstN _ _ _ h]; simp
theorem nextCell_straps (s t : State) (l : Link) (h : s.nextCell l = .next t) : t.straps = s.straps := by
  unfold State.nextCell at h
  split at h
  · exact chooseNext_straps _ _ _ h
  · split at h
    · have := next_inj h; subst this; simp
    · rw [chooseNext_straps _ _ _ h]; simp
theorem nextCell_rrPtr (s t : State) (l : Link) (h : s.nextCell l = .next t) : t.rrPtr = s.rrPtr := by
  unfold State.nextCell at h
  split at h
  · exact chooseNext_rrPtr _ _ _ h
  · split at h
    · have := next_inj h; subst this; simp
    · rw [chooseNext_rrPtr _ _ _ h]; simp
theorem nextCell_params (s t : State) (l : Link) (h : s.nextCell l = .next t) : t.params = s.params := by
  unfold State.nextCell at h
  split at h
  · exact chooseNext_params _ _ _ h
  · split at h
    · have := next_inj h; subst this; simp
    · rw [chooseNext_params _ _ _ h]; simp
theorem nextCell_monitor (s t : State) (l : Link) (h : s.nextCell l = .next t) : t.monitor = s.monitor := by
  unfold State.nextCell at h
  split at h
  · exact chooseNext_monitor _ _ _ h
  · split at h
    · have := next_inj h; subst this; simp
    · rw [chooseNext_monitor _ _ _ h]; simp
theorem nextCell_flow (s t : State) (l : Link) (h : s.nextCell l = .next t) : t.flow = s.flow := by
  unfold State.nextCell at h
  split at h
  · exact chooseNext_flow _ _ _ h
  · split at h
    · have := next_inj h; subst this; simp
    · rw [chooseNext_flow _ _ _ h]; simp
theorem nextCell_epoch (s t : State) (l : Link) (h : s.nextCell l = .next t) : t.epoch = s.epoch := by
  unfold State.nextCell at h
  split at h
  · exact chooseNext_epoch _ _ _ h
  · split at h
    · have := next_inj h; subst this; simp
    · rw [chooseNext_epoch _ _ _ h]; simp
theorem nextCell_op (s t : State) (l : Link) (h : s.nextCell l = .next t) : t.op = s.op := by
  unfold State.nextCell at h
  split at h
  · exact chooseNext_op _ _ _ h
  · split at h
    · have := next_inj h; subst this; simp
    · rw [chooseNext_op _ _ _ h]; simp
theorem nextCell_scrub (s t : State) (l : Link) (h : s.nextCell l = .next t) : t.scrub = s.scrub := by
  unfold State.nextCell at h
  split at h
  · exact chooseNext_scrub _ _ _ h
  · split at h
    · have := next_inj h; subst this; simp
    · rw [chooseNext_scrub _ _ _ h]; simp
theorem nextCell_freeCtr (s t : State) (l : Link) (h : s.nextCell l = .next t) : t.freeCtr = s.freeCtr := by
  unfold State.nextCell at h
  split at h
  · exact chooseNext_freeCtr _ _ _ h
  · split at h
    · have := next_inj h; subst this; simp
    · rw [chooseNext_freeCtr _ _ _ h]; simp
theorem nextCell_pending (s t : State) (l : Link) (h : s.nextCell l = .next t) : t.pending = s.pending := by
  unfold State.nextCell at h
  split at h
  · exact chooseNext_pending _ _ _ h
  · split at h
    · have := next_inj h; subst this; simp
    · rw [chooseNext_pending _ _ _ h]; simp

end Sys2Proof.Laws
end

