-- ==== Sys2Proof/Laws/Requests.lean ====
section
/-! SUPPORT. The requests: what serving a request can do, and what each execution leaves alone. -/

namespace Sys2Proof.Laws

open Sys2Proof.Machine

/-- The head request of a row is the head of the agent's queue. -/
theorem headRequest_some {s : State} {row : RequestRow} {r : Carried} (h : s.headRequest row = some r) :
    s.rstN = true ∧ s.agent.held = none ∧ requestRow r.record = row ∧ s.agent.queue = r :: s.agent.queue.tail := by
  unfold State.headRequest at h
  split at h
  · rename_i h1 h2 h3
    split at h
    · cases h
      simp [h1, h2, h3]
      assumption
    · cases h
  · cases h

/-- A request of the row at the head is the head request. -/
theorem headRequest_of {s : State} {row : RequestRow} {l : Link} {record : Payload} {rest : List Carried} (h1 : s.rstN = true)
    (h2 : s.agent.held = none) (h3 : s.agent.queue = ⟨l, record⟩ :: rest) (h4 : requestRow record = row) :
    s.headRequest row = some ⟨l, record⟩ := by
  unfold State.headRequest
  rw [h1, h2, h3]
  simp [h4]

/-- Everything serving can do: nothing, or the head request is executed and its response placed. -/
theorem serve_cases (s : State) (row : RequestRow) (execute : Payload → State → Answer × State) :
    s.serve row execute = s ∨ ∃ r, s.headRequest row = some r ∧
      s.serve row execute =
        ({ (execute r.record { s with agent := { s.agent with queue := s.agent.queue.tail } }).2 with
            freeCtr := (execute r.record { s with agent := { s.agent with queue := s.agent.queue.tail } }).2.freeCtr + 64 }).place r.link
          (responseRecord r.record (execute r.record { s with agent := { s.agent with queue := s.agent.queue.tail } }).1) := by
  unfold State.serve
  split
  · exact Or.inl rfl
  · rename_i r hr
    exact Or.inr ⟨r, hr, rfl⟩

theorem serve_rstN (s : State) (row : RequestRow) (execute : Payload → State → Answer × State)
    (h : ∀ r u, (execute r u).2.rstN = u.rstN) : (s.serve row execute).rstN = s.rstN := by
  unfold State.serve
  split
  · rfl
  · simp [h]

theorem serve_straps (s : State) (row : RequestRow) (execute : Payload → State → Answer × State)
    (h : ∀ r u, (execute r u).2.straps = u.straps) : (s.serve row execute).straps = s.straps := by
  unfold State.serve
  split
  · rfl
  · simp [h]

theorem serve_queues (s : State) (row : RequestRow) (execute : Payload → State → Answer × State)
    (h : ∀ r u, (execute r u).2.queues = u.queues) : (s.serve row execute).queues = s.queues := by
  unfold State.serve
  split
  · rfl
  · simp [h]

theorem serve_rrPtr (s : State) (row : RequestRow) (execute : Payload → State → Answer × State)
    (h : ∀ r u, (execute r u).2.rrPtr = u.rrPtr) : (s.serve row execute).rrPtr = s.rrPtr := by
  unfold State.serve
  split
  · rfl
  · simp [h]

theorem serve_pool (s : State) (row : RequestRow) (execute : Payload → State → Answer × State)
    (h : ∀ r u, (execute r u).2.pool = u.pool) : (s.serve row execute).pool = s.pool := by
  unfold State.serve
  split
  · rfl
  · simp [h]

theorem serve_tables (s : State) (row : RequestRow) (execute : Payload → State → Answer × State)
    (h : ∀ r u, (execute r u).2.tables = u.tables) : (s.serve row execute).tables = s.tables := by
  unfold State.serve
  split
  · rfl
  · simp [h]

theorem serve_params (s : State) (row : RequestRow) (execute : Payload → State → Answer × State)
    (h : ∀ r u, (execute r u).2.params = u.params) : (s.serve row execute).params = s.params := by
  unfold State.serve
  split
  · rfl
  · simp [h]

theorem serve_monitor (s : State) (row : RequestRow) (execute : Payload → State → Answer × State)
    (h : ∀ r u, (execute r u).2.monitor = u.monitor) : (s.serve row execute).monitor = s.monitor := by
  unfold State.serve
  split
  · rfl
  · simp [h]

theorem serve_flow (s : State) (row : RequestRow) (execute : Payload → State → Answer × State)
    (h : ∀ r u, (execute r u).2.flow = u.flow) : (s.serve row execute).flow = s.flow := by
  unfold State.serve
  split
  · rfl
  · simp [h]

theorem serve_epoch (s : State) (row : RequestRow) (execute : Payload → State → Answer × State)
    (h : ∀ r u, (execute r u).2.epoch = u.epoch) : (s.serve row execute).epoch = s.epoch := by
  unfold State.serve
  split
  · rfl
  · simp [h]

theorem serve_op (s : State) (row : RequestRow) (execute : Payload → State → Answer × State)
    (h : ∀ r u, (execute r u).2.op = u.op) : (s.serve row execute).op = s.op := by
  unfold State.serve
  split
  · rfl
  · simp [h]

theorem serve_scrub (s : State) (row : RequestRow) (execute : Payload → State → Answer × State)
    (h : ∀ r u, (execute r u).2.scrub = u.scrub) : (s.serve row execute).scrub = s.scrub := by
  unfold State.serve
  split
  · rfl
  · simp [h]

theorem serve_attn (s : State) (row : RequestRow) (execute : Payload → State → Answer × State)
    (h : ∀ r u, (execute r u).2.attn = u.attn) : (s.serve row execute).attn = s.attn := by
  unfold State.serve
  split
  · rfl
  · simp [h]

theorem serve_pending (s : State) (row : RequestRow) (execute : Payload → State → Answer × State)
    (h : ∀ r u, (execute r u).2.pending = u.pending) : (s.serve row execute).pending = s.pending := by
  unfold State.serve
  split
  · rfl
  · simp [h]

@[simp] theorem answerReadIdentity_rstN (r : Payload) (s : State) : (answerReadIdentity r s).2.rstN = s.rstN := by simp [answerReadIdentity]
@[simp] theorem answerReadIdentity_straps (r : Payload) (s : State) : (answerReadIdentity r s).2.straps = s.straps := by simp [answerReadIdentity]
@[simp] theorem answerReadIdentity_links (r : Payload) (s : State) : (answerReadIdentity r s).2.links = s.links := by simp [answerReadIdentity]
@[simp] theorem answerReadIdentity_queues (r : Payload) (s : State) : (answerReadIdentity r s).2.queues = s.queues := by simp [answerReadIdentity]
@[simp] theorem answerReadIdentity_rrPtr (r : Payload) (s : State) : (answerReadIdentity r s).2.rrPtr = s.rrPtr := by simp [answerReadIdentity]
@[simp] theorem answerReadIdentity_pool (r : Payload) (s : State) : (answerReadIdentity r s).2.pool = s.pool := by simp [answerReadIdentity]
@[simp] theorem answerReadIdentity_tables (r : Payload) (s : State) : (answerReadIdentity r s).2.tables = s.tables := by simp [answerReadIdentity]
@[simp] theorem answerReadIdentity_params (r : Payload) (s : State) : (answerReadIdentity r s).2.params = s.params := by simp [answerReadIdentity]
@[simp] theorem answerReadIdentity_monitor (r : Payload) (s : State) : (answerReadIdentity r s).2.monitor = s.monitor := by simp [answerReadIdentity]
@[simp] theorem answerReadIdentity_flow (r : Payload) (s : State) : (answerReadIdentity r s).2.flow = s.flow := by simp [answerReadIdentity]
@[simp] theorem answerReadIdentity_epoch (r : Payload) (s : State) : (answerReadIdentity r s).2.epoch = s.epoch := by simp [answerReadIdentity]
@[simp] theorem answerReadIdentity_agent (r : Payload) (s : State) : (answerReadIdentity r s).2.agent = s.agent := by simp [answerReadIdentity]
@[simp] theorem answerReadIdentity_op (r : Payload) (s : State) : (answerReadIdentity r s).2.op = s.op := by simp [answerReadIdentity]
@[simp] theorem answerReadIdentity_scrub (r : Payload) (s : State) : (answerReadIdentity r s).2.scrub = s.scrub := by simp [answerReadIdentity]
@[simp] theorem answerReadIdentity_attn (r : Payload) (s : State) : (answerReadIdentity r s).2.attn = s.attn := by simp [answerReadIdentity]
@[simp] theorem answerReadIdentity_globals (r : Payload) (s : State) : (answerReadIdentity r s).2.globals = s.globals := by simp [answerReadIdentity]
@[simp] theorem answerReadIdentity_freeCtr (r : Payload) (s : State) : (answerReadIdentity r s).2.freeCtr = s.freeCtr := by simp [answerReadIdentity]
@[simp] theorem answerReadIdentity_pending (r : Payload) (s : State) : (answerReadIdentity r s).2.pending = s.pending := by simp [answerReadIdentity]

@[simp] theorem answerReadStatus_rstN (r : Payload) (s : State) : (answerReadStatus r s).2.rstN = s.rstN := by
  unfold answerReadStatus
  split <;> rfl
@[simp] theorem answerReadStatus_straps (r : Payload) (s : State) : (answerReadStatus r s).2.straps = s.straps := by
  unfold answerReadStatus
  split <;> rfl
@[simp] theorem answerReadStatus_links (r : Payload) (s : State) : (answerReadStatus r s).2.links = s.links := by
  unfold answerReadStatus
  split <;> rfl
@[simp] theorem answerReadStatus_queues (r : Payload) (s : State) : (answerReadStatus r s).2.queues = s.queues := by
  unfold answerReadStatus
  split <;> rfl
@[simp] theorem answerReadStatus_rrPtr (r : Payload) (s : State) : (answerReadStatus r s).2.rrPtr = s.rrPtr := by
  unfold answerReadStatus
  split <;> rfl
@[simp] theorem answerReadStatus_pool (r : Payload) (s : State) : (answerReadStatus r s).2.pool = s.pool := by
  unfold answerReadStatus
  split <;> rfl
@[simp] theorem answerReadStatus_tables (r : Payload) (s : State) : (answerReadStatus r s).2.tables = s.tables := by
  unfold answerReadStatus
  split <;> rfl
@[simp] theorem answerReadStatus_params (r : Payload) (s : State) : (answerReadStatus r s).2.params = s.params := by
  unfold answerReadStatus
  split <;> rfl
@[simp] theorem answerReadStatus_monitor (r : Payload) (s : State) : (answerReadStatus r s).2.monitor = s.monitor := by
  unfold answerReadStatus
  split <;> rfl
@[simp] theorem answerReadStatus_flow (r : Payload) (s : State) : (answerReadStatus r s).2.flow = s.flow := by
  unfold answerReadStatus
  split <;> rfl
@[simp] theorem answerReadStatus_epoch (r : Payload) (s : State) : (answerReadStatus r s).2.epoch = s.epoch := by
  unfold answerReadStatus
  split <;> rfl
@[simp] theorem answerReadStatus_agent (r : Payload) (s : State) : (answerReadStatus r s).2.agent = s.agent := by
  unfold answerReadStatus
  split <;> rfl
@[simp] theorem answerReadStatus_op (r : Payload) (s : State) : (answerReadStatus r s).2.op = s.op := by
  unfold answerReadStatus
  split <;> rfl
@[simp] theorem answerReadStatus_scrub (r : Payload) (s : State) : (answerReadStatus r s).2.scrub = s.scrub := by
  unfold answerReadStatus
  split <;> rfl
@[simp] theorem answerReadStatus_attn (r : Payload) (s : State) : (answerReadStatus r s).2.attn = s.attn := by
  unfold answerReadStatus
  split <;> rfl
@[simp] theorem answerReadStatus_globals (r : Payload) (s : State) : (answerReadStatus r s).2.globals = s.globals := by
  unfold answerReadStatus
  split <;> rfl
@[simp] theorem answerReadStatus_freeCtr (r : Payload) (s : State) : (answerReadStatus r s).2.freeCtr = s.freeCtr := by
  unfold answerReadStatus
  split <;> rfl
@[simp] theorem answerReadStatus_pending (r : Payload) (s : State) : (answerReadStatus r s).2.pending = s.pending := by
  unfold answerReadStatus
  split <;> rfl

@[simp] theorem answerReadQueueSnapshot_rstN (r : Payload) (s : State) : (answerReadQueueSnapshot r s).2.rstN = s.rstN := by
  unfold answerReadQueueSnapshot
  split <;> rfl
@[simp] theorem answerReadQueueSnapshot_straps (r : Payload) (s : State) : (answerReadQueueSnapshot r s).2.straps = s.straps := by
  unfold answerReadQueueSnapshot
  split <;> rfl
@[simp] theorem answerReadQueueSnapshot_links (r : Payload) (s : State) : (answerReadQueueSnapshot r s).2.links = s.links := by
  unfold answerReadQueueSnapshot
  split <;> rfl
@[simp] theorem answerReadQueueSnapshot_queues (r : Payload) (s : State) : (answerReadQueueSnapshot r s).2.queues = s.queues := by
  unfold answerReadQueueSnapshot
  split <;> rfl
@[simp] theorem answerReadQueueSnapshot_rrPtr (r : Payload) (s : State) : (answerReadQueueSnapshot r s).2.rrPtr = s.rrPtr := by
  unfold answerReadQueueSnapshot
  split <;> rfl
@[simp] theorem answerReadQueueSnapshot_pool (r : Payload) (s : State) : (answerReadQueueSnapshot r s).2.pool = s.pool := by
  unfold answerReadQueueSnapshot
  split <;> rfl
@[simp] theorem answerReadQueueSnapshot_tables (r : Payload) (s : State) : (answerReadQueueSnapshot r s).2.tables = s.tables := by
  unfold answerReadQueueSnapshot
  split <;> rfl
@[simp] theorem answerReadQueueSnapshot_params (r : Payload) (s : State) : (answerReadQueueSnapshot r s).2.params = s.params := by
  unfold answerReadQueueSnapshot
  split <;> rfl
@[simp] theorem answerReadQueueSnapshot_monitor (r : Payload) (s : State) : (answerReadQueueSnapshot r s).2.monitor = s.monitor := by
  unfold answerReadQueueSnapshot
  split <;> rfl
@[simp] theorem answerReadQueueSnapshot_flow (r : Payload) (s : State) : (answerReadQueueSnapshot r s).2.flow = s.flow := by
  unfold answerReadQueueSnapshot
  split <;> rfl
@[simp] theorem answerReadQueueSnapshot_epoch (r : Payload) (s : State) : (answerReadQueueSnapshot r s).2.epoch = s.epoch := by
  unfold answerReadQueueSnapshot
  split <;> rfl
@[simp] theorem answerReadQueueSnapshot_agent (r : Payload) (s : State) : (answerReadQueueSnapshot r s).2.agent = s.agent := by
  unfold answerReadQueueSnapshot
  split <;> rfl
@[simp] theorem answerReadQueueSnapshot_op (r : Payload) (s : State) : (answerReadQueueSnapshot r s).2.op = s.op := by
  unfold answerReadQueueSnapshot
  split <;> rfl
@[simp] theorem answerReadQueueSnapshot_scrub (r : Payload) (s : State) : (answerReadQueueSnapshot r s).2.scrub = s.scrub := by
  unfold answerReadQueueSnapshot
  split <;> rfl
@[simp] theorem answerReadQueueSnapshot_attn (r : Payload) (s : State) : (answerReadQueueSnapshot r s).2.attn = s.attn := by
  unfold answerReadQueueSnapshot
  split <;> rfl
@[simp] theorem answerReadQueueSnapshot_globals (r : Payload) (s : State) : (answerReadQueueSnapshot r s).2.globals = s.globals := by
  unfold answerReadQueueSnapshot
  split <;> rfl
@[simp] theorem answerReadQueueSnapshot_freeCtr (r : Payload) (s : State) : (answerReadQueueSnapshot r s).2.freeCtr = s.freeCtr := by
  unfold answerReadQueueSnapshot
  split <;> rfl
@[simp] theorem answerReadQueueSnapshot_pending (r : Payload) (s : State) : (answerReadQueueSnapshot r s).2.pending = s.pending := by
  unfold answerReadQueueSnapshot
  split <;> rfl

@[simp] theorem answerReadCounters_rstN (r : Payload) (s : State) : (answerReadCounters r s).2.rstN = s.rstN := by
  unfold answerReadCounters
  (repeat' split) <;> simp 
@[simp] theorem answerReadCounters_straps (r : Payload) (s : State) : (answerReadCounters r s).2.straps = s.straps := by
  unfold answerReadCounters
  (repeat' split) <;> simp 
@[simp] theorem answerReadCounters_rrPtr (r : Payload) (s : State) : (answerReadCounters r s).2.rrPtr = s.rrPtr := by
  unfold answerReadCounters
  (repeat' split) <;> simp 
@[simp] theorem answerReadCounters_pool (r : Payload) (s : State) : (answerReadCounters r s).2.pool = s.pool := by
  unfold answerReadCounters
  (repeat' split) <;> simp 
@[simp] theorem answerReadCounters_tables (r : Payload) (s : State) : (answerReadCounters r s).2.tables = s.tables := by
  unfold answerReadCounters
  (repeat' split) <;> simp 
@[simp] theorem answerReadCounters_params (r : Payload) (s : State) : (answerReadCounters r s).2.params = s.params := by
  unfold answerReadCounters
  (repeat' split) <;> simp 
@[simp] theorem answerReadCounters_monitor (r : Payload) (s : State) : (answerReadCounters r s).2.monitor = s.monitor := by
  unfold answerReadCounters
  (repeat' split) <;> simp 
@[simp] theorem answerReadCounters_flow (r : Payload) (s : State) : (answerReadCounters r s).2.flow = s.flow := by
  unfold answerReadCounters
  (repeat' split) <;> simp 
@[simp] theorem answerReadCounters_epoch (r : Payload) (s : State) : (answerReadCounters r s).2.epoch = s.epoch := by
  unfold answerReadCounters
  (repeat' split) <;> simp 
@[simp] theorem answerReadCounters_agent (r : Payload) (s : State) : (answerReadCounters r s).2.agent = s.agent := by
  unfold answerReadCounters
  (repeat' split) <;> simp 
@[simp] theorem answerReadCounters_op (r : Payload) (s : State) : (answerReadCounters r s).2.op = s.op := by
  unfold answerReadCounters
  (repeat' split) <;> simp 
@[simp] theorem answerReadCounters_scrub (r : Payload) (s : State) : (answerReadCounters r s).2.scrub = s.scrub := by
  unfold answerReadCounters
  (repeat' split) <;> simp 
@[simp] theorem answerReadCounters_attn (r : Payload) (s : State) : (answerReadCounters r s).2.attn = s.attn := by
  unfold answerReadCounters
  (repeat' split) <;> simp 
@[simp] theorem answerReadCounters_freeCtr (r : Payload) (s : State) : (answerReadCounters r s).2.freeCtr = s.freeCtr := by
  unfold answerReadCounters
  (repeat' split) <;> simp 
@[simp] theorem answerReadCounters_pending (r : Payload) (s : State) : (answerReadCounters r s).2.pending = s.pending := by
  unfold answerReadCounters
  (repeat' split) <;> simp 

@[simp] theorem answerReadAttention_rstN (r : Payload) (s : State) : (answerReadAttention r s).2.rstN = s.rstN := by simp [answerReadAttention]
@[simp] theorem answerReadAttention_straps (r : Payload) (s : State) : (answerReadAttention r s).2.straps = s.straps := by simp [answerReadAttention]
@[simp] theorem answerReadAttention_links (r : Payload) (s : State) : (answerReadAttention r s).2.links = s.links := by simp [answerReadAttention]
@[simp] theorem answerReadAttention_queues (r : Payload) (s : State) : (answerReadAttention r s).2.queues = s.queues := by simp [answerReadAttention]
@[simp] theorem answerReadAttention_rrPtr (r : Payload) (s : State) : (answerReadAttention r s).2.rrPtr = s.rrPtr := by simp [answerReadAttention]
@[simp] theorem answerReadAttention_pool (r : Payload) (s : State) : (answerReadAttention r s).2.pool = s.pool := by simp [answerReadAttention]
@[simp] theorem answerReadAttention_tables (r : Payload) (s : State) : (answerReadAttention r s).2.tables = s.tables := by simp [answerReadAttention]
@[simp] theorem answerReadAttention_params (r : Payload) (s : State) : (answerReadAttention r s).2.params = s.params := by simp [answerReadAttention]
@[simp] theorem answerReadAttention_monitor (r : Payload) (s : State) : (answerReadAttention r s).2.monitor = s.monitor := by simp [answerReadAttention]
@[simp] theorem answerReadAttention_flow (r : Payload) (s : State) : (answerReadAttention r s).2.flow = s.flow := by simp [answerReadAttention]
@[simp] theorem answerReadAttention_epoch (r : Payload) (s : State) : (answerReadAttention r s).2.epoch = s.epoch := by simp [answerReadAttention]
@[simp] theorem answerReadAttention_agent (r : Payload) (s : State) : (answerReadAttention r s).2.agent = s.agent := by simp [answerReadAttention]
@[simp] theorem answerReadAttention_op (r : Payload) (s : State) : (answerReadAttention r s).2.op = s.op := by simp [answerReadAttention]
@[simp] theorem answerReadAttention_scrub (r : Payload) (s : State) : (answerReadAttention r s).2.scrub = s.scrub := by simp [answerReadAttention]
@[simp] theorem answerReadAttention_globals (r : Payload) (s : State) : (answerReadAttention r s).2.globals = s.globals := by simp [answerReadAttention]
@[simp] theorem answerReadAttention_freeCtr (r : Payload) (s : State) : (answerReadAttention r s).2.freeCtr = s.freeCtr := by simp [answerReadAttention]
@[simp] theorem answerReadAttention_pending (r : Payload) (s : State) : (answerReadAttention r s).2.pending = s.pending := by simp [answerReadAttention]

@[simp] theorem answerReadMissRecord_rstN (r : Payload) (s : State) : (answerReadMissRecord r s).2.rstN = s.rstN := by simp [answerReadMissRecord]
@[simp] theorem answerReadMissRecord_straps (r : Payload) (s : State) : (answerReadMissRecord r s).2.straps = s.straps := by simp [answerReadMissRecord]
@[simp] theorem answerReadMissRecord_links (r : Payload) (s : State) : (answerReadMissRecord r s).2.links = s.links := by simp [answerReadMissRecord]
@[simp] theorem answerReadMissRecord_queues (r : Payload) (s : State) : (answerReadMissRecord r s).2.queues = s.queues := by simp [answerReadMissRecord]
@[simp] theorem answerReadMissRecord_rrPtr (r : Payload) (s : State) : (answerReadMissRecord r s).2.rrPtr = s.rrPtr := by simp [answerReadMissRecord]
@[simp] theorem answerReadMissRecord_pool (r : Payload) (s : State) : (answerReadMissRecord r s).2.pool = s.pool := by simp [answerReadMissRecord]
@[simp] theorem answerReadMissRecord_tables (r : Payload) (s : State) : (answerReadMissRecord r s).2.tables = s.tables := by simp [answerReadMissRecord]
@[simp] theorem answerReadMissRecord_params (r : Payload) (s : State) : (answerReadMissRecord r s).2.params = s.params := by simp [answerReadMissRecord]
@[simp] theorem answerReadMissRecord_monitor (r : Payload) (s : State) : (answerReadMissRecord r s).2.monitor = s.monitor := by simp [answerReadMissRecord]
@[simp] theorem answerReadMissRecord_flow (r : Payload) (s : State) : (answerReadMissRecord r s).2.flow = s.flow := by simp [answerReadMissRecord]
@[simp] theorem answerReadMissRecord_epoch (r : Payload) (s : State) : (answerReadMissRecord r s).2.epoch = s.epoch := by simp [answerReadMissRecord]
@[simp] theorem answerReadMissRecord_agent (r : Payload) (s : State) : (answerReadMissRecord r s).2.agent = s.agent := by simp [answerReadMissRecord]
@[simp] theorem answerReadMissRecord_op (r : Payload) (s : State) : (answerReadMissRecord r s).2.op = s.op := by simp [answerReadMissRecord]
@[simp] theorem answerReadMissRecord_scrub (r : Payload) (s : State) : (answerReadMissRecord r s).2.scrub = s.scrub := by simp [answerReadMissRecord]
@[simp] theorem answerReadMissRecord_globals (r : Payload) (s : State) : (answerReadMissRecord r s).2.globals = s.globals := by simp [answerReadMissRecord]
@[simp] theorem answerReadMissRecord_freeCtr (r : Payload) (s : State) : (answerReadMissRecord r s).2.freeCtr = s.freeCtr := by simp [answerReadMissRecord]
@[simp] theorem answerReadMissRecord_pending (r : Payload) (s : State) : (answerReadMissRecord r s).2.pending = s.pending := by simp [answerReadMissRecord]

@[simp] theorem answerReadParameter_rstN (r : Payload) (s : State) : (answerReadParameter r s).2.rstN = s.rstN := by
  unfold answerReadParameter
  split <;> rfl
@[simp] theorem answerReadParameter_straps (r : Payload) (s : State) : (answerReadParameter r s).2.straps = s.straps := by
  unfold answerReadParameter
  split <;> rfl
@[simp] theorem answerReadParameter_links (r : Payload) (s : State) : (answerReadParameter r s).2.links = s.links := by
  unfold answerReadParameter
  split <;> rfl
@[simp] theorem answerReadParameter_queues (r : Payload) (s : State) : (answerReadParameter r s).2.queues = s.queues := by
  unfold answerReadParameter
  split <;> rfl
@[simp] theorem answerReadParameter_rrPtr (r : Payload) (s : State) : (answerReadParameter r s).2.rrPtr = s.rrPtr := by
  unfold answerReadParameter
  split <;> rfl
@[simp] theorem answerReadParameter_pool (r : Payload) (s : State) : (answerReadParameter r s).2.pool = s.pool := by
  unfold answerReadParameter
  split <;> rfl
@[simp] theorem answerReadParameter_tables (r : Payload) (s : State) : (answerReadParameter r s).2.tables = s.tables := by
  unfold answerReadParameter
  split <;> rfl
@[simp] theorem answerReadParameter_params (r : Payload) (s : State) : (answerReadParameter r s).2.params = s.params := by
  unfold answerReadParameter
  split <;> rfl
@[simp] theorem answerReadParameter_monitor (r : Payload) (s : State) : (answerReadParameter r s).2.monitor = s.monitor := by
  unfold answerReadParameter
  split <;> rfl
@[simp] theorem answerReadParameter_flow (r : Payload) (s : State) : (answerReadParameter r s).2.flow = s.flow := by
  unfold answerReadParameter
  split <;> rfl
@[simp] theorem answerReadParameter_epoch (r : Payload) (s : State) : (answerReadParameter r s).2.epoch = s.epoch := by
  unfold answerReadParameter
  split <;> rfl
@[simp] theorem answerReadParameter_agent (r : Payload) (s : State) : (answerReadParameter r s).2.agent = s.agent := by
  unfold answerReadParameter
  split <;> rfl
@[simp] theorem answerReadParameter_op (r : Payload) (s : State) : (answerReadParameter r s).2.op = s.op := by
  unfold answerReadParameter
  split <;> rfl
@[simp] theorem answerReadParameter_scrub (r : Payload) (s : State) : (answerReadParameter r s).2.scrub = s.scrub := by
  unfold answerReadParameter
  split <;> rfl
@[simp] theorem answerReadParameter_attn (r : Payload) (s : State) : (answerReadParameter r s).2.attn = s.attn := by
  unfold answerReadParameter
  split <;> rfl
@[simp] theorem answerReadParameter_globals (r : Payload) (s : State) : (answerReadParameter r s).2.globals = s.globals := by
  unfold answerReadParameter
  split <;> rfl
@[simp] theorem answerReadParameter_freeCtr (r : Payload) (s : State) : (answerReadParameter r s).2.freeCtr = s.freeCtr := by
  unfold answerReadParameter
  split <;> rfl
@[simp] theorem answerReadParameter_pending (r : Payload) (s : State) : (answerReadParameter r s).2.pending = s.pending := by
  unfold answerReadParameter
  split <;> rfl

@[simp] theorem answerUndefined_rstN (r : Payload) (s : State) : (answerUndefined r s).2.rstN = s.rstN := by simp [answerUndefined]
@[simp] theorem answerUndefined_straps (r : Payload) (s : State) : (answerUndefined r s).2.straps = s.straps := by simp [answerUndefined]
@[simp] theorem answerUndefined_links (r : Payload) (s : State) : (answerUndefined r s).2.links = s.links := by simp [answerUndefined]
@[simp] theorem answerUndefined_queues (r : Payload) (s : State) : (answerUndefined r s).2.queues = s.queues := by simp [answerUndefined]
@[simp] theorem answerUndefined_rrPtr (r : Payload) (s : State) : (answerUndefined r s).2.rrPtr = s.rrPtr := by simp [answerUndefined]
@[simp] theorem answerUndefined_pool (r : Payload) (s : State) : (answerUndefined r s).2.pool = s.pool := by simp [answerUndefined]
@[simp] theorem answerUndefined_tables (r : Payload) (s : State) : (answerUndefined r s).2.tables = s.tables := by simp [answerUndefined]
@[simp] theorem answerUndefined_params (r : Payload) (s : State) : (answerUndefined r s).2.params = s.params := by simp [answerUndefined]
@[simp] theorem answerUndefined_monitor (r : Payload) (s : State) : (answerUndefined r s).2.monitor = s.monitor := by simp [answerUndefined]
@[simp] theorem answerUndefined_flow (r : Payload) (s : State) : (answerUndefined r s).2.flow = s.flow := by simp [answerUndefined]
@[simp] theorem answerUndefined_epoch (r : Payload) (s : State) : (answerUndefined r s).2.epoch = s.epoch := by simp [answerUndefined]
@[simp] theorem answerUndefined_agent (r : Payload) (s : State) : (answerUndefined r s).2.agent = s.agent := by simp [answerUndefined]
@[simp] theorem answerUndefined_op (r : Payload) (s : State) : (answerUndefined r s).2.op = s.op := by simp [answerUndefined]
@[simp] theorem answerUndefined_scrub (r : Payload) (s : State) : (answerUndefined r s).2.scrub = s.scrub := by simp [answerUndefined]
@[simp] theorem answerUndefined_attn (r : Payload) (s : State) : (answerUndefined r s).2.attn = s.attn := by simp [answerUndefined]
@[simp] theorem answerUndefined_globals (r : Payload) (s : State) : (answerUndefined r s).2.globals = s.globals := by simp [answerUndefined]
@[simp] theorem answerUndefined_freeCtr (r : Payload) (s : State) : (answerUndefined r s).2.freeCtr = s.freeCtr := by simp [answerUndefined]
@[simp] theorem answerUndefined_pending (r : Payload) (s : State) : (answerUndefined r s).2.pending = s.pending := by simp [answerUndefined]

@[simp] theorem answerReadEntries_rstN (r : Payload) (s : State) : (answerReadEntries r s).2.rstN = s.rstN := by
  unfold answerReadEntries
  dsimp only
  (repeat' split) <;> simp 
@[simp] theorem answerReadEntries_straps (r : Payload) (s : State) : (answerReadEntries r s).2.straps = s.straps := by
  unfold answerReadEntries
  dsimp only
  (repeat' split) <;> simp 
@[simp] theorem answerReadEntries_links (r : Payload) (s : State) : (answerReadEntries r s).2.links = s.links := by
  unfold answerReadEntries
  dsimp only
  (repeat' split) <;> simp 
@[simp] theorem answerReadEntries_queues (r : Payload) (s : State) : (answerReadEntries r s).2.queues = s.queues := by
  unfold answerReadEntries
  dsimp only
  (repeat' split) <;> simp 
@[simp] theorem answerReadEntries_rrPtr (r : Payload) (s : State) : (answerReadEntries r s).2.rrPtr = s.rrPtr := by
  unfold answerReadEntries
  dsimp only
  (repeat' split) <;> simp 
@[simp] theorem answerReadEntries_pool (r : Payload) (s : State) : (answerReadEntries r s).2.pool = s.pool := by
  unfold answerReadEntries
  dsimp only
  (repeat' split) <;> simp 
@[simp] theorem answerReadEntries_tables (r : Payload) (s : State) : (answerReadEntries r s).2.tables = s.tables := by
  unfold answerReadEntries
  dsimp only
  (repeat' split) <;> simp 
@[simp] theorem answerReadEntries_params (r : Payload) (s : State) : (answerReadEntries r s).2.params = s.params := by
  unfold answerReadEntries
  dsimp only
  (repeat' split) <;> simp 
@[simp] theorem answerReadEntries_monitor (r : Payload) (s : State) : (answerReadEntries r s).2.monitor = s.monitor := by
  unfold answerReadEntries
  dsimp only
  (repeat' split) <;> simp 
@[simp] theorem answerReadEntries_flow (r : Payload) (s : State) : (answerReadEntries r s).2.flow = s.flow := by
  unfold answerReadEntries
  dsimp only
  (repeat' split) <;> simp 
@[simp] theorem answerReadEntries_epoch (r : Payload) (s : State) : (answerReadEntries r s).2.epoch = s.epoch := by
  unfold answerReadEntries
  dsimp only
  (repeat' split) <;> simp 
@[simp] theorem answerReadEntries_agent (r : Payload) (s : State) : (answerReadEntries r s).2.agent = s.agent := by
  unfold answerReadEntries
  dsimp only
  (repeat' split) <;> simp 
@[simp] theorem answerReadEntries_op (r : Payload) (s : State) : (answerReadEntries r s).2.op = s.op := by
  unfold answerReadEntries
  dsimp only
  (repeat' split) <;> simp 
@[simp] theorem answerReadEntries_scrub (r : Payload) (s : State) : (answerReadEntries r s).2.scrub = s.scrub := by
  unfold answerReadEntries
  dsimp only
  (repeat' split) <;> simp 
@[simp] theorem answerReadEntries_attn (r : Payload) (s : State) : (answerReadEntries r s).2.attn = s.attn := by
  unfold answerReadEntries
  dsimp only
  (repeat' split) <;> simp 
@[simp] theorem answerReadEntries_globals (r : Payload) (s : State) : (answerReadEntries r s).2.globals = s.globals := by
  unfold answerReadEntries
  dsimp only
  (repeat' split) <;> simp 
@[simp] theorem answerReadEntries_freeCtr (r : Payload) (s : State) : (answerReadEntries r s).2.freeCtr = s.freeCtr := by
  unfold answerReadEntries
  dsimp only
  (repeat' split) <;> simp 
@[simp] theorem answerReadEntries_pending (r : Payload) (s : State) : (answerReadEntries r s).2.pending = s.pending := by
  unfold answerReadEntries
  dsimp only
  (repeat' split) <;> simp 

@[simp] theorem answerWriteEntries_rstN (r : Payload) (s : State) : (answerWriteEntries r s).2.rstN = s.rstN := by
  unfold answerWriteEntries
  dsimp only
  (repeat' split) <;> simp 
@[simp] theorem answerWriteEntries_straps (r : Payload) (s : State) : (answerWriteEntries r s).2.straps = s.straps := by
  unfold answerWriteEntries
  dsimp only
  (repeat' split) <;> simp 
@[simp] theorem answerWriteEntries_links (r : Payload) (s : State) : (answerWriteEntries r s).2.links = s.links := by
  unfold answerWriteEntries
  dsimp only
  (repeat' split) <;> simp 
@[simp] theorem answerWriteEntries_queues (r : Payload) (s : State) : (answerWriteEntries r s).2.queues = s.queues := by
  unfold answerWriteEntries
  dsimp only
  (repeat' split) <;> simp 
@[simp] theorem answerWriteEntries_rrPtr (r : Payload) (s : State) : (answerWriteEntries r s).2.rrPtr = s.rrPtr := by
  unfold answerWriteEntries
  dsimp only
  (repeat' split) <;> simp 
@[simp] theorem answerWriteEntries_pool (r : Payload) (s : State) : (answerWriteEntries r s).2.pool = s.pool := by
  unfold answerWriteEntries
  dsimp only
  (repeat' split) <;> simp 
@[simp] theorem answerWriteEntries_params (r : Payload) (s : State) : (answerWriteEntries r s).2.params = s.params := by
  unfold answerWriteEntries
  dsimp only
  (repeat' split) <;> simp 
@[simp] theorem answerWriteEntries_monitor (r : Payload) (s : State) : (answerWriteEntries r s).2.monitor = s.monitor := by
  unfold answerWriteEntries
  dsimp only
  (repeat' split) <;> simp 
@[simp] theorem answerWriteEntries_flow (r : Payload) (s : State) : (answerWriteEntries r s).2.flow = s.flow := by
  unfold answerWriteEntries
  dsimp only
  (repeat' split) <;> simp 
@[simp] theorem answerWriteEntries_epoch (r : Payload) (s : State) : (answerWriteEntries r s).2.epoch = s.epoch := by
  unfold answerWriteEntries
  dsimp only
  (repeat' split) <;> simp 
@[simp] theorem answerWriteEntries_agent (r : Payload) (s : State) : (answerWriteEntries r s).2.agent = s.agent := by
  unfold answerWriteEntries
  dsimp only
  (repeat' split) <;> simp 
@[simp] theorem answerWriteEntries_op (r : Payload) (s : State) : (answerWriteEntries r s).2.op = s.op := by
  unfold answerWriteEntries
  dsimp only
  (repeat' split) <;> simp 
@[simp] theorem answerWriteEntries_scrub (r : Payload) (s : State) : (answerWriteEntries r s).2.scrub = s.scrub := by
  unfold answerWriteEntries
  dsimp only
  (repeat' split) <;> simp 
@[simp] theorem answerWriteEntries_attn (r : Payload) (s : State) : (answerWriteEntries r s).2.attn = s.attn := by
  unfold answerWriteEntries
  dsimp only
  (repeat' split) <;> simp 
@[simp] theorem answerWriteEntries_globals (r : Payload) (s : State) : (answerWriteEntries r s).2.globals = s.globals := by
  unfold answerWriteEntries
  dsimp only
  (repeat' split) <;> simp 
@[simp] theorem answerWriteEntries_freeCtr (r : Payload) (s : State) : (answerWriteEntries r s).2.freeCtr = s.freeCtr := by
  unfold answerWriteEntries
  dsimp only
  (repeat' split) <;> simp 
@[simp] theorem answerWriteEntries_pending (r : Payload) (s : State) : (answerWriteEntries r s).2.pending = s.pending := by
  unfold answerWriteEntries
  dsimp only
  (repeat' split) <;> simp 

@[simp] theorem answerRepairEntry_rstN (r : Payload) (s : State) : (answerRepairEntry r s).2.rstN = s.rstN := by
  unfold answerRepairEntry
  dsimp only
  (repeat' split) <;> simp 
@[simp] theorem answerRepairEntry_straps (r : Payload) (s : State) : (answerRepairEntry r s).2.straps = s.straps := by
  unfold answerRepairEntry
  dsimp only
  (repeat' split) <;> simp 
@[simp] theorem answerRepairEntry_links (r : Payload) (s : State) : (answerRepairEntry r s).2.links = s.links := by
  unfold answerRepairEntry
  dsimp only
  (repeat' split) <;> simp 
@[simp] theorem answerRepairEntry_queues (r : Payload) (s : State) : (answerRepairEntry r s).2.queues = s.queues := by
  unfold answerRepairEntry
  dsimp only
  (repeat' split) <;> simp 
@[simp] theorem answerRepairEntry_rrPtr (r : Payload) (s : State) : (answerRepairEntry r s).2.rrPtr = s.rrPtr := by
  unfold answerRepairEntry
  dsimp only
  (repeat' split) <;> simp 
@[simp] theorem answerRepairEntry_pool (r : Payload) (s : State) : (answerRepairEntry r s).2.pool = s.pool := by
  unfold answerRepairEntry
  dsimp only
  (repeat' split) <;> simp 
@[simp] theorem answerRepairEntry_params (r : Payload) (s : State) : (answerRepairEntry r s).2.params = s.params := by
  unfold answerRepairEntry
  dsimp only
  (repeat' split) <;> simp 
@[simp] theorem answerRepairEntry_monitor (r : Payload) (s : State) : (answerRepairEntry r s).2.monitor = s.monitor := by
  unfold answerRepairEntry
  dsimp only
  (repeat' split) <;> simp 
@[simp] theorem answerRepairEntry_flow (r : Payload) (s : State) : (answerRepairEntry r s).2.flow = s.flow := by
  unfold answerRepairEntry
  dsimp only
  (repeat' split) <;> simp 
@[simp] theorem answerRepairEntry_epoch (r : Payload) (s : State) : (answerRepairEntry r s).2.epoch = s.epoch := by
  unfold answerRepairEntry
  dsimp only
  (repeat' split) <;> simp 
@[simp] theorem answerRepairEntry_agent (r : Payload) (s : State) : (answerRepairEntry r s).2.agent = s.agent := by
  unfold answerRepairEntry
  dsimp only
  (repeat' split) <;> simp 
@[simp] theorem answerRepairEntry_op (r : Payload) (s : State) : (answerRepairEntry r s).2.op = s.op := by
  unfold answerRepairEntry
  dsimp only
  (repeat' split) <;> simp 
@[simp] theorem answerRepairEntry_scrub (r : Payload) (s : State) : (answerRepairEntry r s).2.scrub = s.scrub := by
  unfold answerRepairEntry
  dsimp only
  (repeat' split) <;> simp 
@[simp] theorem answerRepairEntry_attn (r : Payload) (s : State) : (answerRepairEntry r s).2.attn = s.attn := by
  unfold answerRepairEntry
  dsimp only
  (repeat' split) <;> simp 
@[simp] theorem answerRepairEntry_globals (r : Payload) (s : State) : (answerRepairEntry r s).2.globals = s.globals := by
  unfold answerRepairEntry
  dsimp only
  (repeat' split) <;> simp 
@[simp] theorem answerRepairEntry_freeCtr (r : Payload) (s : State) : (answerRepairEntry r s).2.freeCtr = s.freeCtr := by
  unfold answerRepairEntry
  dsimp only
  (repeat' split) <;> simp 
@[simp] theorem answerRepairEntry_pending (r : Payload) (s : State) : (answerRepairEntry r s).2.pending = s.pending := by
  unfold answerRepairEntry
  dsimp only
  (repeat' split) <;> simp 

@[simp] theorem answerFillEntries_rstN (r : Payload) (s : State) : (answerFillEntries r s).2.rstN = s.rstN := by
  unfold answerFillEntries
  dsimp only
  (repeat' split) <;> simp [startOp]
@[simp] theorem answerFillEntries_straps (r : Payload) (s : State) : (answerFillEntries r s).2.straps = s.straps := by
  unfold answerFillEntries
  dsimp only
  (repeat' split) <;> simp [startOp]
@[simp] theorem answerFillEntries_links (r : Payload) (s : State) : (answerFillEntries r s).2.links = s.links := by
  unfold answerFillEntries
  dsimp only
  (repeat' split) <;> simp [startOp]
@[simp] theorem answerFillEntries_queues (r : Payload) (s : State) : (answerFillEntries r s).2.queues = s.queues := by
  unfold answerFillEntries
  dsimp only
  (repeat' split) <;> simp [startOp]
@[simp] theorem answerFillEntries_rrPtr (r : Payload) (s : State) : (answerFillEntries r s).2.rrPtr = s.rrPtr := by
  unfold answerFillEntries
  dsimp only
  (repeat' split) <;> simp [startOp]
@[simp] theorem answerFillEntries_pool (r : Payload) (s : State) : (answerFillEntries r s).2.pool = s.pool := by
  unfold answerFillEntries
  dsimp only
  (repeat' split) <;> simp [startOp]
@[simp] theorem answerFillEntries_tables (r : Payload) (s : State) : (answerFillEntries r s).2.tables = s.tables := by
  unfold answerFillEntries
  dsimp only
  (repeat' split) <;> simp [startOp]
@[simp] theorem answerFillEntries_params (r : Payload) (s : State) : (answerFillEntries r s).2.params = s.params := by
  unfold answerFillEntries
  dsimp only
  (repeat' split) <;> simp [startOp]
@[simp] theorem answerFillEntries_monitor (r : Payload) (s : State) : (answerFillEntries r s).2.monitor = s.monitor := by
  unfold answerFillEntries
  dsimp only
  (repeat' split) <;> simp [startOp]
@[simp] theorem answerFillEntries_flow (r : Payload) (s : State) : (answerFillEntries r s).2.flow = s.flow := by
  unfold answerFillEntries
  dsimp only
  (repeat' split) <;> simp [startOp]
@[simp] theorem answerFillEntries_epoch (r : Payload) (s : State) : (answerFillEntries r s).2.epoch = s.epoch := by
  unfold answerFillEntries
  dsimp only
  (repeat' split) <;> simp [startOp]
@[simp] theorem answerFillEntries_agent (r : Payload) (s : State) : (answerFillEntries r s).2.agent = s.agent := by
  unfold answerFillEntries
  dsimp only
  (repeat' split) <;> simp [startOp]
@[simp] theorem answerFillEntries_scrub (r : Payload) (s : State) : (answerFillEntries r s).2.scrub = s.scrub := by
  unfold answerFillEntries
  dsimp only
  (repeat' split) <;> simp [startOp]
@[simp] theorem answerFillEntries_attn (r : Payload) (s : State) : (answerFillEntries r s).2.attn = s.attn := by
  unfold answerFillEntries
  dsimp only
  (repeat' split) <;> simp [startOp]
@[simp] theorem answerFillEntries_globals (r : Payload) (s : State) : (answerFillEntries r s).2.globals = s.globals := by
  unfold answerFillEntries
  dsimp only
  (repeat' split) <;> simp [startOp]
@[simp] theorem answerFillEntries_freeCtr (r : Payload) (s : State) : (answerFillEntries r s).2.freeCtr = s.freeCtr := by
  unfold answerFillEntries
  dsimp only
  (repeat' split) <;> simp [startOp]
@[simp] theorem answerFillEntries_pending (r : Payload) (s : State) : (answerFillEntries r s).2.pending = s.pending := by
  unfold answerFillEntries
  dsimp only
  (repeat' split) <;> simp [startOp]

@[simp] theorem answerCopyBank_rstN (r : Payload) (s : State) : (answerCopyBank r s).2.rstN = s.rstN := by
  unfold answerCopyBank
  (repeat' split) <;> simp [startOp]
@[simp] theorem answerCopyBank_straps (r : Payload) (s : State) : (answerCopyBank r s).2.straps = s.straps := by
  unfold answerCopyBank
  (repeat' split) <;> simp [startOp]
@[simp] theorem answerCopyBank_links (r : Payload) (s : State) : (answerCopyBank r s).2.links = s.links := by
  unfold answerCopyBank
  (repeat' split) <;> simp [startOp]
@[simp] theorem answerCopyBank_queues (r : Payload) (s : State) : (answerCopyBank r s).2.queues = s.queues := by
  unfold answerCopyBank
  (repeat' split) <;> simp [startOp]
@[simp] theorem answerCopyBank_rrPtr (r : Payload) (s : State) : (answerCopyBank r s).2.rrPtr = s.rrPtr := by
  unfold answerCopyBank
  (repeat' split) <;> simp [startOp]
@[simp] theorem answerCopyBank_pool (r : Payload) (s : State) : (answerCopyBank r s).2.pool = s.pool := by
  unfold answerCopyBank
  (repeat' split) <;> simp [startOp]
@[simp] theorem answerCopyBank_tables (r : Payload) (s : State) : (answerCopyBank r s).2.tables = s.tables := by
  unfold answerCopyBank
  (repeat' split) <;> simp [startOp]
@[simp] theorem answerCopyBank_params (r : Payload) (s : State) : (answerCopyBank r s).2.params = s.params := by
  unfold answerCopyBank
  (repeat' split) <;> simp [startOp]
@[simp] theorem answerCopyBank_monitor (r : Payload) (s : State) : (answerCopyBank r s).2.monitor = s.monitor := by
  unfold answerCopyBank
  (repeat' split) <;> simp [startOp]
@[simp] theorem answerCopyBank_flow (r : Payload) (s : State) : (answerCopyBank r s).2.flow = s.flow := by
  unfold answerCopyBank
  (repeat' split) <;> simp [startOp]
@[simp] theorem answerCopyBank_epoch (r : Payload) (s : State) : (answerCopyBank r s).2.epoch = s.epoch := by
  unfold answerCopyBank
  (repeat' split) <;> simp [startOp]
@[simp] theorem answerCopyBank_agent (r : Payload) (s : State) : (answerCopyBank r s).2.agent = s.agent := by
  unfold answerCopyBank
  (repeat' split) <;> simp [startOp]
@[simp] theorem answerCopyBank_scrub (r : Payload) (s : State) : (answerCopyBank r s).2.scrub = s.scrub := by
  unfold answerCopyBank
  (repeat' split) <;> simp [startOp]
@[simp] theorem answerCopyBank_attn (r : Payload) (s : State) : (answerCopyBank r s).2.attn = s.attn := by
  unfold answerCopyBank
  (repeat' split) <;> simp [startOp]
@[simp] theorem answerCopyBank_globals (r : Payload) (s : State) : (answerCopyBank r s).2.globals = s.globals := by
  unfold answerCopyBank
  (repeat' split) <;> simp [startOp]
@[simp] theorem answerCopyBank_freeCtr (r : Payload) (s : State) : (answerCopyBank r s).2.freeCtr = s.freeCtr := by
  unfold answerCopyBank
  (repeat' split) <;> simp [startOp]
@[simp] theorem answerCopyBank_pending (r : Payload) (s : State) : (answerCopyBank r s).2.pending = s.pending := by
  unfold answerCopyBank
  (repeat' split) <;> simp [startOp]

@[simp] theorem answerDigestBank_rstN (r : Payload) (s : State) : (answerDigestBank r s).2.rstN = s.rstN := by
  unfold answerDigestBank
  (repeat' split) <;> simp [startOp]
@[simp] theorem answerDigestBank_straps (r : Payload) (s : State) : (answerDigestBank r s).2.straps = s.straps := by
  unfold answerDigestBank
  (repeat' split) <;> simp [startOp]
@[simp] theorem answerDigestBank_links (r : Payload) (s : State) : (answerDigestBank r s).2.links = s.links := by
  unfold answerDigestBank
  (repeat' split) <;> simp [startOp]
@[simp] theorem answerDigestBank_queues (r : Payload) (s : State) : (answerDigestBank r s).2.queues = s.queues := by
  unfold answerDigestBank
  (repeat' split) <;> simp [startOp]
@[simp] theorem answerDigestBank_rrPtr (r : Payload) (s : State) : (answerDigestBank r s).2.rrPtr = s.rrPtr := by
  unfold answerDigestBank
  (repeat' split) <;> simp [startOp]
@[simp] theorem answerDigestBank_pool (r : Payload) (s : State) : (answerDigestBank r s).2.pool = s.pool := by
  unfold answerDigestBank
  (repeat' split) <;> simp [startOp]
@[simp] theorem answerDigestBank_tables (r : Payload) (s : State) : (answerDigestBank r s).2.tables = s.tables := by
  unfold answerDigestBank
  (repeat' split) <;> simp [startOp]
@[simp] theorem answerDigestBank_params (r : Payload) (s : State) : (answerDigestBank r s).2.params = s.params := by
  unfold answerDigestBank
  (repeat' split) <;> simp [startOp]
@[simp] theorem answerDigestBank_monitor (r : Payload) (s : State) : (answerDigestBank r s).2.monitor = s.monitor := by
  unfold answerDigestBank
  (repeat' split) <;> simp [startOp]
@[simp] theorem answerDigestBank_flow (r : Payload) (s : State) : (answerDigestBank r s).2.flow = s.flow := by
  unfold answerDigestBank
  (repeat' split) <;> simp [startOp]
@[simp] theorem answerDigestBank_epoch (r : Payload) (s : State) : (answerDigestBank r s).2.epoch = s.epoch := by
  unfold answerDigestBank
  (repeat' split) <;> simp [startOp]
@[simp] theorem answerDigestBank_agent (r : Payload) (s : State) : (answerDigestBank r s).2.agent = s.agent := by
  unfold answerDigestBank
  (repeat' split) <;> simp [startOp]
@[simp] theorem answerDigestBank_scrub (r : Payload) (s : State) : (answerDigestBank r s).2.scrub = s.scrub := by
  unfold answerDigestBank
  (repeat' split) <;> simp [startOp]
@[simp] theorem answerDigestBank_attn (r : Payload) (s : State) : (answerDigestBank r s).2.attn = s.attn := by
  unfold answerDigestBank
  (repeat' split) <;> simp [startOp]
@[simp] theorem answerDigestBank_globals (r : Payload) (s : State) : (answerDigestBank r s).2.globals = s.globals := by
  unfold answerDigestBank
  (repeat' split) <;> simp [startOp]
@[simp] theorem answerDigestBank_freeCtr (r : Payload) (s : State) : (answerDigestBank r s).2.freeCtr = s.freeCtr := by
  unfold answerDigestBank
  (repeat' split) <;> simp [startOp]
@[simp] theorem answerDigestBank_pending (r : Payload) (s : State) : (answerDigestBank r s).2.pending = s.pending := by
  unfold answerDigestBank
  (repeat' split) <;> simp [startOp]

@[simp] theorem answerStartMemoryTest_rstN (r : Payload) (s : State) : (answerStartMemoryTest r s).2.rstN = s.rstN := by
  unfold answerStartMemoryTest
  (repeat' split) <;> simp [startOp]
@[simp] theorem answerStartMemoryTest_straps (r : Payload) (s : State) : (answerStartMemoryTest r s).2.straps = s.straps := by
  unfold answerStartMemoryTest
  (repeat' split) <;> simp [startOp]
@[simp] theorem answerStartMemoryTest_links (r : Payload) (s : State) : (answerStartMemoryTest r s).2.links = s.links := by
  unfold answerStartMemoryTest
  (repeat' split) <;> simp [startOp]
@[simp] theorem answerStartMemoryTest_queues (r : Payload) (s : State) : (answerStartMemoryTest r s).2.queues = s.queues := by
  unfold answerStartMemoryTest
  (repeat' split) <;> simp [startOp]
@[simp] theorem answerStartMemoryTest_rrPtr (r : Payload) (s : State) : (answerStartMemoryTest r s).2.rrPtr = s.rrPtr := by
  unfold answerStartMemoryTest
  (repeat' split) <;> simp [startOp]
@[simp] theorem answerStartMemoryTest_tables (r : Payload) (s : State) : (answerStartMemoryTest r s).2.tables = s.tables := by
  unfold answerStartMemoryTest
  (repeat' split) <;> simp [startOp]
@[simp] theorem answerStartMemoryTest_params (r : Payload) (s : State) : (answerStartMemoryTest r s).2.params = s.params := by
  unfold answerStartMemoryTest
  (repeat' split) <;> simp [startOp]
@[simp] theorem answerStartMemoryTest_monitor (r : Payload) (s : State) : (answerStartMemoryTest r s).2.monitor = s.monitor := by
  unfold answerStartMemoryTest
  (repeat' split) <;> simp [startOp]
@[simp] theorem answerStartMemoryTest_flow (r : Payload) (s : State) : (answerStartMemoryTest r s).2.flow = s.flow := by
  unfold answerStartMemoryTest
  (repeat' split) <;> simp [startOp]
@[simp] theorem answerStartMemoryTest_epoch (r : Payload) (s : State) : (answerStartMemoryTest r s).2.epoch = s.epoch := by
  unfold answerStartMemoryTest
  (repeat' split) <;> simp [startOp]
@[simp] theorem answerStartMemoryTest_agent (r : Payload) (s : State) : (answerStartMemoryTest r s).2.agent = s.agent := by
  unfold answerStartMemoryTest
  (repeat' split) <;> simp [startOp]
@[simp] theorem answerStartMemoryTest_scrub (r : Payload) (s : State) : (answerStartMemoryTest r s).2.scrub = s.scrub := by
  unfold answerStartMemoryTest
  (repeat' split) <;> simp [startOp]
@[simp] theorem answerStartMemoryTest_attn (r : Payload) (s : State) : (answerStartMemoryTest r s).2.attn = s.attn := by
  unfold answerStartMemoryTest
  (repeat' split) <;> simp [startOp]
@[simp] theorem answerStartMemoryTest_globals (r : Payload) (s : State) : (answerStartMemoryTest r s).2.globals = s.globals := by
  unfold answerStartMemoryTest
  (repeat' split) <;> simp [startOp]
@[simp] theorem answerStartMemoryTest_freeCtr (r : Payload) (s : State) : (answerStartMemoryTest r s).2.freeCtr = s.freeCtr := by
  unfold answerStartMemoryTest
  (repeat' split) <;> simp [startOp]
@[simp] theorem answerStartMemoryTest_pending (r : Payload) (s : State) : (answerStartMemoryTest r s).2.pending = s.pending := by
  unfold answerStartMemoryTest
  (repeat' split) <;> simp [startOp]

@[simp] theorem answerEnable_rstN (r : Payload) (s : State) : (answerEnable r s).2.rstN = s.rstN := by
  unfold answerEnable
  (repeat' split) <;> simp [linkControlDone]
@[simp] theorem answerEnable_straps (r : Payload) (s : State) : (answerEnable r s).2.straps = s.straps := by
  unfold answerEnable
  (repeat' split) <;> simp [linkControlDone]
@[simp] theorem answerEnable_queues (r : Payload) (s : State) : (answerEnable r s).2.queues = s.queues := by
  unfold answerEnable
  (repeat' split) <;> simp [linkControlDone]
@[simp] theorem answerEnable_rrPtr (r : Payload) (s : State) : (answerEnable r s).2.rrPtr = s.rrPtr := by
  unfold answerEnable
  (repeat' split) <;> simp [linkControlDone]
@[simp] theorem answerEnable_pool (r : Payload) (s : State) : (answerEnable r s).2.pool = s.pool := by
  unfold answerEnable
  (repeat' split) <;> simp [linkControlDone]
@[simp] theorem answerEnable_params (r : Payload) (s : State) : (answerEnable r s).2.params = s.params := by
  unfold answerEnable
  (repeat' split) <;> simp [linkControlDone]
@[simp] theorem answerEnable_monitor (r : Payload) (s : State) : (answerEnable r s).2.monitor = s.monitor := by
  unfold answerEnable
  (repeat' split) <;> simp [linkControlDone]
@[simp] theorem answerEnable_flow (r : Payload) (s : State) : (answerEnable r s).2.flow = s.flow := by
  unfold answerEnable
  (repeat' split) <;> simp [linkControlDone]
@[simp] theorem answerEnable_epoch (r : Payload) (s : State) : (answerEnable r s).2.epoch = s.epoch := by
  unfold answerEnable
  (repeat' split) <;> simp [linkControlDone]
@[simp] theorem answerEnable_agent (r : Payload) (s : State) : (answerEnable r s).2.agent = s.agent := by
  unfold answerEnable
  (repeat' split) <;> simp [linkControlDone]
@[simp] theorem answerEnable_op (r : Payload) (s : State) : (answerEnable r s).2.op = s.op := by
  unfold answerEnable
  (repeat' split) <;> simp [linkControlDone]
@[simp] theorem answerEnable_scrub (r : Payload) (s : State) : (answerEnable r s).2.scrub = s.scrub := by
  unfold answerEnable
  (repeat' split) <;> simp [linkControlDone]
@[simp] theorem answerEnable_freeCtr (r : Payload) (s : State) : (answerEnable r s).2.freeCtr = s.freeCtr := by
  unfold answerEnable
  (repeat' split) <;> simp [linkControlDone]
@[simp] theorem answerEnable_pending (r : Payload) (s : State) : (answerEnable r s).2.pending = s.pending := by
  unfold answerEnable
  (repeat' split) <;> simp [linkControlDone]

@[simp] theorem answerDisable_rstN (r : Payload) (s : State) : (answerDisable r s).2.rstN = s.rstN := by
  unfold answerDisable
  split <;> simp [linkControlDone]
@[simp] theorem answerDisable_straps (r : Payload) (s : State) : (answerDisable r s).2.straps = s.straps := by
  unfold answerDisable
  split <;> simp [linkControlDone]
@[simp] theorem answerDisable_queues (r : Payload) (s : State) : (answerDisable r s).2.queues = s.queues := by
  unfold answerDisable
  split <;> simp [linkControlDone]
@[simp] theorem answerDisable_rrPtr (r : Payload) (s : State) : (answerDisable r s).2.rrPtr = s.rrPtr := by
  unfold answerDisable
  split <;> simp [linkControlDone]
@[simp] theorem answerDisable_pool (r : Payload) (s : State) : (answerDisable r s).2.pool = s.pool := by
  unfold answerDisable
  split <;> simp [linkControlDone]
@[simp] theorem answerDisable_params (r : Payload) (s : State) : (answerDisable r s).2.params = s.params := by
  unfold answerDisable
  split <;> simp [linkControlDone]
@[simp] theorem answerDisable_monitor (r : Payload) (s : State) : (answerDisable r s).2.monitor = s.monitor := by
  unfold answerDisable
  split <;> simp [linkControlDone]
@[simp] theorem answerDisable_flow (r : Payload) (s : State) : (answerDisable r s).2.flow = s.flow := by
  unfold answerDisable
  split <;> simp [linkControlDone]
@[simp] theorem answerDisable_epoch (r : Payload) (s : State) : (answerDisable r s).2.epoch = s.epoch := by
  unfold answerDisable
  split <;> simp [linkControlDone]
@[simp] theorem answerDisable_op (r : Payload) (s : State) : (answerDisable r s).2.op = s.op := by
  unfold answerDisable
  split <;> simp [linkControlDone]
@[simp] theorem answerDisable_scrub (r : Payload) (s : State) : (answerDisable r s).2.scrub = s.scrub := by
  unfold answerDisable
  split <;> simp [linkControlDone]
@[simp] theorem answerDisable_freeCtr (r : Payload) (s : State) : (answerDisable r s).2.freeCtr = s.freeCtr := by
  unfold answerDisable
  split <;> simp [linkControlDone]
@[simp] theorem answerDisable_pending (r : Payload) (s : State) : (answerDisable r s).2.pending = s.pending := by
  unfold answerDisable
  split <;> simp [linkControlDone]

@[simp] theorem answerFlush_rstN (r : Payload) (s : State) : (answerFlush r s).2.rstN = s.rstN := by
  unfold answerFlush
  split <;> simp [linkControlDone]
@[simp] theorem answerFlush_straps (r : Payload) (s : State) : (answerFlush r s).2.straps = s.straps := by
  unfold answerFlush
  split <;> simp [linkControlDone]
@[simp] theorem answerFlush_rrPtr (r : Payload) (s : State) : (answerFlush r s).2.rrPtr = s.rrPtr := by
  unfold answerFlush
  split <;> simp [linkControlDone]
@[simp] theorem answerFlush_tables (r : Payload) (s : State) : (answerFlush r s).2.tables = s.tables := by
  unfold answerFlush
  split <;> simp [linkControlDone]
@[simp] theorem answerFlush_params (r : Payload) (s : State) : (answerFlush r s).2.params = s.params := by
  unfold answerFlush
  split <;> simp [linkControlDone]
@[simp] theorem answerFlush_monitor (r : Payload) (s : State) : (answerFlush r s).2.monitor = s.monitor := by
  unfold answerFlush
  split <;> simp [linkControlDone]
@[simp] theorem answerFlush_epoch (r : Payload) (s : State) : (answerFlush r s).2.epoch = s.epoch := by
  unfold answerFlush
  split <;> simp [linkControlDone]
@[simp] theorem answerFlush_agent (r : Payload) (s : State) : (answerFlush r s).2.agent = s.agent := by
  unfold answerFlush
  split <;> simp [linkControlDone]
@[simp] theorem answerFlush_op (r : Payload) (s : State) : (answerFlush r s).2.op = s.op := by
  unfold answerFlush
  split <;> simp [linkControlDone]
@[simp] theorem answerFlush_scrub (r : Payload) (s : State) : (answerFlush r s).2.scrub = s.scrub := by
  unfold answerFlush
  split <;> simp [linkControlDone]
@[simp] theorem answerFlush_attn (r : Payload) (s : State) : (answerFlush r s).2.attn = s.attn := by
  unfold answerFlush
  split <;> simp [linkControlDone]
@[simp] theorem answerFlush_globals (r : Payload) (s : State) : (answerFlush r s).2.globals = s.globals := by
  unfold answerFlush
  split <;> simp [linkControlDone]
@[simp] theorem answerFlush_freeCtr (r : Payload) (s : State) : (answerFlush r s).2.freeCtr = s.freeCtr := by
  unfold answerFlush
  split <;> simp [linkControlDone]
@[simp] theorem answerFlush_pending (r : Payload) (s : State) : (answerFlush r s).2.pending = s.pending := by
  unfold answerFlush
  split <;> simp [linkControlDone]

@[simp] theorem answerRetrain_rstN (r : Payload) (s : State) : (answerRetrain r s).2.rstN = s.rstN := by
  unfold answerRetrain
  (repeat' split) <;> simp [linkControlDone]
@[simp] theorem answerRetrain_straps (r : Payload) (s : State) : (answerRetrain r s).2.straps = s.straps := by
  unfold answerRetrain
  (repeat' split) <;> simp [linkControlDone]
@[simp] theorem answerRetrain_rrPtr (r : Payload) (s : State) : (answerRetrain r s).2.rrPtr = s.rrPtr := by
  unfold answerRetrain
  (repeat' split) <;> simp [linkControlDone]
@[simp] theorem answerRetrain_params (r : Payload) (s : State) : (answerRetrain r s).2.params = s.params := by
  unfold answerRetrain
  (repeat' split) <;> simp [linkControlDone]
@[simp] theorem answerRetrain_monitor (r : Payload) (s : State) : (answerRetrain r s).2.monitor = s.monitor := by
  unfold answerRetrain
  (repeat' split) <;> simp [linkControlDone]
@[simp] theorem answerRetrain_epoch (r : Payload) (s : State) : (answerRetrain r s).2.epoch = s.epoch := by
  unfold answerRetrain
  (repeat' split) <;> simp [linkControlDone]
@[simp] theorem answerRetrain_op (r : Payload) (s : State) : (answerRetrain r s).2.op = s.op := by
  unfold answerRetrain
  (repeat' split) <;> simp [linkControlDone]
@[simp] theorem answerRetrain_scrub (r : Payload) (s : State) : (answerRetrain r s).2.scrub = s.scrub := by
  unfold answerRetrain
  (repeat' split) <;> simp [linkControlDone]
@[simp] theorem answerRetrain_freeCtr (r : Payload) (s : State) : (answerRetrain r s).2.freeCtr = s.freeCtr := by
  unfold answerRetrain
  (repeat' split) <;> simp [linkControlDone]
@[simp] theorem answerRetrain_pending (r : Payload) (s : State) : (answerRetrain r s).2.pending = s.pending := by
  unfold answerRetrain
  (repeat' split) <;> simp [linkControlDone]

@[simp] theorem answerScheduleSwap_rstN (r : Payload) (s : State) : (answerScheduleSwap r s).2.rstN = s.rstN := by
  unfold answerScheduleSwap
  dsimp only
  (repeat' split) <;> simp [swapDone]
@[simp] theorem answerScheduleSwap_straps (r : Payload) (s : State) : (answerScheduleSwap r s).2.straps = s.straps := by
  unfold answerScheduleSwap
  dsimp only
  (repeat' split) <;> simp [swapDone]
@[simp] theorem answerScheduleSwap_links (r : Payload) (s : State) : (answerScheduleSwap r s).2.links = s.links := by
  unfold answerScheduleSwap
  dsimp only
  (repeat' split) <;> simp [swapDone]
@[simp] theorem answerScheduleSwap_queues (r : Payload) (s : State) : (answerScheduleSwap r s).2.queues = s.queues := by
  unfold answerScheduleSwap
  dsimp only
  (repeat' split) <;> simp [swapDone]
@[simp] theorem answerScheduleSwap_rrPtr (r : Payload) (s : State) : (answerScheduleSwap r s).2.rrPtr = s.rrPtr := by
  unfold answerScheduleSwap
  dsimp only
  (repeat' split) <;> simp [swapDone]
@[simp] theorem answerScheduleSwap_pool (r : Payload) (s : State) : (answerScheduleSwap r s).2.pool = s.pool := by
  unfold answerScheduleSwap
  dsimp only
  (repeat' split) <;> simp [swapDone]
@[simp] theorem answerScheduleSwap_tables (r : Payload) (s : State) : (answerScheduleSwap r s).2.tables = s.tables := by
  unfold answerScheduleSwap
  dsimp only
  (repeat' split) <;> simp [swapDone]
@[simp] theorem answerScheduleSwap_params (r : Payload) (s : State) : (answerScheduleSwap r s).2.params = s.params := by
  unfold answerScheduleSwap
  dsimp only
  (repeat' split) <;> simp [swapDone]
@[simp] theorem answerScheduleSwap_monitor (r : Payload) (s : State) : (answerScheduleSwap r s).2.monitor = s.monitor := by
  unfold answerScheduleSwap
  dsimp only
  (repeat' split) <;> simp [swapDone]
@[simp] theorem answerScheduleSwap_flow (r : Payload) (s : State) : (answerScheduleSwap r s).2.flow = s.flow := by
  unfold answerScheduleSwap
  dsimp only
  (repeat' split) <;> simp [swapDone]
@[simp] theorem answerScheduleSwap_agent (r : Payload) (s : State) : (answerScheduleSwap r s).2.agent = s.agent := by
  unfold answerScheduleSwap
  dsimp only
  (repeat' split) <;> simp [swapDone]
@[simp] theorem answerScheduleSwap_op (r : Payload) (s : State) : (answerScheduleSwap r s).2.op = s.op := by
  unfold answerScheduleSwap
  dsimp only
  (repeat' split) <;> simp [swapDone]
@[simp] theorem answerScheduleSwap_scrub (r : Payload) (s : State) : (answerScheduleSwap r s).2.scrub = s.scrub := by
  unfold answerScheduleSwap
  dsimp only
  (repeat' split) <;> simp [swapDone]
@[simp] theorem answerScheduleSwap_attn (r : Payload) (s : State) : (answerScheduleSwap r s).2.attn = s.attn := by
  unfold answerScheduleSwap
  dsimp only
  (repeat' split) <;> simp [swapDone]
@[simp] theorem answerScheduleSwap_globals (r : Payload) (s : State) : (answerScheduleSwap r s).2.globals = s.globals := by
  unfold answerScheduleSwap
  dsimp only
  (repeat' split) <;> simp [swapDone]
@[simp] theorem answerScheduleSwap_freeCtr (r : Payload) (s : State) : (answerScheduleSwap r s).2.freeCtr = s.freeCtr := by
  unfold answerScheduleSwap
  dsimp only
  (repeat' split) <;> simp [swapDone]
@[simp] theorem answerScheduleSwap_pending (r : Payload) (s : State) : (answerScheduleSwap r s).2.pending = s.pending := by
  unfold answerScheduleSwap
  dsimp only
  (repeat' split) <;> simp [swapDone]

@[simp] theorem answerCancelSwap_rstN (r : Payload) (s : State) : (answerCancelSwap r s).2.rstN = s.rstN := by
  unfold answerCancelSwap
  split <;> simp [swapDone]
@[simp] theorem answerCancelSwap_straps (r : Payload) (s : State) : (answerCancelSwap r s).2.straps = s.straps := by
  unfold answerCancelSwap
  split <;> simp [swapDone]
@[simp] theorem answerCancelSwap_links (r : Payload) (s : State) : (answerCancelSwap r s).2.links = s.links := by
  unfold answerCancelSwap
  split <;> simp [swapDone]
@[simp] theorem answerCancelSwap_queues (r : Payload) (s : State) : (answerCancelSwap r s).2.queues = s.queues := by
  unfold answerCancelSwap
  split <;> simp [swapDone]
@[simp] theorem answerCancelSwap_rrPtr (r : Payload) (s : State) : (answerCancelSwap r s).2.rrPtr = s.rrPtr := by
  unfold answerCancelSwap
  split <;> simp [swapDone]
@[simp] theorem answerCancelSwap_pool (r : Payload) (s : State) : (answerCancelSwap r s).2.pool = s.pool := by
  unfold answerCancelSwap
  split <;> simp [swapDone]
@[simp] theorem answerCancelSwap_tables (r : Payload) (s : State) : (answerCancelSwap r s).2.tables = s.tables := by
  unfold answerCancelSwap
  split <;> simp [swapDone]
@[simp] theorem answerCancelSwap_params (r : Payload) (s : State) : (answerCancelSwap r s).2.params = s.params := by
  unfold answerCancelSwap
  split <;> simp [swapDone]
@[simp] theorem answerCancelSwap_monitor (r : Payload) (s : State) : (answerCancelSwap r s).2.monitor = s.monitor := by
  unfold answerCancelSwap
  split <;> simp [swapDone]
@[simp] theorem answerCancelSwap_flow (r : Payload) (s : State) : (answerCancelSwap r s).2.flow = s.flow := by
  unfold answerCancelSwap
  split <;> simp [swapDone]
@[simp] theorem answerCancelSwap_agent (r : Payload) (s : State) : (answerCancelSwap r s).2.agent = s.agent := by
  unfold answerCancelSwap
  split <;> simp [swapDone]
@[simp] theorem answerCancelSwap_op (r : Payload) (s : State) : (answerCancelSwap r s).2.op = s.op := by
  unfold answerCancelSwap
  split <;> simp [swapDone]
@[simp] theorem answerCancelSwap_scrub (r : Payload) (s : State) : (answerCancelSwap r s).2.scrub = s.scrub := by
  unfold answerCancelSwap
  split <;> simp [swapDone]
@[simp] theorem answerCancelSwap_attn (r : Payload) (s : State) : (answerCancelSwap r s).2.attn = s.attn := by
  unfold answerCancelSwap
  split <;> simp [swapDone]
@[simp] theorem answerCancelSwap_globals (r : Payload) (s : State) : (answerCancelSwap r s).2.globals = s.globals := by
  unfold answerCancelSwap
  split <;> simp [swapDone]
@[simp] theorem answerCancelSwap_freeCtr (r : Payload) (s : State) : (answerCancelSwap r s).2.freeCtr = s.freeCtr := by
  unfold answerCancelSwap
  split <;> simp [swapDone]
@[simp] theorem answerCancelSwap_pending (r : Payload) (s : State) : (answerCancelSwap r s).2.pending = s.pending := by
  unfold answerCancelSwap
  split <;> simp [swapDone]

@[simp] theorem answerDatapathReset_rstN (r : Payload) (s : State) : (answerDatapathReset r s).2.rstN = s.rstN := by simp [answerDatapathReset]
@[simp] theorem answerDatapathReset_straps (r : Payload) (s : State) : (answerDatapathReset r s).2.straps = s.straps := by simp [answerDatapathReset]
@[simp] theorem answerDatapathReset_rrPtr (r : Payload) (s : State) : (answerDatapathReset r s).2.rrPtr = s.rrPtr := by simp [answerDatapathReset]
@[simp] theorem answerDatapathReset_tables (r : Payload) (s : State) : (answerDatapathReset r s).2.tables = s.tables := by simp [answerDatapathReset]
@[simp] theorem answerDatapathReset_params (r : Payload) (s : State) : (answerDatapathReset r s).2.params = s.params := by simp [answerDatapathReset]
@[simp] theorem answerDatapathReset_monitor (r : Payload) (s : State) : (answerDatapathReset r s).2.monitor = s.monitor := by simp [answerDatapathReset]
@[simp] theorem answerDatapathReset_epoch (r : Payload) (s : State) : (answerDatapathReset r s).2.epoch = s.epoch := by simp [answerDatapathReset]
@[simp] theorem answerDatapathReset_agent (r : Payload) (s : State) : (answerDatapathReset r s).2.agent = s.agent := by simp [answerDatapathReset]
@[simp] theorem answerDatapathReset_scrub (r : Payload) (s : State) : (answerDatapathReset r s).2.scrub = s.scrub := by simp [answerDatapathReset]
@[simp] theorem answerDatapathReset_globals (r : Payload) (s : State) : (answerDatapathReset r s).2.globals = s.globals := by simp [answerDatapathReset]
@[simp] theorem answerDatapathReset_freeCtr (r : Payload) (s : State) : (answerDatapathReset r s).2.freeCtr = s.freeCtr := by simp [answerDatapathReset]
@[simp] theorem answerDatapathReset_pending (r : Payload) (s : State) : (answerDatapathReset r s).2.pending = s.pending := by simp [answerDatapathReset]

@[simp] theorem answerSendFlowStatusNow_rstN (r : Payload) (s : State) : (answerSendFlowStatusNow r s).2.rstN = s.rstN := by simp [answerSendFlowStatusNow]
@[simp] theorem answerSendFlowStatusNow_straps (r : Payload) (s : State) : (answerSendFlowStatusNow r s).2.straps = s.straps := by simp [answerSendFlowStatusNow]
@[simp] theorem answerSendFlowStatusNow_queues (r : Payload) (s : State) : (answerSendFlowStatusNow r s).2.queues = s.queues := by simp [answerSendFlowStatusNow]
@[simp] theorem answerSendFlowStatusNow_rrPtr (r : Payload) (s : State) : (answerSendFlowStatusNow r s).2.rrPtr = s.rrPtr := by simp [answerSendFlowStatusNow]
@[simp] theorem answerSendFlowStatusNow_pool (r : Payload) (s : State) : (answerSendFlowStatusNow r s).2.pool = s.pool := by simp [answerSendFlowStatusNow]
@[simp] theorem answerSendFlowStatusNow_tables (r : Payload) (s : State) : (answerSendFlowStatusNow r s).2.tables = s.tables := by simp [answerSendFlowStatusNow]
@[simp] theorem answerSendFlowStatusNow_params (r : Payload) (s : State) : (answerSendFlowStatusNow r s).2.params = s.params := by simp [answerSendFlowStatusNow]
@[simp] theorem answerSendFlowStatusNow_monitor (r : Payload) (s : State) : (answerSendFlowStatusNow r s).2.monitor = s.monitor := by simp [answerSendFlowStatusNow]
@[simp] theorem answerSendFlowStatusNow_flow (r : Payload) (s : State) : (answerSendFlowStatusNow r s).2.flow = s.flow := by simp [answerSendFlowStatusNow]
@[simp] theorem answerSendFlowStatusNow_epoch (r : Payload) (s : State) : (answerSendFlowStatusNow r s).2.epoch = s.epoch := by simp [answerSendFlowStatusNow]
@[simp] theorem answerSendFlowStatusNow_agent (r : Payload) (s : State) : (answerSendFlowStatusNow r s).2.agent = s.agent := by simp [answerSendFlowStatusNow]
@[simp] theorem answerSendFlowStatusNow_op (r : Payload) (s : State) : (answerSendFlowStatusNow r s).2.op = s.op := by simp [answerSendFlowStatusNow]
@[simp] theorem answerSendFlowStatusNow_scrub (r : Payload) (s : State) : (answerSendFlowStatusNow r s).2.scrub = s.scrub := by simp [answerSendFlowStatusNow]
@[simp] theorem answerSendFlowStatusNow_attn (r : Payload) (s : State) : (answerSendFlowStatusNow r s).2.attn = s.attn := by simp [answerSendFlowStatusNow]
@[simp] theorem answerSendFlowStatusNow_globals (r : Payload) (s : State) : (answerSendFlowStatusNow r s).2.globals = s.globals := by simp [answerSendFlowStatusNow]
@[simp] theorem answerSendFlowStatusNow_freeCtr (r : Payload) (s : State) : (answerSendFlowStatusNow r s).2.freeCtr = s.freeCtr := by simp [answerSendFlowStatusNow]
@[simp] theorem answerSendFlowStatusNow_pending (r : Payload) (s : State) : (answerSendFlowStatusNow r s).2.pending = s.pending := by simp [answerSendFlowStatusNow]

@[simp] theorem answerSetManagementLinks_rstN (r : Payload) (s : State) : (answerSetManagementLinks r s).2.rstN = s.rstN := by
  unfold answerSetManagementLinks
  split <;> rfl
@[simp] theorem answerSetManagementLinks_straps (r : Payload) (s : State) : (answerSetManagementLinks r s).2.straps = s.straps := by
  unfold answerSetManagementLinks
  split <;> rfl
@[simp] theorem answerSetManagementLinks_links (r : Payload) (s : State) : (answerSetManagementLinks r s).2.links = s.links := by
  unfold answerSetManagementLinks
  split <;> rfl
@[simp] theorem answerSetManagementLinks_queues (r : Payload) (s : State) : (answerSetManagementLinks r s).2.queues = s.queues := by
  unfold answerSetManagementLinks
  split <;> rfl
@[simp] theorem answerSetManagementLinks_rrPtr (r : Payload) (s : State) : (answerSetManagementLinks r s).2.rrPtr = s.rrPtr := by
  unfold answerSetManagementLinks
  split <;> rfl
@[simp] theorem answerSetManagementLinks_pool (r : Payload) (s : State) : (answerSetManagementLinks r s).2.pool = s.pool := by
  unfold answerSetManagementLinks
  split <;> rfl
@[simp] theorem answerSetManagementLinks_tables (r : Payload) (s : State) : (answerSetManagementLinks r s).2.tables = s.tables := by
  unfold answerSetManagementLinks
  split <;> rfl
@[simp] theorem answerSetManagementLinks_params (r : Payload) (s : State) : (answerSetManagementLinks r s).2.params = s.params := by
  unfold answerSetManagementLinks
  split <;> rfl
@[simp] theorem answerSetManagementLinks_monitor (r : Payload) (s : State) : (answerSetManagementLinks r s).2.monitor = s.monitor := by
  unfold answerSetManagementLinks
  split <;> rfl
@[simp] theorem answerSetManagementLinks_flow (r : Payload) (s : State) : (answerSetManagementLinks r s).2.flow = s.flow := by
  unfold answerSetManagementLinks
  split <;> rfl
@[simp] theorem answerSetManagementLinks_epoch (r : Payload) (s : State) : (answerSetManagementLinks r s).2.epoch = s.epoch := by
  unfold answerSetManagementLinks
  split <;> rfl
@[simp] theorem answerSetManagementLinks_op (r : Payload) (s : State) : (answerSetManagementLinks r s).2.op = s.op := by
  unfold answerSetManagementLinks
  split <;> rfl
@[simp] theorem answerSetManagementLinks_scrub (r : Payload) (s : State) : (answerSetManagementLinks r s).2.scrub = s.scrub := by
  unfold answerSetManagementLinks
  split <;> rfl
@[simp] theorem answerSetManagementLinks_attn (r : Payload) (s : State) : (answerSetManagementLinks r s).2.attn = s.attn := by
  unfold answerSetManagementLinks
  split <;> rfl
@[simp] theorem answerSetManagementLinks_globals (r : Payload) (s : State) : (answerSetManagementLinks r s).2.globals = s.globals := by
  unfold answerSetManagementLinks
  split <;> rfl
@[simp] theorem answerSetManagementLinks_freeCtr (r : Payload) (s : State) : (answerSetManagementLinks r s).2.freeCtr = s.freeCtr := by
  unfold answerSetManagementLinks
  split <;> rfl
@[simp] theorem answerSetManagementLinks_pending (r : Payload) (s : State) : (answerSetManagementLinks r s).2.pending = s.pending := by
  unfold answerSetManagementLinks
  split <;> rfl

@[simp] theorem answerSetParameter_rstN (r : Payload) (s : State) : (answerSetParameter r s).2.rstN = s.rstN := by
  unfold answerSetParameter
  (repeat' split) <;> simp 
@[simp] theorem answerSetParameter_straps (r : Payload) (s : State) : (answerSetParameter r s).2.straps = s.straps := by
  unfold answerSetParameter
  (repeat' split) <;> simp 
@[simp] theorem answerSetParameter_links (r : Payload) (s : State) : (answerSetParameter r s).2.links = s.links := by
  unfold answerSetParameter
  (repeat' split) <;> simp 
@[simp] theorem answerSetParameter_queues (r : Payload) (s : State) : (answerSetParameter r s).2.queues = s.queues := by
  unfold answerSetParameter
  (repeat' split) <;> simp 
@[simp] theorem answerSetParameter_rrPtr (r : Payload) (s : State) : (answerSetParameter r s).2.rrPtr = s.rrPtr := by
  unfold answerSetParameter
  (repeat' split) <;> simp 
@[simp] theorem answerSetParameter_tables (r : Payload) (s : State) : (answerSetParameter r s).2.tables = s.tables := by
  unfold answerSetParameter
  (repeat' split) <;> simp 
@[simp] theorem answerSetParameter_monitor (r : Payload) (s : State) : (answerSetParameter r s).2.monitor = s.monitor := by
  unfold answerSetParameter
  (repeat' split) <;> simp 
@[simp] theorem answerSetParameter_flow (r : Payload) (s : State) : (answerSetParameter r s).2.flow = s.flow := by
  unfold answerSetParameter
  (repeat' split) <;> simp 
@[simp] theorem answerSetParameter_epoch (r : Payload) (s : State) : (answerSetParameter r s).2.epoch = s.epoch := by
  unfold answerSetParameter
  (repeat' split) <;> simp 
@[simp] theorem answerSetParameter_agent (r : Payload) (s : State) : (answerSetParameter r s).2.agent = s.agent := by
  unfold answerSetParameter
  (repeat' split) <;> simp 
@[simp] theorem answerSetParameter_op (r : Payload) (s : State) : (answerSetParameter r s).2.op = s.op := by
  unfold answerSetParameter
  (repeat' split) <;> simp 
@[simp] theorem answerSetParameter_attn (r : Payload) (s : State) : (answerSetParameter r s).2.attn = s.attn := by
  unfold answerSetParameter
  (repeat' split) <;> simp 
@[simp] theorem answerSetParameter_globals (r : Payload) (s : State) : (answerSetParameter r s).2.globals = s.globals := by
  unfold answerSetParameter
  (repeat' split) <;> simp 
@[simp] theorem answerSetParameter_freeCtr (r : Payload) (s : State) : (answerSetParameter r s).2.freeCtr = s.freeCtr := by
  unfold answerSetParameter
  (repeat' split) <;> simp 
@[simp] theorem answerSetParameter_pending (r : Payload) (s : State) : (answerSetParameter r s).2.pending = s.pending := by
  unfold answerSetParameter
  (repeat' split) <;> simp 

end Sys2Proof.Laws
end

