-- ==== Sys2Proof/Laws/Replies.lean ====
section
/-! SUPPORT. Requests and replies: a request that is answered or refused, the bytes of a response record, the codes of a request record. -/

namespace Sys2Proof.Laws

open Sys2Proof.Machine

theorem place_replied (u : State) (l : Link) (rest : List Carried) (record : Payload) :
    ({ u with agent := { u.agent with queue := rest }, freeCtr := u.freeCtr + 64 } : State).place l record = u.replied l rest record := by
  unfold State.place State.replied
  rfl

theorem serve_replied {s : State} {l : Link} {r : Payload} {rest : List Carried} {row : RequestRow} {execute : Payload → State → Answer × State}
    (a : Answer) (u : State) (h : s.hasRequest l r rest) (hr : requestRow r = row)
    (ha : execute r { s with agent := { s.agent with queue := rest } } = (a, { u with agent := { u.agent with queue := rest } })) :
    s.serve row execute = u.replied l rest (replyBytes r a.result.byte a.data) := by
  unfold State.serve
  rw [headRequest_of h.1 h.2.1 h.2.2 hr]
  dsimp only
  rw [show s.agent.queue.tail = rest by rw [h.2.2]; rfl, ha]
  exact place_replied u l rest _
theorem exec_answered {s : State} {l : Link} {r : Payload} {rest : List Carried} {row : RequestRow} {execute : Payload → State → Answer × State}
    {i : Instr} {res : Byte} {data : List Byte} (hi : exec i s = .next (s.serve row execute))
    (a : Answer) (u : State) (h : s.hasRequest l r rest) (hr : requestRow r = row)
    (ha : execute r { s with agent := { s.agent with queue := rest } } = (a, { u with agent := { u.agent with queue := rest } }))
    (hres : a.result.byte = res) (hdata : a.data = data) : exec i s = .next (u.replied l rest (replyBytes r res data)) := by
  rw [hi, serve_replied a u h hr ha, hres, hdata]

theorem exec_refused {s : State} {l : Link} {r : Payload} {rest : List Carried} {row : RequestRow} {execute : Payload → State → Answer × State}
    {i : Instr} {res : Byte} (hi : exec i s = .next (s.serve row execute))
    (c : ResultCode) (h : s.hasRequest l r rest) (hr : requestRow r = row)
    (ha : execute r { s with agent := { s.agent with queue := rest } } = (.refuse c, { s with agent := { s.agent with queue := rest } }))
    (hres : c.byte = res) : exec i s = .next (s.replied l rest (replyBytes r res [])) :=
  exec_answered hi (.refuse c) s h hr ha hres rfl

theorem be16_word (v : BitVec 16) : be16 v = [BitVec.ofNat 8 (v.toNat / 256), BitVec.ofNat 8 v.toNat] := by
  simp only [be16, List.cons.injEq, and_true]
  constructor <;> (apply BitVec.eq_of_toNat_eq; simp [BitVec.extractLsb'_toNat, Nat.shiftRight_eq_div_pow])

theorem recByte_packBytes (data : List Byte) (n : Nat) : recByte (packBytes 64 data) n = if n < 64 then data.getD n 0 else 0 := by
  unfold recByte packBytes
  by_cases h : n < 64
  · simp [h, List.getD_eq_getElem?_getD]
  · simp [h, List.getD_eq_getElem?_getD]

/-- The first four bytes of a response. -/
@[simp] theorem recByte_reply_kind (r : Payload) (res : Byte) (data : List Byte) : recByte (replyBytes r res data) 0 = recByte r 0 := by
  rw [replyBytes, recByte_packBytes]; rfl
@[simp] theorem recByte_reply_result (r : Payload) (res : Byte) (data : List Byte) : recByte (replyBytes r res data) 1 = res := by
  rw [replyBytes, recByte_packBytes]; rfl
@[simp] theorem recWord_reply_tag (r : Payload) (res : Byte) (data : List Byte) : recWord (replyBytes r res data) 2 = recWord r 2 := by
  unfold recWord; rw [replyBytes, recByte_packBytes, recByte_packBytes]; rfl

/-- The bytes of a response from byte 4 on. -/
theorem recByte_reply (r : Payload) (res : Byte) (data : List Byte) (n : Nat) (h : 4 ≤ n) :
    recByte (replyBytes r res data) n = if n < 64 then data.getD (n - 4) 0 else 0 := by
  obtain ⟨k, rfl⟩ := Nat.exists_eq_add_of_le h
  rw [replyBytes, recByte_packBytes]
  simp [List.getD_eq_getElem?_getD, Nat.add_comm 4 k]

theorem recByte_reply_beyond (r : Payload) (res : Byte) (data : List Byte) (n : Nat) (h : 4 + data.length ≤ n) :
    recByte (replyBytes r res data) n = 0 := by
  rw [recByte_reply r res data n (by omega)]
  split
  · rw [List.getD_eq_getElem?_getD, List.getElem?_eq_none (by omega)]; rfl
  · rfl

theorem setBytes_has (set : LinkSet) (k : Link) : ((setBytes set).getD (k.val / 8) 0).getLsbD (k.val % 8) = LinkSet.has set k := by
  unfold setBytes LinkSet.has
  obtain ⟨k, hk⟩ := k
  interval_cases k <;> simp

theorem setBytes_length (set : LinkSet) : (setBytes set).length = 4 := rfl

theorem be16_pair (v : BitVec 16) : (v.extractLsb' 8 8 ++ v.extractLsb' 0 8 : BitVec 16) = v := by
  apply BitVec.eq_of_getLsbD_eq
  intro i hi
  rw [BitVec.getLsbD_append]
  by_cases h : i < 8
  · simp [h]
  · simp [h, show i - 8 < 8 by omega, show 8 + (i - 8) = i by omega]
theorem be32_quad (v : BitVec 32) : (v.extractLsb' 24 8 ++ v.extractLsb' 16 8 ++ v.extractLsb' 8 8 ++ v.extractLsb' 0 8 : BitVec 32) = v := by
  apply BitVec.eq_of_getLsbD_eq
  intro i hi
  simp only [BitVec.getLsbD_append]
  by_cases h : i < 8
  · simp [h]
  · by_cases h2 : i < 16
    · simp [h, show i - 8 < 8 by omega, show 8 + (i - 8) = i by omega]
    · by_cases h3 : i < 24
      · simp [h, show ¬ i - 8 < 8 by omega, show i - 8 - 8 < 8 by omega, show 16 + (i - 8 - 8) = i by omega]
      · simp [h, show ¬ i - 8 < 8 by omega, show ¬ i - 8 - 8 < 8 by omega, show i - 8 - 8 - 8 < 8 by omega, show 24 + (i - 8 - 8 - 8) = i by omega]
theorem linkOf_eq (b : Byte) (k : Link) (h : b.toNat = k.val) : linkOf b = some k := by
  unfold linkOf; rw [dif_pos (by omega)]; congr 1; exact Fin.ext h
theorem linkOf_none (b : Byte) (h : 32 ≤ b.toNat) : linkOf b = none := by
  unfold linkOf; rw [dif_neg (by omega)]
theorem classOf_eq (b : Byte) (k : Sys2Proof.Class) (h : b.toNat = k.val) : classOf b = some k := by
  unfold classOf; rw [dif_pos (by omega)]; congr 1; exact Fin.ext h
theorem classOf_none (b : Byte) (h : 4 ≤ b.toNat) : classOf b = none := by
  unfold classOf; rw [dif_neg (by omega)]

theorem num8_toNat (n : Nat) (h : n < 256) : (num8 n).toNat = n := by simp [num8]; omega

theorem foldl_or (member : Link → Bool) (ls : List Link) (acc : LinkSet) (k : Link) :
    LinkSet.has (ls.foldl (fun acc l => if member l = true then acc ||| LinkSet.single l else acc) acc) k =
      (LinkSet.has acc k || (decide (k ∈ ls) && member k)) := by
  induction ls generalizing acc with
  | nil => simp
  | cons a ls ih =>
    rw [List.foldl_cons, ih]
    by_cases ha : member a = true
    · rw [if_pos ha]
      unfold LinkSet.has LinkSet.single
      by_cases e : k = a
      · subst e; simp [ha, BitVec.getLsbD_twoPow, k.isLt]
      · have : a.val ≠ k.val := fun h => e (Fin.ext h.symm)
        have t2 : ¬ (k.val = a.val) := fun h => this h.symm
        simp [e, t2]
    · rw [if_neg ha]
      by_cases e : k = a
      · subst e; simp [ha]
      · simp [e]

theorem setOf_has (member : Link → Bool) (k : Link) : LinkSet.has (Machine.setOf member) k = member k := by
  unfold Machine.setOf; rw [foldl_or]; simp [LinkSet.has]

theorem getD_append_left (a b : List Byte) (n : Nat) (h : n < a.length) : (a ++ b).getD n 0 = a.getD n 0 := by
  simp [List.getD_eq_getElem?_getD, List.getElem?_append_left h]
theorem getD_append_right (a b : List Byte) (n : Nat) (h : a.length ≤ n) : (a ++ b).getD n 0 = b.getD (n - a.length) 0 := by
  simp [List.getD_eq_getElem?_getD, List.getElem?_append_right h]

theorem linkStateBytes_at (s : State) (n : Link) :
   ((s.linkStateBytes).getD (n.val / 4) 0).toNat / 4 ^ (n.val % 4) % 4 = (s.link n).state.code := by
  have hc : ∀ m, s.linkCodeAt m ≤ 3 := by intro m; unfold State.linkCodeAt; split <;> [(unfold LinkState.code; split <;> omega); omega]
  unfold State.linkStateBytes
  have hn := n.isLt
  rw [List.getD_eq_getElem?_getD, List.getElem?_map, List.getElem?_range (by omega)]
  simp only [Option.map_some, Option.getD_some]
  have h0 := hc (4 * (n.val / 4)); have h1 := hc (4 * (n.val / 4) + 1); have h2 := hc (4 * (n.val / 4) + 2); have h3 := hc (4 * (n.val / 4) + 3)
  rw [num8_toNat _ (by omega)]
  have hm : n.val % 4 = 0 ∨ n.val % 4 = 1 ∨ n.val % 4 = 2 ∨ n.val % 4 = 3 := by omega
  have hv : s.linkCodeAt n.val = (s.link n).state.code := by unfold State.linkCodeAt; simp [n.isLt]
  rw [← hv]
  rcases hm with hm | hm | hm | hm <;> rw [hm]
  · rw [show n.val = 4 * (n.val / 4) by omega] ; simp; omega
  · conv => rhs; rw [show n.val = 4 * (n.val / 4) + 1 by omega]
    omega
  · conv => rhs; rw [show n.val = 4 * (n.val / 4) + 2 by omega]
    omega
  · conv => rhs; rw [show n.val = 4 * (n.val / 4) + 3 by omega]
    omega

theorem be16_len (v : BitVec 16) : (be16 v).length = 2 := rfl
theorem opBytes_len (f : Nat → Byte) (o : Option OpRecord) : (opBytes f o).length = 16 := by
  rcases o with _ | ⟨st, p, w⟩
  · rfl
  · cases w <;> simp [opBytes, num16, be16, opt16]
    · rename_i v; cases v <;> simp [digestBytes, be32]
    · rename_i a b; cases a <;> cases b <;> simp [num16, be16]

/-- An operation record in a record whose bytes from o on are those of its layout. -/
theorem operationAt_of (reply : Payload) (o : Nat) (f : Nat → Byte) (r : Option OpRecord)
    (h : ∀ n, n < 16 → recByte reply (o + n) = (opBytes f r).getD n 0) : operationAt reply o r := by
  rcases r with _ | ⟨st, p, w⟩
  · intro n hn; rw [h n hn]
    simp only [opBytes, List.getD_eq_getElem?_getD, List.getElem?_replicate]; simp [hn]
  · have h0 := h 0 (by omega); have h1 := h 1 (by omega); have h2 := h 2 (by omega); have h3 := h 3 (by omega); have h4 := h 4 (by omega)
    have h5 := h 5 (by omega); have h6 := h 6 (by omega); have h7 := h 7 (by omega); have h8 := h 8 (by omega); have h9 := h 9 (by omega)
    have h10 := h 10 (by omega); have h11 := h 11 (by omega); have h12 := h 12 (by omega); have h13 := h 13 (by omega)
    have h14 := h 14 (by omega); have h15 := h 15 (by omega)
    rw [Nat.add_zero] at h0
    unfold operationAt
    cases w <;> dsimp only
    · rename_i b e f l k
      simp [opBytes, num16, be16] at *
      refine ⟨?_, h5, ?_, h0, ?_, ?_, h4, ?_, ?_⟩
      · rw [h1]; cases st <;> rfl
      · rw [recWord, h6, show o + 6 + 1 = o + 7 by omega, h7, be16_pair]
      · rw [h2]; cases e.table <;> rfl
      · rw [h3, num8_toNat] ; omega
      · rw [recWord, h8, show o + 8 + 1 = o + 9 by omega, h9, be16_pair]
      · intro n ha hb
        have : n = 10 ∨ n = 11 ∨ n = 12 ∨ n = 13 ∨ n = 14 ∨ n = 15 := by omega
        rcases this with rfl | rfl | rfl | rfl | rfl | rfl <;> assumption
    · rename_i a b k j
      simp [opBytes, num16, be16] at *
      refine ⟨?_, h5, ?_, h0, h2, ?_, ?_, ?_, ?_, ?_⟩
      · rw [h1]; cases st <;> rfl
      · rw [recWord, h6, show o + 6 + 1 = o + 7 by omega, h7, be16_pair]
      · rw [h3, num8_toNat] ; omega
      · rw [h4, num8_toNat] ; omega
      · rw [recWord, h8, show o + 8 + 1 = o + 9 by omega, h9, be16_pair]
      · rw [recWord, h10, show o + 10 + 1 = o + 11 by omega, h11, be16_pair]
      · intro n ha hb
        have : n = 12 ∨ n = 13 ∨ n = 14 ∨ n = 15 := by omega
        rcases this with rfl | rfl | rfl | rfl <;> assumption
    · rename_i t b role k reg v
      simp [opBytes, num16, be16] at *
      refine ⟨?_, h5, ?_, h0, ?_, ?_, ?_, ?_, ?_, h11, ?_⟩
      · rw [h1]; cases st <;> rfl
      · rw [recWord, h6, show o + 6 + 1 = o + 7 by omega, h7, be16_pair]
      · rw [h2]; cases t <;> rfl
      · rw [h3, num8_toNat] ; omega
      · rw [h4]; cases role <;> rfl
      · rw [recWord, h8, show o + 8 + 1 = o + 9 by omega, h9, be16_pair]
      · rw [h10]; cases v <;> rfl
      · intro a ha; subst ha
        simp [digestBytes, be32] at *
        rw [recLong, h12, show o + 12 + 1 = o + 13 by omega, h13, show o + 12 + 2 = o + 14 by omega, h14, show o + 12 + 3 = o + 15 by omega, h15, be32_quad]
    · rename_i k j a b
      have e : ∀ v, opt16 v = be16 (BitVec.ofNat 16 (v.getD 65535)) := by intro v; cases v <;> rfl
      simp [opBytes, num16, e, be16] at *
      refine ⟨?_, h5, ?_, h0, h2, h3, h4, ?_, ?_, ?_, ?_⟩
      · rw [h1]; cases st <;> rfl
      · rw [recWord, h6, show o + 6 + 1 = o + 7 by omega, h7, be16_pair]
      · rw [recWord, h8, show o + 8 + 1 = o + 9 by omega, h9, be16_pair]
      · rw [recWord, h10, show o + 10 + 1 = o + 11 by omega, h11, be16_pair]
      · rw [recWord, h12, show o + 12 + 1 = o + 13 by omega, h13, be16_pair]
      · rw [recWord, h14, show o + 14 + 1 = o + 15 by omega, h15, be16_pair]

theorem tableOf_eq (b : Byte) (tb : Table) (h : b.toNat = (match tb with | .group => 0 | .destination => 1)) : tableOf b = some tb := by
  cases tb
  · have : b = 0 := BitVec.eq_of_toNat_eq h
    subst this; rfl
  · have : b = 1 := BitVec.eq_of_toNat_eq h
    subst this; rfl
theorem tableOf_none (b : Byte) (h : 1 < b.toNat) : tableOf b = none := by
  unfold tableOf
  rw [if_neg (by rintro rfl; simp at h), if_neg (by rintro rfl; simp at h)]
theorem roleOf_eq (b : Byte) (tb : Role) (h : b.toNat = (match tb with | .active => 0 | .standby => 1)) : roleOf b = some tb := by
  cases tb
  · have : b = 0 := BitVec.eq_of_toNat_eq h
    subst this; rfl
  · have : b = 1 := BitVec.eq_of_toNat_eq h
    subst this; rfl
theorem roleOf_none (b : Byte) (h : 1 < b.toNat) : roleOf b = none := by
  unfold roleOf
  rw [if_neg (by rintro rfl; simp at h), if_neg (by rintro rfl; simp at h)]

theorem carriedGood_iff (e : EntryFields) : e.carriedGood = true ↔ mayBeWritten e := by
  unfold EntryFields.carriedGood mayBeWritten EntryFields.isCorrupt EntryFields.stateUndefined
  cases e <;> simp [EntryFields.state, EntryFields.table, corruptCode] <;> rename_i g <;> intro _
  · constructor
    · rintro ⟨h1, h2⟩; have : g.state.toNat ≠ 2 := fun h => h1 (BitVec.eq_of_toNat_eq h); omega
    · intro h; exact ⟨by rintro h'; rw [h'] at h; simp at h, by omega⟩
  · constructor
    · rintro ⟨h1, h2⟩; have : g.state.toNat ≠ 3 := fun h => h1 (BitVec.eq_of_toNat_eq h); omega
    · intro h; exact ⟨by rintro h'; rw [h'] at h; simp at h, by omega⟩

theorem clamp_stored (lo hi v : Nat) (h : lo ≤ hi) : clamp lo hi v = if v < lo then lo else if hi < v then hi else v := by
  unfold clamp; split <;> [omega; split <;> omega]

theorem valueAt_of (ps : Params) (p : Param) (reply : Payload) (h : ∀ n, n < 4 → recByte reply (8 + n) = (ps.valueBytes p).getD n 0) : ps.valueAt reply p := by
  have w : ∀ n, (ps.valueBytes p) = num32 n → recLong reply 8 = BitVec.ofNat 32 n := by
    intro n e
    have c0 := h 0 (by omega); have c1 := h 1 (by omega); have c2 := h 2 (by omega); have c3 := h 3 (by omega)
    rw [e] at c0 c1 c2 c3
    rw [Nat.add_zero] at c0
    rw [recLong, c0, c1, c2, c3]; exact be32_quad _
  cases p <;> first
    | exact ⟨h 0 (by omega), h 1 (by omega), h 2 (by omega), h 3 (by omega)⟩
    | (intro n hn; cases hn; exact w _ rfl)
    | (intro k; rw [h _ (by omega)]; exact setBytes_has _ k)
    | (rename_i k; cases k <;> (intro n hn; cases hn; exact w _ rfl))

theorem paramReply (r : Payload) (res : Byte) (D : List Byte) (hD : D.length = 4) (hk : recByte r 0 = 0x40) :
    (recByte (replyBytes r res (parameterEcho r ++ D)) 0 = 0x40 ∧ recByte (replyBytes r res (parameterEcho r ++ D)) 1 = res ∧ recWord (replyBytes r res (parameterEcho r ++ D)) 2 = recWord r 2 ∧
      recByte (replyBytes r res (parameterEcho r ++ D)) 4 = recByte r 4 ∧ recByte (replyBytes r res (parameterEcho r ++ D)) 5 = recByte r 5 ∧ recByte (replyBytes r res (parameterEcho r ++ D)) 6 = 0 ∧ recByte (replyBytes r res (parameterEcho r ++ D)) 7 = 0 ∧ ∀ n, 12 ≤ n → recByte (replyBytes r res (parameterEcho r ++ D)) n = 0) ∧
    ∀ n, n < 4 → recByte (replyBytes r res (parameterEcho r ++ D)) (8 + n) = D.getD n 0 := by
  have b : ∀ n, n < 60 → recByte (replyBytes r res (parameterEcho r ++ D)) (4 + n) = (recByte r 4 :: recByte r 5 :: 0 :: 0 :: D).getD n 0 := by
    intro n hn; rw [recByte_reply _ _ _ _ (by omega), if_pos (by omega), Nat.add_sub_cancel_left]; rfl
  refine ⟨⟨(recByte_reply_kind ..).trans hk, recByte_reply_result .., recWord_reply_tag .., b 0 (by omega), b 1 (by omega), b 2 (by omega), b 3 (by omega), ?_⟩, ?_⟩
  · intro n hn; apply recByte_reply_beyond; simp [parameterEcho, hD]; omega
  · intro n hn; rw [show 8 + n = 4 + (4 + n) by omega, b _ (by omega), Nat.add_comm 4 n]; rfl

theorem valueBytes_len (ps : Params) (p : Param) : (ps.valueBytes p).length = 4 := by cases p <;> rfl

theorem recSet_has (r : Payload) (n : Nat) (k : Link) : LinkSet.has (recSet r n) k = (recByte r (n + k.val / 8)).getLsbD (k.val % 8) := by
  unfold LinkSet.has recSet
  obtain ⟨k, hk⟩ := k
  simp only [BitVec.getLsbD_append]
  by_cases h : k < 8
  · simp [h, show k / 8 = 0 by omega, Nat.mod_eq_of_lt h]
  · by_cases h2 : k < 16
    · simp [h, show k - 8 < 8 by omega, show k / 8 = 1 by omega, show k % 8 = k - 8 by omega]
    · by_cases h3 : k < 24
      · simp [h, show ¬ k - 8 < 8 by omega, show k - 8 - 8 < 8 by omega, show k / 8 = 2 by omega, show k % 8 = k - 8 - 8 by omega]
      · simp [h, show ¬ k - 8 < 8 by omega, show ¬ k - 8 - 8 < 8 by omega, show k / 8 = 3 by omega, show k % 8 = k - 8 - 8 - 8 by omega]

/-- A request command that gives a reply answers. -/
theorem answers_of {s u : State} {i : Instr} {l : Link} {rest : List Carried} {reply : Payload} (h : exec i s = .next (u.replied l rest reply)) :
    s.answers i u l rest reply := ⟨(u.replied l rest reply).freeCtr, h⟩

end Sys2Proof.Laws
end

