-- ==== Sys2Proof/Laws/Formats.lean ====
section
/-! SUPPORT. The bytes of the cells the device builds. -/

namespace Sys2Proof.Laws

open Sys2Proof.Machine

theorem packBytes_toList (n : Nat) (l : List Byte) (h : l.length = n) : (packBytes n l).toList = l := by
  unfold packBytes
  apply List.ext_getElem
  · simp [h]
  · intro i h1 h2; simp [List.getD_eq_getElem?_getD, h2]

theorem packBytes_get (n : Nat) (l : List Byte) (i : Nat) (hi : i < n) : (packBytes n l)[i] = l.getD i 0 := by
  unfold packBytes; simp

/-- R1, R184: the fields of a cell the device builds. -/
theorem buildCell_fields (kind : CellKind) (plane : BitVec 3) (length : Byte) (payload : Payload) :
    let cell := buildCell kind plane length payload
    goodHeaderKind cell = some kind ∧ payloadCheckGood cell = true ∧ cellClass cell = 0 ∧ cell[0].getLsbD 1 = true ∧ cell[0].getLsbD 0 = true ∧
      cell[1] = 0 ∧ cellDest cell = 0 ∧ cell[4].toNat = plane.toNat ∧ cell[5] = 0 ∧ cell[6] = 0 ∧ cell[7] = length ∧ cell[8] = 0 ∧ cellPayload cell = payload := by
  intro cell
  have hl : payload.toList.length = 64 := by simp
  let header : List Byte := [kind.code ++ 0x3#4, 0, 0, 0, plane.zeroExtend 8, 0, 0, length, 0]
  have hc : cell = packBytes 76 (header ++ [crc8 header] ++ payload.toList ++ be16 (crc16 payload.toList)) := rfl
  have ht : cell.toList = header ++ [crc8 header] ++ payload.toList ++ be16 (crc16 payload.toList) := by
    rw [hc, packBytes_toList]; simp [header, hl, be16]
  have get : ∀ i (hi : i < 76), cell[i] = (header ++ [crc8 header] ++ payload.toList ++ be16 (crc16 payload.toList)).getD i 0 := by
    intro i hi; rw [← ht]; simp [List.getD_eq_getElem?_getD, hi]
  have g0 := get 0 (by omega); have g1 := get 1 (by omega); have g2 := get 2 (by omega); have g3 := get 3 (by omega); have g4 := get 4 (by omega)
  have g5 := get 5 (by omega); have g6 := get 6 (by omega); have g7 := get 7 (by omega); have g8 := get 8 (by omega); have g9 := get 9 (by omega)
  simp [header] at g0 g1 g2 g3 g4 g5 g6 g7 g8
  have g9' : cell[9] = crc8 header := by rw [g9]; simp [header]
  have t9 : cell.toList.take 9 = header := by rw [ht]; simp [header]
  have tp : (cell.toList.drop 10).take 64 = payload.toList := by
    rw [ht]; simp [header]
  refine ⟨?_, ?_, ?_, ?_, ?_, g1, ?_, ?_, g5, g6, g7, g8, ?_⟩
  · unfold goodHeaderKind headerCheckGood cellKind
    rw [t9, g9', g0]; simp
    cases kind <;> decide
  · unfold payloadCheckGood; rw [tp]
    have g74 := get 74 (by omega); have g75 := get 75 (by omega)
    have e74 : cell[74] = (crc16 payload.toList).extractLsb' 8 8 := by
      rw [g74]; rw [List.getD_eq_getElem?_getD, List.getElem?_append_right (by simp [header, hl])]; simp [header, hl, be16]
    have e75 : cell[75] = (crc16 payload.toList).extractLsb' 0 8 := by
      rw [g75]; rw [List.getD_eq_getElem?_getD, List.getElem?_append_right (by simp [header, hl])]; simp [header, hl, be16]
    rw [e74, e75, be16_pair]; simp
  · unfold cellClass; apply Fin.ext; simp only [g0]; cases kind <;> decide
  · rw [g0]; cases kind <;> decide
  · rw [g0]; cases kind <;> decide
  · unfold cellDest; rw [g2, g3]; rfl
  · rw [g4]; simp; omega
  · unfold cellPayload; rw [tp]
    apply Vector.toList_inj.mp; exact packBytes_toList 64 _ hl

theorem flagsToByte_bit (f : Nat → Bool) (i : Nat) (h : i < 8) : (flagsToByte f).getLsbD i = f i := by
  unfold flagsToByte
  simp only [List.foldl_cons, List.foldl_nil]
  interval_cases i <;> cases f 0 <;> cases f 1 <;> cases f 2 <;> cases f 3 <;> cases f 4 <;> cases f 5 <;> cases f 6 <;> cases f 7 <;> decide

end Sys2Proof.Laws
end

