-- ==== Sys2Proof/Laws/Tables.lean ====
section
/-! SUPPORT. What a write of a table entry leaves of every entry and of the form of the stores. -/

namespace Sys2Proof.Laws

open Sys2Proof.Machine

theorem state_ext {s t : State} (h0 : s.rstN = t.rstN) (h1 : s.straps = t.straps) (h2 : s.links = t.links) (h3 : s.queues = t.queues) (h4 : s.rrPtr = t.rrPtr) (h5 : s.pool = t.pool) (h6 : s.tables = t.tables) (h7 : s.params = t.params) (h8 : s.monitor = t.monitor) (h9 : s.flow = t.flow) (h10 : s.epoch = t.epoch) (h11 : s.agent = t.agent) (h12 : s.op = t.op) (h13 : s.scrub = t.scrub) (h14 : s.attn = t.attn) (h15 : s.globals = t.globals) (h16 : s.freeCtr = t.freeCtr) (h17 : s.pending = t.pending) : s = t := by
  cases s; cases t; simp only at h0 h1 h2 h3 h4 h5 h6 h7 h8 h9 h10 h11 h12 h13 h14 h15 h16 h17; subst h0 h1 h2 h3 h4 h5 h6 h7 h8 h9 h10 h11 h12 h13 h14 h15 h16 h17; rfl

/-- Writing one entry changes that entry and no other. -/
theorem entry_putEntry (s : State) (wf : s.storesCanonical) (b : Bank) (i : Nat) (e : EntryFields) (code : Byte) (t : Table) (b' : Bank) (i' : Nat) :
    (s.putEntry b i e code).entry t b' i' = if t = e.table ∧ b' = b ∧ i' = i then ⟨e, code⟩ else s.entry t b' i' := by
  have wfb : Memory.wf powerOnGroup (slot s.tables.banks b).groups = true ∧ Memory.wf powerOnDest (slot s.tables.banks b).dests = true := wf.1 b
  by_cases hb : b' = b
  · subst hb
    cases e <;> cases t <;> simp only [State.putEntry, State.entry, State.bank, State.setBank, EntryFields.table, slot_setSlot_same]
    · rw [read_write _ _ _ wfb.1]
      by_cases hi : i = i'
      · subst hi; simp
      · have : ¬ i' = i := fun h => hi h.symm
        simp [hi, this]
    · simp
    · simp
    · rw [read_write _ _ _ wfb.2]
      by_cases hi : i = i'
      · subst hi; simp
      · have : ¬ i' = i := fun h => hi h.symm
        simp [hi, this]
  · have hb' : b ≠ b' := fun h => hb h.symm
    cases e <;> cases t <;> simp [State.putEntry, State.entry, State.bank, State.setBank, slot_setSlot_ne _ _ _ _ hb', hb]

/-- Writing one entry keeps the stores canonical. -/
theorem putEntry_canonical (s : State) (wf : s.storesCanonical) (b : Bank) (i : Nat) (e : EntryFields) (code : Byte) :
    (s.putEntry b i e code).storesCanonical := by
  obtain ⟨wb, rest⟩ := wf
  refine ⟨fun b' => ?_, ?_⟩
  · by_cases hb : b = b'
    · subst hb
      cases e <;> simp only [State.putEntry, State.bank, State.setBank, slot_setSlot_same]
      · exact ⟨write_wf _ _ (wb b).1, (wb b).2⟩
      · exact ⟨(wb b).1, write_wf _ _ (wb b).2⟩
    · cases e <;> simp only [State.putEntry, State.bank, State.setBank, slot_setSlot_ne _ _ _ _ hb] <;> exact wb b'
  · cases e <;> exact rest

theorem writeRange_canonical (s : State) (wf : s.storesCanonical) (b : Bank) (first count : Nat) (e : Nat → EntryFields) :
    (s.writeRange b first count e).storesCanonical := by
  unfold State.writeRange
  induction count with
  | zero => exact wf
  | succ n ih => rw [List.range_succ, List.foldl_append]; exact putEntry_canonical _ ih _ _ _ _

theorem entry_writeRange (s : State) (wf : s.storesCanonical) (b : Bank) (first count : Nat) (tb : Table) (e : Nat → EntryFields) (he : ∀ k, (e k).table = tb)
    (t : Table) (b' : Bank) (n : Nat) :
    (s.writeRange b first count e).entry t b' n =
      if t = tb ∧ b' = b ∧ first ≤ n ∧ n < first + count then ⟨e (n - first), (e (n - first)).checkCode⟩ else s.entry t b' n := by
  induction count with
  | zero => rw [if_neg (by omega)]; rfl
  | succ c ih =>
    have : s.writeRange b first (c + 1) e = (s.writeRange b first c e).writeEntry b (first + c) (e c) := by
      unfold State.writeRange; rw [List.range_succ, List.foldl_append]; rfl
    rw [this, State.writeEntry, entry_putEntry _ (writeRange_canonical s wf ..), he c, ih]
    by_cases h : t = tb ∧ b' = b
    · by_cases hn : n = first + c
      · rw [if_pos ⟨h.1, h.2, hn⟩, if_pos ⟨h.1, h.2, by omega, by omega⟩]
        have : n - first = c := by omega
        rw [this]
      · rw [if_neg (fun x => hn x.2.2)]
        by_cases hr : first ≤ n ∧ n < first + c
        · rw [if_pos ⟨h.1, h.2, hr.1, hr.2⟩, if_pos ⟨h.1, h.2, by omega, by omega⟩]
        · rw [if_neg (fun x => hr x.2.2), if_neg (fun x => hr ⟨x.2.2.1, by omega⟩)]
    · rw [if_neg (fun x => h ⟨x.1, x.2.1⟩), if_neg (fun x => h ⟨x.1, x.2.1⟩), if_neg (fun x => h ⟨x.1, x.2.1⟩)]

theorem parseEntry_table (t : Table) (b : List Byte) : (parseEntry t b).table = t := by cases t <;> rfl
theorem entry_table (s : State) (t : Table) (b : Bank) (i : Nat) : (s.entry t b i).fields.table = t := by cases t <;> rfl

end Sys2Proof.Laws
end

