-- ==== Sys2Proof/Laws/Operations.lean ====
section
/-! SUPPORT. What each shared operation does, said once: raises, owings and pause reports, flushes, link changes, and the entries of a link into its states. -/

namespace Sys2Proof.Laws

open Sys2Proof.Machine

/-- Two ports with the same items are equal. -/
theorem port_ext {p q : LinkPort} (h0 : p.state = q.state) (h1 : p.disablePending = q.disablePending) (h2 : p.trainCount = q.trainCount) (h3 : p.window = q.window) (h4 : p.keepalive = q.keepalive) (h5 : p.budget = q.budget) (h6 : p.retrainCount = q.retrainCount) (h7 : p.holdOff = q.holdOff) (h8 : p.cause = q.cause) (h9 : p.farGap = q.farGap) (h10 : p.rxBuf = q.rxBuf) (h11 : p.respQueue = q.respQueue) (h12 : p.pendFlowst = q.pendFlowst) (h13 : p.pendAttn = q.pendAttn) (h14 : p.inFlight = q.inFlight) (h15 : p.sending = q.sending) (h16 : p.gapCount = q.gapCount) (h17 : p.wrrClass = q.wrrClass) (h18 : p.wrrCount = q.wrrCount) (h19 : p.counters = q.counters) : p = q := by
  cases p; cases q; simp only at h0 h1 h2 h3 h4 h5 h6 h7 h8 h9 h10 h11 h12 h13 h14 h15 h16 h17 h18 h19; subst h0 h1 h2 h3 h4 h5 h6 h7 h8 h9 h10 h11 h12 h13 h14 h15 h16 h17 h18 h19; rfl

/-! ### Ports that agree but for their pending flags -/

theorem sameButPending_refl (p : LinkPort) : p.sameButPending p := ⟨rfl, id, id⟩
theorem sameButPending_trans {p q r : LinkPort} (h : p.sameButPending q) (k : q.sameButPending r) : p.sameButPending r :=
  ⟨h.1.trans k.1, fun e => h.2.1 (k.2.1 e), fun e => h.2.2 (k.2.2 e)⟩
theorem sameButPending_of_eq {p q : LinkPort} (h : p = q) : p.sameButPending q := h ▸ sameButPending_refl p

/-! ### Raises -/

theorem raise_flags (s : State) (f g : AttnFlag) :
    FlagSet.has (s.raise f).attn.flags g = (decide (g = f) || FlagSet.has s.attn.flags g) := by
  have key : (s.raise f).attn.flags = s.attn.flags ||| BitVec.twoPow 8 f.bit := by
    unfold State.raise State.alertLinks
    split
    · rfl
    · split <;> rfl
  rw [key]; unfold FlagSet.has
  cases f <;> cases g <;> simp [AttnFlag.bit, BitVec.getLsbD_or, BitVec.getLsbD_twoPow]

@[simp] theorem raise_attn_links (s : State) (f : AttnFlag) : (s.raise f).attn.links = s.attn.links := by
  unfold State.raise State.alertLinks; (repeat' split) <;> rfl
@[simp] theorem raise_attn_miss (s : State) (f : AttnFlag) : (s.raise f).attn.miss = s.attn.miss := by
  unfold State.raise State.alertLinks; (repeat' split) <;> rfl
@[simp] theorem raise_attn_lastCorrupt (s : State) (f : AttnFlag) : (s.raise f).attn.lastCorrupt = s.attn.lastCorrupt := by
  unfold State.raise State.alertLinks; (repeat' split) <;> rfl
theorem raise_flag_set (s : State) (f : AttnFlag) : FlagSet.has (s.raise f).attn.flags f = true := by simp [raise_flags]
theorem raise_flags_mono (s : State) (f g : AttnFlag) (h : FlagSet.has s.attn.flags g = true) : FlagSet.has (s.raise f).attn.flags g = true := by
  simp [raise_flags, h]

theorem raise_notUp (s : State) (f : AttnFlag) (k : Link) (h : (s.link k).state ≠ .up) : (s.raise f).link k = s.link k := by
  unfold State.raise State.alertLinks
  split
  · simp
  · dsimp only; split
    · refine (show _ = (s.setFlag f).pendAttention.link k from rfl).trans ?_
      rw [link_pendAttention]; simp [h]
    · rfl

theorem raise_same (s : State) (f : AttnFlag) (k : Link) : ((s.raise f).link k).sameButPending (s.link k) := by
  refine ⟨by apply port_ext <;> simp, by simp, ?_⟩
  intro h
  unfold State.raise State.alertLinks
  split
  · exact h
  · dsimp only; split
    · refine (congrArg LinkPort.pendAttn (show _ = (s.setFlag f).pendAttention.link k from rfl)).trans ?_
      rw [link_pendAttention]; split
      · rfl
      · exact h
    · exact h

/-! ### Owing and pause reports -/

theorem oweFlowst_notUp (s : State) (k : Link) (h : (s.link k).state ≠ .up) : s.oweFlowst.link k = s.link k := by
  rw [link_oweFlowst]; simp [h]
theorem oweFlowst_same (s : State) (k : Link) : (s.oweFlowst.link k).sameButPending (s.link k) := by
  refine ⟨by apply port_ext <;> simp, fun h => ?_, by simp⟩
  rw [link_oweFlowst]; split
  · rfl
  · exact h
theorem oweFlowst_owed (s : State) : s.owed s.oweFlowst := by
  intro k
  rw [link_oweFlowst]
  split
  · rename_i h; simp [h.1, h.2]
  · rename_i h
    have : (LinkSet.has s.params.recipients k && decide ((s.link k).state = .up)) = false := by
      simp only [not_and_or] at h; rcases h with h | h <;> simp [h]
    rw [this]; simp

theorem reportPause_notUp (s : State) (k : Link) (h : (s.link k).state ≠ .up) : s.reportPause.link k = s.link k := by
  unfold State.reportPause
  split
  · rfl
  · split
    · exact oweFlowst_notUp s k h
    · rfl
theorem reportPause_same (s : State) (k : Link) : (s.reportPause.link k).sameButPending (s.link k) := by
  unfold State.reportPause
  split
  · exact sameButPending_refl _
  · split
    · exact oweFlowst_same s k
    · exact sameButPending_refl _

/-- What a pause change report does (R112). -/
theorem reportPause_reported (s : State) : s.pauseReported true s.reportPause := by
  unfold State.pauseReported State.reportPause
  cases h : s.flow.coalescing with
  | running p => simp
  | idle =>
    simp only [true_and, if_true]
    split
    · exact ⟨by simp, oweFlowst_owed s⟩
    · exact ⟨rfl, rfl⟩

/-! ### Releases and flushes -/

theorem poolRelease_fields (p : Pool) (n : Nat) (h : Handle) : (p.release n h).buffers = p.buffers ∧ (p.release n h).retired = p.retired ∧ (p.release n h).underTest = p.underTest ∧
    (p.release n h).free = (if p.refCount h = 1 then p.free ++ [h] else p.free) ∧ (p.release n h).refs = Memory.write 0 p.refs h (p.refCount h - 1) := by
  unfold Pool.release Pool.relatch; dsimp only; split <;> simp

theorem flushQueue_queue (s : State) (q k : QueueId) : (s.flushQueue q).queue k = if k = q then (s.queue q).flushed else s.queue k := by
  unfold State.flushQueue
  show (s.setQueue q (s.queue q).flushed).queue k = _
  rw [queue_setQueue]
  by_cases h : q = k
  · subst h; simp
  · simp [h, show ¬ k = q from fun e => h e.symm]

theorem foldl_flushQueue_queue (s : State) (qs : List QueueId) (nd : qs.Nodup) (k : QueueId) :
    (qs.foldl State.flushQueue s).queue k = if k ∈ qs then (s.queue k).flushed else s.queue k := by
  induction qs generalizing s with
  | nil => simp
  | cons q qs ih =>
    rw [List.nodup_cons] at nd
    rw [List.foldl_cons, ih _ nd.2, flushQueue_queue]
    by_cases h : k = q
    · subst h; simp [nd.1]
    · simp [h]

theorem foldl_flushQueue_pool (s : State) (qs : List QueueId) (nd : qs.Nodup) :
    (qs.foldl State.flushQueue s).pool = s.poolReleasing (qs.flatMap fun q => (s.queue q).entries.map QueueEntry.handle) := by
  induction qs generalizing s with
  | nil => rfl
  | cons q qs ih =>
    rw [List.nodup_cons] at nd
    rw [List.foldl_cons, ih _ nd.2]
    unfold State.poolReleasing
    rw [List.flatMap_cons, List.foldl_append, List.foldl_map]
    have e : ∀ k ∈ qs, ((s.flushQueue q).queue k) = s.queue k := by
      intro k hk; rw [flushQueue_queue, if_neg]; rintro rfl; exact nd.1 hk
    have e2 : (qs.flatMap fun k => ((s.flushQueue q).queue k).entries.map QueueEntry.handle) = qs.flatMap fun k => (s.queue k).entries.map QueueEntry.handle := by
      apply List.flatMap_congr; intro k hk; rw [e k hk]
    rw [e2]
    rfl

theorem flushQueues_queue (s : State) (qs : List QueueId) (nd : qs.Nodup) (k : QueueId) :
    (s.flushQueues qs).queue k = if k ∈ qs then (s.queue k).flushed else s.queue k := by
  rw [← foldl_flushQueue_queue s qs nd]
  unfold State.flushQueues; dsimp only; split <;> simp
theorem flushQueues_pool (s : State) (qs : List QueueId) (nd : qs.Nodup) :
    (s.flushQueues qs).pool = s.poolReleasing (qs.flatMap fun q => (s.queue q).entries.map QueueEntry.handle) := by
  rw [← foldl_flushQueue_pool s qs nd]
  unfold State.flushQueues; dsimp only; split <;> simp

theorem flushQueues_notUp (s : State) (qs : List QueueId) (k : Link) (h : (s.link k).state ≠ .up) : (s.flushQueues qs).link k = s.link k := by
  unfold State.flushQueues; dsimp only; split
  · rw [reportPause_notUp _ _ (by simpa using h)]; simp
  · simp
theorem flushQueues_same (s : State) (qs : List QueueId) (k : Link) : ((s.flushQueues qs).link k).sameButPending (s.link k) := by
  unfold State.flushQueues; dsimp only; split
  · exact sameButPending_trans (reportPause_same _ k) (sameButPending_of_eq (by simp))
  · exact sameButPending_of_eq (by simp)

theorem pauseReported_congr {s s' t : State} (b : Bool) (h : s.pauseReported b t) (h1 : s.flow = s'.flow) (h2 : s.params = s'.params) (h3 : s.links = s'.links) : s'.pauseReported b t := by
  unfold State.pauseReported at *
  rw [← h1, ← h2, ← h3]
  have : s'.owed t ↔ s.owed t := by unfold State.owed; simp only [link_congr h3, h2]
  rw [this]; exact h

theorem flushQueues_reported (s : State) (qs : List QueueId) :
    s.pauseReported (qs.any fun q => decide ((s.queue q).pause = .paused)) (s.flushQueues qs) := by
  unfold State.flushQueues; dsimp only
  cases h : (qs.any fun q => decide ((s.queue q).pause = .paused))
  · simp [State.pauseReported]
  · simp only [if_true]
    exact pauseReported_congr true (reportPause_reported _) (by simp) (by simp) (by simp)

theorem anyPaused_eq (s : State) (l : Link) : s.anyPaused l = (linkQueues l).any fun q => decide ((s.queue q).pause = .paused) := by
  unfold State.anyPaused
  rw [Bool.eq_iff_iff]
  simp [linkQueues, Fin.exists_fin_succ]

/-- A pause report said at one link follows from what it does to every link. -/
theorem flushReported_of_reported {s t : State} {b : Bool} (h : s.pauseReported b t) (k : Link) : s.flushReported b t k := by
  unfold State.pauseReported at h
  unfold State.flushReported
  cases b
  · simp only [Bool.false_eq_true, false_and, if_false] at h
    simp [h.1, link_congr h.2]
  · cases hc : s.flow.coalescing with
    | running n => simp only [hc, reduceCtorEq, and_false, if_false] at h; simp [h.1, link_congr h.2]
    | idle =>
      simp only [hc, true_and, if_true] at h
      by_cases hz : s.params.flowstHoldOff = 0
      · rw [if_pos hz] at h
        refine ⟨by simp [hz, h.1], ?_⟩
        rw [h.2 k]; simp [hz]
      · rw [if_neg hz] at h
        refine ⟨by simp [hz, h.1], ?_⟩
        rw [link_congr h.2]; simp [hz]
theorem flushReported_congr {s s' t t' : State} {b : Bool} {k : Link} (h : s.flushReported b t k) (h1 : s.flow = s'.flow) (h2 : s.params = s'.params)
    (h3 : s.link k = s'.link k) (h4 : t.flow = t'.flow) (h5 : (t.link k).pendFlowst = (t'.link k).pendFlowst) : s'.flushReported b t' k := by
  unfold State.flushReported at *
  rw [← h1, ← h2, ← h3, ← h4, ← h5]; exact h

/-- What the report of a flush event over queues does (R75, R112). -/
theorem flushQueues_flushReported (s : State) (qs : List QueueId) (k : Link) :
    s.flushReported (qs.any fun q => decide ((s.queue q).pause = .paused)) (s.flushQueues qs) k :=
  flushReported_of_reported (flushQueues_reported s qs) k

theorem queueFlushed_of (s t : State) (q : QueueId) (h : t.queue q = (s.queue q).flushed) : s.queueFlushed t q := by
  unfold State.queueFlushed; rw [h]; rfl

theorem linkQueues_nodup (l : Link) : (linkQueues l).Nodup := by
  have : ∀ a b : Sys2Proof.Class, queueId l a = queueId l b → a = b := by
    intro a b h; have := congrArg queueClass h; simpa using this
  unfold linkQueues
  simp only [List.nodup_cons, List.mem_cons, List.not_mem_nil, or_false, not_or, List.nodup_nil, not_false_iff, and_true]
  refine ⟨⟨?_, ?_, ?_⟩, ⟨?_, ?_⟩, ?_⟩ <;> (intro h; exact absurd (this _ _ h) (by decide))
theorem mem_linkQueues (l : Link) (q : QueueId) : q ∈ linkQueues l ↔ queueLink q = l := by
  constructor
  · intro h; simp [linkQueues] at h; rcases h with h | h | h | h <;> rw [h] <;> simp
  · rintro rfl
    have := queueId_link_class q
    rw [← this]
    have hc : queueClass q = 0 ∨ queueClass q = 1 ∨ queueClass q = 2 ∨ queueClass q = 3 := by
      generalize queueClass q = c; revert c; decide
    rcases hc with h | h | h | h <;> rw [h] <;> simp [linkQueues]

/-! ### Link changes -/

theorem linkChange_notUp (s : State) (l : Link) (old : LinkState) (k : Link) (h : (s.link k).state ≠ .up) : (s.linkChange l old).link k = s.link k := by
  unfold State.linkChange; dsimp only
  rw [raise_notUp]
  · (repeat' split) <;> simp <;> rfl
  · (repeat' split) <;> simp <;> exact h
theorem linkChange_same (s : State) (l : Link) (old : LinkState) (k : Link) : ((s.linkChange l old).link k).sameButPending (s.link k) := by
  unfold State.linkChange; dsimp only
  refine sameButPending_trans (raise_same _ _ k) (sameButPending_of_eq ?_)
  (repeat' split) <;> simp <;> rfl
theorem linkChange_pendFlowst (s : State) (l : Link) (old : LinkState) (k : Link) : ((s.linkChange l old).link k).pendFlowst = (s.link k).pendFlowst := by simp

/-- What a link change does to tables, globals and records (R14, R37, R38). -/
theorem linkChange_banks (s : State) (l : Link) (old : LinkState) : s.banksKept (s.linkChange l old) := by
  unfold State.linkChange State.banksKept; dsimp only
  rw [raise_tables]; (repeat' split) <;> simp [State.failOver]
theorem linkChange_records (s : State) (l : Link) (old : LinkState) : s.recordsKept (s.linkChange l old) := by
  unfold State.linkChange State.recordsKept; dsimp only
  rw [raise_attn_miss, raise_attn_lastCorrupt]; (repeat' split) <;> simp [State.failOver]
theorem linkChange_globals (s : State) (l : Link) (old : LinkState) :
    (s.linkChange l old).globals = { s.globals with failOvers := (s.linkChange l old).globals.failOvers } := by
  unfold State.linkChange; dsimp only
  rw [raise_globals]; (repeat' split) <;> simp [State.failOver, State.countGlobal]
theorem linkChange_flag (s : State) (l : Link) (old : LinkState) : FlagSet.has (s.linkChange l old).attn.flags .linkChange = true := by
  unfold State.linkChange; exact raise_flag_set _ _
theorem linkChange_links (s : State) (l : Link) (old : LinkState) : LinkSet.has (s.linkChange l old).attn.links l = true := by
  unfold State.linkChange; dsimp only
  rw [raise_attn_links]
  have : ∀ t : State, t.attn.links = s.attn.links ||| LinkSet.single l → LinkSet.has t.attn.links l = true := by
    intro t h; rw [h]; unfold LinkSet.has LinkSet.single; simp [BitVec.getLsbD_or, BitVec.getLsbD_twoPow, l.isLt]
  apply this
  (repeat' split) <;> simp
theorem linkChange_between (s : State) (l : Link) (old : LinkState) (h1 : old ≠ .up) (h2 : (s.link l).state ≠ .up) :
    (s.linkChange l old).tables = s.tables ∧ (s.linkChange l old).globals = s.globals := by
  unfold State.linkChange; dsimp only
  rw [raise_tables, raise_globals, if_neg (fun x => h1 x.1), if_neg (fun x => h2 x.2)]
  exact ⟨rfl, rfl⟩

/-! ### Aborts -/
theorem abortInFlight_pool (s : State) (l : Link) : (s.abortInFlight l).pool = s.poolReleasing (s.link l).inFlight.toList := by
  unfold State.abortInFlight State.poolReleasing; split <;> (rename_i h; rw [h]; simp)
theorem abortInFlight_link (s : State) (l k : Link) : (s.abortInFlight l).link k = if k = l then
    { s.link l with inFlight := none, counters := { (s.link l).counters with
       aborted := if (s.link l).inFlight.isSome = true then bump (s.link l).counters.aborted 1 else (s.link l).counters.aborted } } else s.link k := by
  unfold State.abortInFlight
  by_cases hk : k = l
  · subst hk
    rw [if_pos rfl]
    cases h : (s.link k).inFlight <;> simp
    · apply port_ext <;> simp [h]
  · rw [if_neg hk]
    split
    · rfl
    · rw [link_modLink_ne _ _ _ _ (fun e => hk e.symm)]; simp

theorem quiet_link (s : State) (l k : Link) (next : Sending) : (s.quiet l next).link k = if k = l then
    { s.link l with keepalive := .idle, disablePending := false, rxBuf := [], respQueue := [], pendFlowst := false, pendAttn := false, sending := next,
                    counters := { (s.link l).counters with overruns := bump (s.link l).counters.overruns (s.link l).rxBuf.length } } else s.link k := by
  unfold State.quiet
  by_cases h : k = l
  · subst h; simp
  · have h' : l ≠ k := fun e => h e.symm
    simp [h, link_modLink_ne _ _ _ _ h']

theorem lostResponses_eq (s : State) (l : Link) : s.lostResponses l = s.responsesOn l := by
  unfold State.lostResponses State.responsesOn
  congr 1
  · congr 1
    cases (s.link l).sending with
    | nothing => rfl
    | cell k b => cases k <;> rfl
  · cases s.agent.held with
    | none => rfl
    | some r => simp

theorem quiet_globals (s : State) (l : Link) (next : Sending) : (s.quiet l next).globals = { s.globals with discarded := bump s.globals.discarded (s.lostResponses l) } := rfl
theorem quiet_held (s : State) (l : Link) (next : Sending) : (s.quiet l next).agent.held = (match s.agent.held with | some r => if r.link = l then none else some r | none => none) := by
  show s.agent.held.filter _ = _
  cases s.agent.held with
  | none => rfl
  | some r => by_cases h : r.link = l <;> simp [h, Option.filter]
theorem quiet_agent (s : State) (l : Link) (next : Sending) : (s.quiet l next).agent.queue = s.agent.queue ∧ (s.quiet l next).agent.permitted = s.agent.permitted := ⟨rfl, rfl⟩

/-- R12. -/
theorem enterFaulted_spec (s : State) (l : Link) (cause : FaultCause) : s.entersFaulted l cause (s.enterFaulted l cause) := by
  let a := s.abortInFlight l
  let b := a.modLink l fun p => { p with state := .faulted, farGap := 0, retrainCount := min Config.retrainMax (p.retrainCount + 1), cause := cause, window := .idle, holdOff := .running s.params.holdOff }
  let c := b.quiet l s.idleSending
  let d := c.flushQueues (linkQueues l)
  have ht : s.enterFaulted l cause = d.linkChange l (s.link l).state := rfl
  have al := abortInFlight_link s l
  have bl : ∀ k, b.link k = if k = l then { a.link l with state := .faulted, farGap := 0, retrainCount := min Config.retrainMax ((a.link l).retrainCount + 1), cause := cause, window := .idle, holdOff := .running s.params.holdOff } else a.link k := by
    intro k; by_cases h : k = l
    · subst h; rw [if_pos rfl]; exact link_modLink_same _ _ _
    · rw [if_neg h]; exact link_modLink_ne _ _ _ _ (fun e => h e.symm)
  have cl := fun k => quiet_link b l k s.idleSending
  have cs : (c.link l).state = .faulted := by rw [cl, if_pos rfl, bl, if_pos rfl]
  have dl : d.link l = c.link l := flushQueues_notUp _ _ _ (by rw [cs]; simp)
  have tl : (s.enterFaulted l cause).link l = c.link l := by
    rw [ht, linkChange_notUp _ _ _ _ (by rw [dl, cs]; simp), dl]
  have oth : ∀ k, k ≠ l → ((s.enterFaulted l cause).link k).sameButPending (s.link k) := by
    intro k hk; rw [ht]
    refine sameButPending_trans (linkChange_same ..) (sameButPending_trans (flushQueues_same ..) (sameButPending_of_eq ?_))
    rw [cl, if_neg hk, bl, if_neg hk]; exact (al k).trans (if_neg hk)
  have tq : ∀ q, (s.enterFaulted l cause).queue q = if q ∈ linkQueues l then (s.queue q).flushed else s.queue q := by
    intro q; rw [ht, linkChange_queue, flushQueues_queue _ _ (linkQueues_nodup l)]
    have : c.queue q = s.queue q := (show c.queue q = a.queue q from rfl).trans (abortInFlight_queue s l q)
    rw [this]
  have cq : ∀ q, c.queue q = s.queue q := fun q => (show c.queue q = a.queue q from rfl).trans (abortInFlight_queue s l q)
  have cp : c.params = s.params := (show c.params = a.params from rfl).trans (abortInFlight_params s l)
  have ag : a.globals = s.globals := abortInFlight_globals s l
  have aa : a.agent = s.agent := abortInFlight_agent s l
  refine ⟨?_, ?_, ?_, ?_, ?_, ?_, oth, ?_, ?_, ?_, ?_⟩
  · rw [tl, cl, if_pos rfl, bl, if_pos rfl, show a.link l = _ from al l, if_pos rfl]
    unfold bump Config.retrainMax Config.counterMax
    simp only [State.idleSending]
  · intro k; exact queueFlushed_of _ _ _ (by rw [tq, if_pos (by rw [mem_linkQueues]; simp)])
  · rw [ht, linkChange_pool, flushQueues_pool _ _ (linkQueues_nodup l)]
    unfold State.poolReleasing State.heldHandles
    rw [List.foldl_append, cp]
    have : c.pool = s.poolReleasing (s.link l).inFlight.toList := (show c.pool = a.pool from rfl).trans (abortInFlight_pool s l)
    rw [this]; simp only [cq]; rfl
  · rw [ht, linkChange_globals]
    have : d.globals = { s.globals with discarded := bump s.globals.discarded (s.responsesOn l) } := by
      show (c.flushQueues (linkQueues l)).globals = _
      rw [flushQueues_globals, quiet_globals, lostResponses_eq]
      rw [show b.globals = a.globals from rfl, ag]
      have : b.responsesOn l = s.responsesOn l := by
        unfold State.responsesOn
        rw [bl, if_pos rfl, show a.link l = _ from al l, if_pos rfl, show b.agent = a.agent from rfl, aa]
      rw [this]
    rw [this]; rfl
  · rw [ht, linkChange_agent, flushQueues_agent, quiet_held]
    rw [show b.agent = a.agent from rfl, aa]
    all_goals (cases s.agent.held <;> rfl)
  · intro k hk
    have h := flushQueues_flushReported c (linkQueues l) k
    simp only [cq, ← anyPaused_eq] at h
    have ck : c.link k = s.link k := by rw [cl, if_neg hk, bl, if_neg hk]; exact (al k).trans (if_neg hk)
    refine flushReported_congr h ?_ cp ck ?_ ?_
    · exact (show c.flow = a.flow from rfl).trans (abortInFlight_flow s l)
    · rw [ht]; exact (linkChange_flow d l _).symm
    · rw [ht]; exact (linkChange_pendFlowst d l _ k).symm
  · intro q hq
    rw [tq, if_neg (by rw [mem_linkQueues]; exact hq)]
  · have h := linkChange_banks d l (s.link l).state
    have dt : d.tables = s.tables := (flushQueues_tables _ _).trans ((show c.tables = a.tables from rfl).trans (abortInFlight_tables s l))
    rw [← ht] at h; unfold State.banksKept at *; rw [dt] at h; exact h
  · have h := linkChange_records d l (s.link l).state
    have dt : d.attn = s.attn := (flushQueues_attn _ _).trans ((show c.attn = a.attn from rfl).trans (abortInFlight_attn s l))
    rw [← ht] at h; unfold State.recordsKept at *; rw [dt] at h; exact h
  · unfold State.restKept
    have h : (s.enterFaulted l cause).agent = c.agent := by rw [ht, linkChange_agent, flushQueues_agent]
    rw [h, (quiet_agent b l _).1, (quiet_agent b l _).2, show b.agent = a.agent from rfl, aa]
    simp

/-- R18. -/
theorem enterDisabled_spec (s : State) (l : Link) : s.entersDisabled l (s.enterDisabled l) := by
  let b := s.modLink l fun p => { p with state := .disabled, window := .idle, holdOff := .idle }
  let c := b.quiet l .nothing
  have ht : s.enterDisabled l = c.linkChange l (s.link l).state := rfl
  have bl : ∀ k, b.link k = if k = l then { s.link l with state := .disabled, window := .idle, holdOff := .idle } else s.link k := by
    intro k; by_cases h : k = l
    · subst h; rw [if_pos rfl]; exact link_modLink_same _ _ _
    · rw [if_neg h]; exact link_modLink_ne _ _ _ _ (fun e => h e.symm)
  have cl := fun k => quiet_link b l k .nothing
  have cs : (c.link l).state = .disabled := by rw [cl, if_pos rfl, bl, if_pos rfl]
  have tl : (s.enterDisabled l).link l = c.link l := by
    rw [ht, linkChange_notUp _ _ _ _ (by rw [cs]; simp)]
  refine ⟨?_, by simp, by simp, by simp, ?_, ?_, ?_, ?_, ?_, ?_⟩
  · rw [tl, cl, if_pos rfl, bl, if_pos rfl]; rfl
  · rw [ht, linkChange_globals]
    have : c.globals = { s.globals with discarded := bump s.globals.discarded (s.responsesOn l) } := by
      rw [quiet_globals, lostResponses_eq]
      have : b.responsesOn l = s.responsesOn l := by
        unfold State.responsesOn
        rw [bl, if_pos rfl]; rfl
      rw [this]; rfl
    rw [this]; rfl
  · rw [ht, linkChange_agent, quiet_held, show b.agent = s.agent from rfl]; all_goals (cases s.agent.held <;> rfl)
  · intro k hk; rw [ht]
    refine sameButPending_trans (linkChange_same ..) (sameButPending_of_eq ?_)
    rw [cl, if_neg hk, bl, if_neg hk]
  · exact linkChange_banks c l (s.link l).state
  · exact linkChange_records c l (s.link l).state
  · unfold State.restKept
    have h : (s.enterDisabled l).agent = c.agent := by rw [ht, linkChange_agent]
    rw [h, (quiet_agent b l _).1, (quiet_agent b l _).2]
    simp; exact ⟨rfl, rfl⟩

theorem modLink_modLink (s : State) (l : Link) (f g : LinkPort → LinkPort) : (s.modLink l f).modLink l g = s.modLink l fun p => g (f p) := by
  unfold State.modLink State.setLink
  simp only [State.link, slot_setSlot_same]
  congr 1
  unfold setSlot; apply Vector.ext; intro i hi; simp
theorem modLink_id (s : State) (l : Link) (f : LinkPort → LinkPort) (h : f (s.link l) = s.link l) : s.modLink l f = s := by
  unfold State.modLink State.setLink
  rw [h]
  have : setSlot s.links l (s.link l) = s.links := by
    apply vector_ext_slot; intro i; rw [slot_setSlot]; split
    · rename_i e; subst e; rfl
    · rfl
  rw [this]
theorem modLink_congr (s : State) (l : Link) (f g : LinkPort → LinkPort) (h : f (s.link l) = g (s.link l)) : s.modLink l f = s.modLink l g := by
  unfold State.modLink; rw [h]
theorem link_modLink' (s : State) (l k : Link) (f : LinkPort → LinkPort) : (s.modLink l f).link k = if k = l then f (s.link l) else s.link k := by
  by_cases h : k = l
  · subst h; simp
  · rw [if_neg h]; exact link_modLink_ne _ _ _ _ (fun e => h e.symm)
theorem countLink_eq (s : State) (l : Link) (f : LinkCounters → LinkCounters) : s.countLink l f = s.modLink l fun p => { p with counters := f p.counters } := rfl

/-- R6. -/
theorem enterTraining_spec (s : State) (l : Link) (old : LinkState) :
    (((s.enterTraining l old)).link l = { s.link l with
          state := .training, trainCount := 0, window := .running 10000, holdOff := .idle, sending := .cell .idle (idleCell s.straps.plane),
          counters := { (s.link l).counters with retrains := if old = .up ∨ old = .faulted then bump (s.link l).counters.retrains 1 else (s.link l).counters.retrains } }) ∧
    (∀ k, k ≠ l → ((s.enterTraining l old).link k).sameButPending (s.link k)) ∧ s.banksKept (s.enterTraining l old) ∧ s.recordsKept (s.enterTraining l old) ∧
    (old ≠ .up → (s.enterTraining l old).tables = s.tables ∧ (s.enterTraining l old).globals = s.globals) ∧
    (s.enterTraining l old).globals = { s.globals with failOvers := (s.enterTraining l old).globals.failOvers } := by
  let c := s.modLink l fun p =>
    { p with state := .training, trainCount := 0, window := .running Config.trainingWindow, holdOff := .idle, sending := s.idleSending,
             counters := { p.counters with retrains := if old = .up ∨ old = .faulted then bump p.counters.retrains 1 else p.counters.retrains } }
  have ht : s.enterTraining l old = c.linkChange l old := rfl
  have cl := fun k => link_modLink' s l k fun p =>
    { p with state := .training, trainCount := 0, window := .running Config.trainingWindow, holdOff := .idle, sending := s.idleSending,
             counters := { p.counters with retrains := if old = .up ∨ old = .faulted then bump p.counters.retrains 1 else p.counters.retrains } }
  have cs : (c.link l).state = .training := by rw [cl, if_pos rfl]
  refine ⟨?_, ?_, ?_, ?_, ?_, ?_⟩
  · rw [ht, linkChange_notUp _ _ _ _ (by rw [cs]; simp), cl, if_pos rfl]; rfl
  · intro k hk; rw [ht]; refine sameButPending_trans (linkChange_same ..) (sameButPending_of_eq ?_); rw [cl, if_neg hk]
  · exact linkChange_banks c l old
  · exact linkChange_records c l old
  · intro ho; exact linkChange_between c l old ho (by rw [cs]; simp)
  · exact linkChange_globals c l old

/-- R9. -/
theorem enterUp_spec (s : State) (l : Link) :
    ((s.enterUp l).link l).sameButPending { s.link l with state := .up, disablePending := false, window := .idle, keepalive := .running s.params.keepalive, budget := 0, retrainCount := 0, cause := .none, gapCount := 15 } ∧
    (∀ k, k ≠ l → ((s.enterUp l).link k).sameButPending (s.link k)) ∧ s.banksKept (s.enterUp l) ∧ s.recordsKept (s.enterUp l) ∧
    (s.enterUp l).globals = { s.globals with failOvers := (s.enterUp l).globals.failOvers } := by
  let f : LinkPort → LinkPort := fun p =>
    { p with state := .up, disablePending := false, window := .idle, keepalive := .running s.params.keepalive, budget := 0, retrainCount := 0,
             cause := .none, gapCount := Config.gapMax }
  have ht : s.enterUp l = (s.modLink l f).linkChange l (s.link l).state := rfl
  have cl := fun k => link_modLink' s l k f
  refine ⟨?_, ?_, ?_, ?_, ?_⟩
  · rw [ht]; refine sameButPending_trans (linkChange_same ..) (sameButPending_of_eq ?_); rw [cl, if_pos rfl]; rfl
  · intro k hk; rw [ht]; refine sameButPending_trans (linkChange_same ..) (sameButPending_of_eq ?_); rw [cl, if_neg hk]
  · exact linkChange_banks (s.modLink l f) l (s.link l).state
  · exact linkChange_records (s.modLink l f) l (s.link l).state
  · exact linkChange_globals (s.modLink l f) l (s.link l).state

/-- R114: what the refresh countdown does at an epoch change. -/
theorem tickRefresh_facts (s : State) :
    (if s.flow.refresh ≤ 1 then s.tickRefresh.flow.refresh = s.params.refresh else s.tickRefresh.flow.refresh = s.flow.refresh - 1) ∧
    s.tickRefresh.flow.coalescing = s.flow.coalescing ∧
    (∀ l, s.tickRefresh.link l = { s.link l with pendFlowst :=
      ((s.link l).pendFlowst || (decide (s.flow.refresh ≤ 1) && LinkSet.has s.params.recipients l && decide ((s.link l).state = .up))) }) ∧
    s.tickRefresh.attn = s.attn := by
  unfold State.tickRefresh
  by_cases h : s.flow.refresh ≤ 1
  · simp only [h, if_true, decide_true, Bool.true_and]
    exact ⟨by simp, by simp, fun l => oweFlowst_owed _ l, by simp⟩
  · simp only [h, if_false, decide_false, Bool.false_and, Bool.or_false]
    exact ⟨trivial, trivial, fun l => rfl, trivial⟩

end Sys2Proof.Laws
end

