-- ==== Sys2Proof/WellFormed.lean ====
section
/-! DEFINITION. What makes a command one the block can be given. The operand types bound links, banks, straps and cells by themselves; the one
check left is that a disturbance names an entry that exists. -/

namespace Sys2Proof

/-- A command is well formed. A disturbance alters a stored entry, so its index lies in its table (R28; 02, table sizes). -/
def Instr.wellFormed : Instr → Bool
  | .tableDisturbance _ index content _ => decide (index < content.table.size)
  | _ => true

end Sys2Proof
end

