-- ==== Sys2Proof/Tests/Slice0.lean ====
section
/-! SUPPORT. Small tests: the well-formedness check, the checks' published values, one event or two for each command (most of them steps of the
manual's worked examples), and for each statement a state and operands that meet its hypotheses (the theorems `witness_…`). -/

namespace Sys2Proof.Machine

/-! ### Small states -/

/-- What an outcome shows of its next state. -/
def got {α : Type} (o : Host.Outcome State Fault Refusal) (look : State → α) : Option α :=
  match o with
  | .next t => some (look t)
  | .fault _ => none
  | .refused _ => none

/-- A port in UP that sends IDLE cells. -/
def upPort : LinkPort := { LinkPort.powerOn 0 with state := .up, trainCount := 64, window := .idle, keepalive := .running 32 }

/-- The block with every link UP. -/
def up : State := { State.reset with links := Vector.replicate 32 upPort }

/-- A link put into a state, its other items as a change of `up`'s port. -/
def State.linkIn (s : State) (l : Link) (st : LinkState) : State := s.modLink l fun p => { p with state := st, keepalive := .idle }

/-- A data cell: kind, class, mark, group or destination; both checks are not set. -/
def dataCell (kind : CellKind) (c : Sys2Proof.Class) (mark : Bool) (dest : Nat) : Cell :=
  packBytes 76 [kind.code ++ BitVec.ofNat 2 c.val ++ 3#2, if mark = true then 0x80 else 0, num8 (dest / 256), num8 dest]

/-- A queue's entries. -/
def State.queued (s : State) (l : Link) (c : Sys2Proof.Class) (handles : List Handle) : State :=
  let out := s.queue (queueId l c)
  s.setQueue (queueId l c) { out with entries := handles.map fun h => ⟨h, c, false⟩ }

/-- A buffer in use: its count and its cell. -/
def State.stored (s : State) (h : Handle) (count : Nat) (cell : Cell) : State :=
  { s with pool := { s.pool with refs := Memory.write 0 s.pool.refs h count, buffers := Memory.write none s.pool.buffers h (some cell) } }

/-- A request at the head of the queue, from link 2, given by its first bytes. -/
def State.asked (s : State) (bytes : List Byte) : State := { s with agent := { s.agent with queue := [⟨2, packBytes 64 bytes⟩] } }

/-- A running operation. -/
def State.running (s : State) (progress : Nat) (w : Work) : State := { s with op := some ⟨.running, progress, w⟩ }

/-- The first bytes of the response that a command places on link 2. -/
def answered (i : Instr) (s : State) (n : Nat) : Option (List Byte) :=
  got (exec i s) fun t => ((t.link 2).respQueue.getD 0 (packBytes 64 [])).toList.take n

end Sys2Proof.Machine

namespace Sys2Proof.Tests

set_option Elab.async false

open Sys2Proof.Machine

/-! ### Well-formed commands -/

theorem test_wellFormed_disturbance : Instr.wellFormed (.tableDisturbance 0 31 (.destination initialDest) 0) = true := by decide
theorem test_illFormed_disturbance : Instr.wellFormed (.tableDisturbance 0 32 (.destination initialDest) 0) = false := by decide
theorem test_illFormed_group_disturbance : Instr.wellFormed (.tableDisturbance 1 4096 (.group initialGroup) 0) = false := by decide
theorem test_noWordSpellsACommand : decodeTableWord 8 0x41 = none := rfl

/-! ### The checks over "123456789" (R184, R186) -/

/-- The nine bytes the manual gives its check values over. -/
def nine : List Byte := [0x31, 0x32, 0x33, 0x34, 0x35, 0x36, 0x37, 0x38, 0x39]

theorem test_headerCheck : crc8 nine = 0xF4 := by decide +kernel
theorem test_payloadCheck : crc16 nine = 0xFEE8 := by decide +kernel
theorem test_digest : digestValue (digestFeed digestStart nine) = 0xCBF43926 := by decide +kernel

/-! ### Formats -/

/-- R185's example: at epoch 300 with Q(7,1) and Q(7,2) paused. -/
theorem test_flowstPayload :
    (cellPayload (flowstCell 0 300 fun q => q == 29 || q == 30)).toList.take 7 = [0x01, 0x2C, 0, 0, 0, 0x60, 0] := by decide +kernel
theorem test_groupSerialization :
    (EntryFields.group ⟨1, true, some 2, 0x00100252⟩).serialize = [1, 1, 0x82, 0, 0x52, 0x02, 0x10, 0x00] := by decide
theorem test_destinationSerialization : (EntryFields.destination ⟨1, 4, some 17⟩).serialize = [1, 4, 0x91, 0, 0, 0, 0, 0] := by decide
/-- A cell the device forwards loses its gap request and keeps its mark; byte 9 is the check of the bytes sent. -/
theorem test_egressCell :
    (let cell := egressCell ((dataCell .ucast 1 false 12).set 1 0x0F) true
     (cell[1], headerCheckGood cell)) = (0x80, true) := by decide +kernel
/-- The worked cases 2, 3, 7 and 8 of the average (06, "Worked cases for the average"). -/
theorem test_averages : [nextAverage 850 60 2, nextAverage 878 0 2, nextAverage 4 0 3, nextAverage 5 0 3] = [878, 658, 4, 4] := by decide +kernel

/-! ### RST_N -/

theorem test_rstNRise :
    got (exec (.rstNRise 3 30 31) { State.reset with rstN := false }) (fun t => (t.rstN, t.straps, t.agent.permitted, (t.link 9).state)) =
      some (true, ⟨3, 30, 31⟩, 0xC0000000, .training) := by decide +kernel
theorem test_rstNFall :
    got (exec .rstNFall (up.queued 3 1 [7])) (fun t => (t.rstN, (t.link 3).sending, (t.queue (queueId 3 1)).entries, t.epoch.timer)) =
      some (false, .nothing, [], .idle) := by decide +kernel

/-! ### Links -/

/-- The 32nd bad cell of the error budget example (01). -/
theorem test_cellArrival_budget :
    got (exec (.cellArrival 4 (packBytes 76 [0xFF])) (up.modLink 4 fun p => { p with budget := 992 }))
      (fun t => ((t.link 4).state, (t.link 4).cause, (t.link 4).budget, (t.link 4).counters.headerErrors)) = some (.faulted, .errors, 1024, 1) := by
  decide +kernel
/-- The IDLE that completes training (R7, R9). -/
theorem test_cellArrival_training :
    got (exec (.cellArrival 4 (idleCell 5)) (State.reset.modLink 4 fun p => { p with trainCount := 63 }))
      (fun t => ((t.link 4).state, (t.link 4).gapCount, (t.link 4).keepalive, LinkSet.has t.attn.links 4)) =
      some (.up, 15, .running 32, true) := by decide +kernel
/-- The retrain limit example (01): the second failed attempt. -/
theorem test_trainingWindowExpiry :
    got (exec (.trainingWindowExpiry 4) (State.reset.modLink 4 fun p => { p with retrainCount := 1 }))
      (fun t => ((t.link 4).state, (t.link 4).retrainCount, (t.link 4).holdOff, (t.link 4).cause)) =
      some (.faulted, 2, .running 1000, .training) := by decide +kernel
/-- Destination 9 with primary 4 and spare 17 (02, "a destination that fails over and back"). -/
def nine417 : State := up.writeEntry 0 9 (.destination ⟨1, 4, some 17⟩)
theorem test_keepaliveExpiry :
    got (exec (.keepaliveExpiry 4) nine417) (fun t => ((t.link 4).state, slot t.tables.selectors 9, t.globals.failOvers, (t.link 4).cause)) =
      some (.faulted, .spare, 1, .keepalive) := by decide +kernel
/-- The retrain limit example (01): 3 < 3 fails. -/
theorem test_holdOffExpiry :
    got (exec (.holdOffExpiry 4) { State.linkIn (up.modLink 4 fun p => { p with retrainCount := 3, holdOff := .running 1000 }) 4 .faulted with
        params := { Params.default with retrainLimit := 3 } })
      (fun t => ((t.link 4).state, (t.link 4).holdOff)) = some (.faulted, .idle) := by decide +kernel

/-! ### Admission (03, "one multicast cell, partly admitted" and "a unicast cell and its ordered tests") -/

/-- Group 300 with members 1, 4, 6, 9, 20, suppression and override 2; link 6 FAULTED, link 9 DISABLED, Q(20,2) at its limit, which is 3 here. -/
def group300 : State :=
  let s := (State.linkIn (up.linkIn 6 .faulted) 9 .disabled).modLink 4 fun p => { p with rxBuf := [dataCell .mcast 1 false 300] }
  let t := (s.writeEntry 0 300 (.group ⟨1, true, some 2, 0x00100252⟩)).queued 20 2 [1, 2, 3]
  { t with pool := { t.pool with free := [731, 732, 733] }, params := { Params.default with floor := #v[0, 0, 0, 0], limit := #v[3, 3, 3, 3], poolLow := 0 } }
theorem test_admission_multicast :
    got (exec .admission group300) (fun t => (t.pool.free, t.pool.refCount 731, (t.queue (queueId 1 2)).entries, (t.queue (queueId 9 2)).entries)) =
      some ([732, 733], 2, [⟨731, 2, false⟩], [⟨731, 2, false⟩]) := by decide +kernel
theorem test_admission_counts :
    got (exec .admission group300) (fun t => ((t.queue (queueId 20 2)).counters.tailDrops, (t.link 4).counters.unreachable, t.rrPtr)) =
      some (1, 1, 4) := by decide +kernel
theorem test_admission_floor :
    got (exec .admission { ((up.modLink 3 fun p => { p with rxBuf := [dataCell .ucast 2 false 12] }).writeEntry 0 12 (.destination ⟨1, 8, some 21⟩)) with
        pool := { Pool.powerOn with free := List.range 300 } })
      (fun t => ((t.link 3).counters.floorDrops, (t.queue (queueId 8 2)).entries, (t.link 3).rxBuf)) = some (1, [], []) := by decide +kernel

/-! ### Egress -/

/-- The last choice of the round-robin example (05): class 2 without credit, class 3 empty, class 1 reloaded to 2. -/
def link14 : State :=
  let s := (((up.queued 14 1 [5]).stored 5 1 (dataCell .ucast 1 false 14)).modLink 14 fun p => { p with wrrClass := .two, wrrCount := 0 })
  { s with params := { Params.default with weight1 := 2, weight2 := 1, weight3 := 1 } }
theorem test_nextCellEvent_data :
    got (exec (.nextCellEvent 14) link14) (fun t => ((t.link 14).inFlight, (t.link 14).wrrClass, (t.link 14).wrrCount, (t.link 14).gapCount,
      (t.queue (queueId 14 1)).entries)) = some (some 5, .one, 1, 0, []) := by decide +kernel
/-- Event 3 of the pacing example (05): the MRSP stands in for a pacing idle. -/
theorem test_nextCellEvent_mrsp :
    got (exec (.nextCellEvent 6) (up.modLink 6 fun p => { p with gapCount := 2, farGap := 3, respQueue := [packBytes 64 [1]] }))
      (fun t => ((t.link 6).gapCount, (t.link 6).respQueue, (t.link 6).sending.isMrsp)) = some (3, [], true) := by decide +kernel

/-! ### Congestion, time, attention -/

/-- Selections 4 and 6 of the marking example (05). -/
theorem test_marking : [markDecision 2 .part 3, markDecision 2 .full 0] = [(true, 0), (true, 0)] := by decide
theorem test_monitorStep :
    got (exec .monitorStep { up.queued 0 0 [1, 2] with params := { Params.default with xoff := #v[2, 2, 2, 2], xon := #v[1, 1, 1, 1], w := 2 } })
      (fun t => ((t.queue 0).pause, (t.queue 0).average, t.monitor.cursor, t.flow.coalescing)) = some (.paused, 8, 0, .running 2) := by decide +kernel
theorem test_coalescingTimerExpiry :
    got (exec .coalescingTimerExpiry { up with flow := ⟨.running 2, 10⟩, params := { Params.default with recipients := 0x00000004 } })
      (fun t => (t.flow.coalescing, (t.link 2).pendFlowst, (t.link 3).pendFlowst)) = some (.idle, true, false) := by decide +kernel
/-- The swap across the epoch wrap (07): the change to 4 performs the swap. -/
def swapAt4 : State := { up with epoch := ⟨3, .running 100, true, 4, none⟩ }
theorem test_epochTimerExpiry :
    got (exec .epochTimerExpiry swapAt4) (fun t => (t.epoch, t.tables.active, FlagSet.has t.attn.flags .swapCompleted)) =
      some (⟨4, .running 100, false, 4, some 4⟩, 1, true) := by decide +kernel
/-- The expiry at 100 of the attention example (10). -/
theorem test_attentionHoldOffExpiry :
    got (exec .attentionHoldOffExpiry { up with attn := ⟨0, 0, .running 100, true, none, none⟩, agent := ⟨[], none, 0x40000004⟩ })
      (fun t => (t.attn.timer, t.attn.raisedWhileRunning, (t.link 2).pendAttn, (t.link 30).pendAttn, (t.link 9).pendAttn)) =
      some (.running 100, false, true, true, false) := by decide +kernel

/-! ### Tables and the scrubber (02, "a corrupted group entry") -/

/-- Group 200 of bank 0 with a disturbed member set and a stale code, the scrubber on it. -/
def disturbed200 : State :=
  { up.putEntry 0 200 (.group ⟨1, true, none, 0x00000825⟩) (EntryFields.group ⟨1, true, none, 0x00000824⟩).checkCode with scrub := ⟨200, .running 1⟩ }
theorem test_scrubStep :
    got (exec .scrubStep disturbed200) (fun t => ((t.entry .group 0 200).fields.state, t.attn.lastCorrupt, t.globals.corruptFound, t.scrub.cursor)) =
      some (2, some ⟨.group, 0, 200⟩, 1, 201) := by decide +kernel
theorem test_tableDisturbance :
    got (exec (.tableDisturbance 1 31 (.destination ⟨9, 1, none⟩) 7) up) (fun t => (t.entry .destination 1 31, t.globals.corruptFound)) =
      some (⟨.destination ⟨9, 1, none⟩, 7⟩, 0) := by decide +kernel

/-! ### The Operation Unit -/

theorem test_fillStep :
    got (exec .fillStep (up.running 7 (.fill 1 (.destination ⟨2, 3, none⟩) 6 7 1)))
      (fun t => ((t.entry .destination 1 7).fields, t.op.map OpRecord.state, t.op.map OpRecord.progress, FlagSet.has t.attn.flags .operationEnded)) =
      some (.destination ⟨2, 3, none⟩, some .done, some 8, true) := by decide +kernel
/-- A CORRUPT source entry is copied as the initial entry (R163). -/
theorem test_copyStep :
    got (exec .copyStep (State.running (up.putEntry 0 200 (.group ⟨2, true, none, 5⟩) 0) 200 (.copy 0 1 200 0)))
      (fun t => ((t.entry .group 1 200).fields, t.op)) = some (.group initialGroup, some ⟨.running, 201, .copy 0 1 201 1⟩) := by decide +kernel
theorem test_digestStep :
    got (exec .digestStep (up.running 31 (.digest .destination 0 .active 31 0 none))) (fun t => t.op) =
      some (some ⟨.done, 32, .digest .destination 0 .active 32 0 (some 0xFFFFFFFF)⟩) := by decide +kernel
theorem test_memtestStep :
    got (exec (.memtestStep false) (State.running { up with pool := ⟨[], [], [], [9], [0, 1, 2], true⟩ } 1 (.memtest 1 0 none none)))
      (fun t => (t.pool.retired, t.pool.underTest, t.op)) = some ([1, 9], [0, 2], some ⟨.running, 2, .memtest 2 1 (some 1) none⟩) := by decide +kernel

/-! ### Requests that report -/

theorem test_readIdentity :
    answered .readIdentity (up.asked [0x01, 0, 0xAB, 0xCD]) 15 =
      some [0x01, 0, 0xAB, 0xCD, 0x07, 0x32, 0x19, 0x14, 0x01, 0x20, 0x40, 0x00, 0x10, 0x00, 0] := by decide +kernel
theorem test_readStatus :
    (answered .readStatus (State.asked (up.linkIn 0 .faulted) [0x02]) 12).map (List.drop 4) =
      some [0xAB, 0xAA, 0xAA, 0xAA, 0xAA, 0xAA, 0xAA, 0xAA] := by decide +kernel
theorem test_readQueueSnapshot :
    (answered .readQueueSnapshot (State.asked (up.queued 9 0 [1, 2, 3]) [0x03, 0, 0, 0, 9]) 11).map (List.drop 4) =
      some [9, 0, 3, 0, 0, 0, 0] := by decide +kernel
/-- Request A of the full response queue example (08): read and clear. -/
theorem test_readCounters :
    got (exec .readCounters (State.asked (up.countLink 2 fun k => { k with goodCells := 258 }) [0x04, 1, 0, 0, 0, 2]))
      (fun t => ((t.link 2).counters.goodCells, ((t.link 2).respQueue.getD 0 (packBytes 64 [])).toList.take 8)) =
      some (0, [0x04, 0, 0, 0, 0, 0, 1, 2]) := by decide +kernel
theorem test_readAttention :
    got (exec .readAttention (State.asked { up with attn := ⟨3, 0x200, .running 100, true, none, none⟩ } [0x05]))
      (fun t => (t.attn.flags, t.attn.links, t.attn.timer, ((t.link 2).respQueue.getD 0 (packBytes 64 [])).toList.take 9)) =
      some (0, 0, .running 100, [0x05, 0, 0, 0, 3, 0, 2, 0, 0]) := by decide +kernel
theorem test_readMissRecord :
    got (exec .readMissRecord (State.asked { up with attn := ⟨0, 0, .idle, false, some ⟨300, 4, 9, 2⟩, none⟩ } [0x06]))
      (fun t => (t.attn.miss, ((t.link 2).respQueue.getD 0 (packBytes 64 [])).toList.take 12)) =
      some (none, [0x06, 0, 0, 0, 1, 0x01, 0x2C, 4, 0, 9, 0, 2]) := by decide +kernel
theorem test_readEntries :
    (answered .readEntries (nine417.asked [0x10, 0, 0, 0, 1, 0, 0, 9, 1]) 16).map (List.drop 4) =
      some [0, 0, 0, 0, 1, 4, 0x91, 0, 0, 0, 0, 0] := by decide +kernel
theorem test_readParameter :
    (answered .readParameter (up.asked [0x41, 0, 0, 0, 0x03, 2]) 12).map (List.drop 4) = some [0x03, 2, 0, 0, 0, 0, 3, 0] := by decide +kernel
theorem test_undefinedRequest : answered .undefinedRequest (up.asked [0x77, 0, 0, 9]) 5 = some [0x77, 5, 0, 9, 0] := by decide +kernel

/-! ### Requests on the tables and long requests -/

/-- A destination entry carried at byte 16: ACTIVE, primary 4, spare 17. -/
def carrying417 (kind index : Byte) : List Byte := [kind, 0, 0, 0, 1, 0, 0, index, 1, 0, 0, 0, 0, 0, 0, 0, 1, 4, 0x91]

theorem test_writeEntries :
    got (exec .writeEntries (up.asked (carrying417 0x11 9))) (fun t => (t.entry .destination 1 9, (t.entry .destination 0 9).fields)) =
      some (⟨.destination ⟨1, 4, some 17⟩, (EntryFields.destination ⟨1, 4, some 17⟩).checkCode⟩, .destination initialDest) := by decide +kernel
theorem test_repairEntry_refused : answered .repairEntry (up.asked (carrying417 0x12 9)) 5 = some [0x12, 4, 0, 0, 0] := by decide +kernel
/-- The repair of a CORRUPT entry re-evaluates the selector: primary link 4 is not UP, the spare is (R39). -/
theorem test_repairEntry :
    got (exec .repairEntry (State.asked ((up.linkIn 4 .faulted).putEntry 0 9 (.destination ⟨3, 1, none⟩) 0) (carrying417 0x12 9)))
      (fun t => ((t.entry .destination 0 9).fields, slot t.tables.selectors 9, t.globals.failOvers)) =
      some (.destination ⟨1, 4, some 17⟩, .spare, 0) := by decide +kernel
theorem test_fillEntries :
    got (exec .fillEntries (up.asked ([0x13, 0, 0, 0, 1, 0, 0, 6, 0, 7, 0, 0, 0, 0, 0, 0, 2, 3]))) (fun t => t.op) =
      some (some ⟨.running, 6, .fill 1 (.destination ⟨2, 3, none⟩) 6 7 0⟩) := by decide +kernel
theorem test_copyBank : got (exec .copyBank (up.asked [0x14])) (fun t => t.op) = some (some ⟨.running, 0, .copy 0 1 0 0⟩) := by decide +kernel
theorem test_digestBank :
    got (exec .digestBank (up.asked [0x15, 0, 0, 0, 1, 1])) (fun t => t.op) =
      some (some ⟨.running, 0, .digest .destination 1 .standby 0 0xFFFFFFFF none⟩) := by decide +kernel
theorem test_startMemoryTest :
    got (exec .startMemoryTest (State.asked { up with pool := ⟨[], [], [16383, 16382], List.range 16382, [], true⟩ } [0x34]))
      (fun t => (t.pool.free, t.pool.underTest, t.pool.latch, t.op)) =
      some ([], [16382, 16383], true, some ⟨.running, 0, .memtest 0 0 none none⟩) := by decide +kernel

/-! ### Requests that control -/

theorem test_enable :
    got (exec .enable (State.asked ((up.linkIn 17 .disabled).modLink 17 fun p => { p with sending := .nothing }) [0x30, 0, 0, 0, 17, 0]))
      (fun t => ((t.link 17).state, (t.link 17).sending, (t.link 17).counters.retrains)) =
      some (.training, .cell .idle (idleCell 0), 0) := by decide +kernel
theorem test_enable_undefinedAction : answered .enable (up.asked [0x30, 0, 0, 0, 17, 9]) 5 = some [0x30, 3, 0, 0, 0] := by decide +kernel
theorem test_disable :
    got (exec .disable (State.asked (up.queued 17 0 [1]) [0x30, 0, 0, 0, 17, 1]))
      (fun t => ((t.link 17).state, (t.queue (queueId 17 0)).entries.length, (t.link 17).sending)) = some (.disabled, 1, .nothing) := by decide +kernel
/-- The flush among shared buffers (04): 40 and 42 join the tail, 41 and 43 stay in use. -/
def link5 : State :=
  let s := ((up.queued 5 0 [40]).queued 5 1 [41, 42]).queued 5 3 [43]
  let paused := s.setQueue (queueId 5 1) { s.queue (queueId 5 1) with pause := .paused }
  { paused with pool := { paused.pool with free := [880, 881], refs := [(39, 1), (40, 1), (41, 3), (42, 1), (43, 2)], latch := true } }
theorem test_flush :
    got (exec .flush (link5.asked [0x30, 0, 0, 0, 5, 2]))
      (fun t => (t.pool.free, t.pool.refs, (t.queue (queueId 5 1)).counters.flushed, (t.queue (queueId 5 1)).pause, t.flow.coalescing)) =
      some ([880, 881, 40, 42], [(39, 1), (41, 2), (43, 1)], 2, .clear, .running 2) := by decide +kernel
theorem test_retrain :
    got (exec .retrain (State.asked (link5.modLink 5 fun p => { p with inFlight := some 39 }) [0x30, 0, 0, 0, 5, 3]))
      (fun t => (t.pool.free, (t.link 5).state, (t.link 5).counters.aborted, (t.link 5).counters.retrains)) =
      some ([880, 881, 39, 40, 42], .training, 1, 1) := by decide +kernel
/-- The swap across the epoch wrap (07): at 65530 the target 4 is a lead of 10. -/
theorem test_scheduleSwap :
    answered .scheduleSwap (State.asked { up with epoch := ⟨65530, .running 100, false, 0, none⟩ } [0x20, 0, 0, 0, 0, 4]) 9 =
      some [0x20, 0, 0, 0, 0xFF, 0xFA, 1, 0, 4] := by decide +kernel
theorem test_cancelSwap : answered .cancelSwap (swapAt4.asked [0x21]) 9 = some [0x21, 0, 0, 0, 0, 3, 0, 0, 4] := by decide +kernel
theorem test_datapathReset :
    got (exec .datapathReset (State.asked (link5.modLink 8 fun p => { p with rxBuf := [idleCell 0], wrrClass := .three }) [0x32]))
      (fun t => ((t.queue (queueId 5 1)).entries, (t.link 8).rxBuf, (t.link 8).counters.overruns, (t.link 8).wrrClass, (t.link 8).wrrCount)) =
      some ([], [], 1, .one, 8) := by decide +kernel
theorem test_sendFlowStatusNow :
    got (exec .sendFlowStatusNow (up.asked [0x33])) (fun t => ((t.link 9).pendFlowst, t.flow)) = some (true, ⟨.idle, 10⟩) := by decide +kernel
theorem test_setManagementLinks :
    got (exec .setManagementLinks (up.asked ([0x31] ++ List.replicate 15 0 ++ [0x04, 0, 0, 0x40]))) (fun t => t.agent.permitted) =
      some 0x40000004 := by decide +kernel
/-- The fourth write of the pause pair example (08): clamped to 4094, then refused; 300 stays in force. -/
theorem test_setParameter_refused :
    answered .setParameter (State.asked { up with params := { Params.default with xoff := #v[768, 768, 400, 768], xon := #v[512, 512, 300, 512] } }
      [0x40, 0, 0, 0, 0x04, 2, 0, 0, 0, 0, 0x13, 0x88]) 12 = some [0x40, 3, 0, 0, 0x04, 2, 0, 0, 0, 0, 0x01, 0x2C] := by decide +kernel
/-- Its last write: 9000 is stored as 4095. -/
theorem test_setParameter :
    got (exec .setParameter (up.asked [0x40, 0, 0, 0, 0x03, 2, 0, 0, 0, 0, 0x23, 0x28])) (fun t => t.params.xoff) =
      some #v[768, 768, 4095, 768] := by decide +kernel
/-- With both places taken the agent holds the response (08, "a full response queue and a failed link"). -/
theorem test_thirdResponseIsHeld :
    got (exec .readMissRecord (State.asked (up.modLink 2 fun p => { p with respQueue := [packBytes 64 [1], packBytes 64 [2]] }) [0x06]))
      (fun t => ((t.link 2).respQueue.length, t.agent.held.map Carried.link, t.agent.queue)) = some (2, some 2, []) := by decide +kernel


/-! ### Hypotheses that are met: the machine and its laws

Each theorem below shows a state and operands that meet the hypotheses of the statement it is named after, clause by clause and at the edges of
their ranges. -/

/-- What an outcome was seen to show, as a hypothesis on its next state. -/
theorem next_of_got {o : Host.Outcome State Fault Refusal} {look : State → Bool} (h : got o look = some true) : ∃ t, o = .next t ∧ look t = true := by
  cases o with
  | next t => exact ⟨t, rfl, by simpa [got] using h⟩
  | fault r => simp [got] at h
  | refused r => simp [got] at h

/-- A block whose timers are all IDLE and that has nothing to do. -/
def still : State :=
  { State.reset with monitor := ⟨127, .idle⟩, epoch := ⟨0, .idle, false, 0, none⟩, scrub := ⟨0, .idle⟩ }

theorem witness_StepRunsFrontCommand :
    ({ up with pending := [.admission, .scrubStep] } : State).pending = .admission :: [.scrubStep] ∧ up.pending = [] := ⟨rfl, rfl⟩
theorem witness_CommandsKeepQueueStrapsAndPin :
    (∃ t, exec .scrubStep up = .next t) ∧ (∀ p a b, Instr.scrubStep ≠ .rstNRise p a b) ∧ Instr.isReset .scrubStep = false :=
  ⟨⟨_, rfl⟩, by simp, rfl⟩
theorem witness_EventsNotAllowedChangeNothing_links :
    up.rstN = true ∧ (up.link 31).window = .idle ∧ (still.link 31).keepalive = .idle ∧ (still.link 0).holdOff = .idle ∧ (still.link 0).state ≠ .up ∧
      ∀ l, (still.link l).rxBuf = [] := by decide +kernel
theorem witness_EventsNotAllowedChangeNothing_timers :
    still.monitor.timer = .idle ∧ still.flow.coalescing = .idle ∧ still.epoch.timer = .idle ∧ still.attn.timer = .idle ∧ still.scrub.timer = .idle ∧
      still.op = none := by decide +kernel
theorem witness_EventsNotAllowedChangeNothing_operands :
    ({ still with rstN := false } : State).rstN = false ∧ (∀ p a b, Instr.admission ≠ .rstNRise p a b) ∧
      (∀ b n e k, Instr.admission ≠ .tableDisturbance b n e k) ∧ Instr.serves .readStatus = some .readStatus ∧
      (∀ l r rest, (up.asked [0x01]).hasRequest l r rest → requestRow r ≠ .readStatus) ∧ (EntryFields.destination initialDest).table.size ≤ 32 := by
  refine ⟨rfl, by simp, by simp, rfl, ?_, by decide⟩
  intro l r rest h
  have e : (⟨2, packBytes 64 [0x01]⟩ : Carried) = ⟨l, r⟩ := (List.cons.inj h.2.2).1
  rw [← (Carried.mk.inj e).2]
  decide
theorem witness_ResetPinGivesPowerOnItems : ({ up with rstN := false } : State).rstN = false ∧ up.rstN = true := ⟨rfl, rfl⟩

theorem up_link (l : Link) : up.link l = upPort := by simp [State.link, slot, up]
theorem up_queue (q : QueueId) : up.queue q = OutQueue.powerOn := by simp [State.queue, slot, up, State.reset, State.powerOn]
theorem up_holdersAt (l : Link) (h : Handle) : up.holdersAt l h = 0 := by
  simp [State.holdersAt, linkQueues, up_queue, up_link, OutQueue.powerOn, upPort, LinkPort.powerOn]
theorem up_refCount (h : Handle) : up.pool.refCount h = 0 := rfl
theorem up_free : up.pool.free = List.range Config.bufferCount := by
  simp only [up, State.reset, State.powerOn, Pool.powerOn]
theorem up_poolLawful : up.poolLawful := by
  refine ⟨fun h => ?_, fun l h => ?_, fun h hh => ?_, fun h hh => ?_, up_free ▸ List.nodup_range, fun h hh => ?_, fun h => ?_, fun _ => rfl⟩
  · simp [State.holders, up_holdersAt, up_refCount]
  · rw [up_holdersAt]; omega
  · simp [Pool.conditions, Pool.refCount, Memory.read, up, State.reset, State.powerOn, Pool.powerOn, hh]
  · simp [Pool.conditions, Pool.refCount, Memory.read, up, State.reset, State.powerOn, Pool.powerOn, hh]
  · rw [up_refCount] at hh; omega
  · exact absurd h (by decide)
theorem up_storesCanonical : up.storesCanonical := by unfold State.storesCanonical; decide +kernel
theorem up_linksLawful : up.linksLawful := by
  intro l
  rw [up_link]
  refine ⟨by unfold LinkPort.inRange; decide, by unfold LinkPort.quietOutsideUp; decide, by unfold LinkPort.timersLawful; decide, ?_, fun h => absurd h (by decide), ?_⟩
  · intro cell h; exact absurd h (by simp [upPort, LinkPort.powerOn])
  · intro record h; exact absurd h (by simp [up, State.reset, State.powerOn])
theorem params_inRange : up.params.inRange := by
  refine ⟨by decide, by decide, by decide, by decide, fun k => by cases k <;> decide, by decide, ?_⟩
  decide

/-- The block with every link UP, a command waiting, meets the laws together and takes its step. -/
theorem witness_laws_stores_params_queues_links_pool :
    up.storesCanonical ∧ up.params.inRange ∧ up.queuesLawful ∧ up.linksLawful ∧ up.poolLawful ∧
      ∃ t, step { up with pending := [.monitorStep] } = .next t :=
  ⟨up_storesCanonical, params_inRange, by intro q; rw [up_queue]; exact ⟨by decide, by simp [OutQueue.powerOn], by decide, by decide⟩, up_linksLawful,
    up_poolLawful, ⟨_, rfl⟩⟩
theorem witness_laws_latch_records_counters :
    up.latchLawful ∧ up.recordsLawful ∧ up.countersBounded := by
  refine ⟨?_, ⟨by decide, by decide, by decide, ?_⟩, ?_, ?_, by decide⟩
  · unfold State.latchLawful; decide +kernel
  · intro r h; exact absurd h (by simp [up, State.reset, State.powerOn])
  · intro l; rw [up_link]; decide
  · intro q; rw [up_queue]; decide
/-- A Fill at its last item, on the standby bank with no swap pending. -/
theorem witness_OperationsStayLawful :
    (up.running 7 (.fill 1 (.destination ⟨2, 3, none⟩) 6 7 1)).opLawful ∧ (up.running 7 (.fill 1 (.destination ⟨2, 3, none⟩) 6 7 1)).standbyWriterLawful ∧
      ∃ t, step { up.running 7 (.fill 1 (.destination ⟨2, 3, none⟩) 6 7 1) with pending := [.fillStep] } = .next t := by
  refine ⟨?_, ?_, ⟨_, rfl⟩⟩
  · intro r h
    cases h
    unfold Work.lawful; decide
  · intro _
    refine ⟨rfl, fun t b h => ?_⟩
    revert h
    fin_cases b <;> cases t <;> decide
theorem witness_ParametersStayInRange : Instr.isReset .fillStep = false ∧ Instr.fillStep ≠ .setParameter ∧ ∃ t, exec .fillStep up = .next t :=
  ⟨rfl, by decide, ⟨_, rfl⟩⟩
theorem witness_QueuesAreFirstInFirstOut_dataStarts :
    (link14.link 14).inFlight ≠ some 5 ∧ ∃ t, exec (.nextCellEvent 14) link14 = .next t ∧ decide ((t.link 14).inFlight = some 5) = true :=
  ⟨by decide +kernel, next_of_got (by decide +kernel)⟩
/-- A queue at XOFF enters PAUSED; a PAUSED one at XON leaves it. -/
theorem witness_PauseChangesOnlyAtVisitsAndFlushes :
    (∃ t, exec .monitorStep { up.queued 0 0 [1, 2] with params := { Params.default with xoff := #v[2, 2, 2, 2], xon := #v[1, 1, 1, 1] } } = .next t ∧
      decide ((t.queue 0).pause = .paused) = true) ∧
    ∃ t, exec .monitorStep (up.setQueue 0 { up.queue 0 with pause := .paused }) = .next t ∧ decide ((t.queue 0).pause = .clear) = true :=
  ⟨next_of_got (by decide +kernel), next_of_got (by decide +kernel)⟩
/-- Each flush event of R76 on queues that hold entries, one of them PAUSED; its report starts the coalescing timer. -/
theorem witness_flushEvents :
    (∃ t, exec .flush (link5.asked [0x30, 0, 0, 0, 5, 2]) = .next t ∧
      decide ((link5.queue (queueId 5 1)).pause = .paused ∧ (t.queue (queueId 5 1)).pause = .clear ∧ t.flow.coalescing = .running 2) = true) ∧
    (∃ t, exec .retrain (link5.asked [0x30, 0, 0, 0, 5, 3]) = .next t ∧
      decide ((t.queue (queueId 5 1)).entries = [] ∧ t.flow.coalescing = .running 2) = true) ∧
    (∃ t, exec .datapathReset (link5.asked [0x32]) = .next t ∧
      decide ((t.queue (queueId 5 1)).entries = [] ∧ t.flow.coalescing = .running 2) = true) ∧
    ∃ t, exec (.keepaliveExpiry 5) link5 = .next t ∧
      decide ((t.link 5).state = .faulted ∧ (t.queue (queueId 5 1)).entries = [] ∧ t.flow.coalescing = .running 2) = true :=
  ⟨next_of_got (by decide +kernel), next_of_got (by decide +kernel), next_of_got (by decide +kernel), next_of_got (by decide +kernel)⟩
theorem witness_ActiveRoleMovesOnlyBySwap :
    ∃ t, exec .epochTimerExpiry swapAt4 = .next t ∧ decide (t.tables.active ≠ swapAt4.tables.active) = true := next_of_got (by decide +kernel)
/-- A departure from UP, an entry into UP, and a departure from DISABLED. -/
theorem witness_LinkChangesAreFlagged_SelectorsFollowLinkChanges :
    (∃ t, exec (.keepaliveExpiry 4) nine417 = .next t ∧ decide ((nine417.link 4).state = .up ∧ (t.link 4).state ≠ .up) = true) ∧
    (∃ t, exec (.cellArrival 4 (idleCell 5)) (State.reset.modLink 4 fun p => { p with trainCount := 63 }) = .next t ∧
      decide ((t.link 4).state = .up) = true) ∧
    ∃ t, exec .enable ((up.linkIn 17 .disabled).asked [0x30, 0, 0, 0, 17, 0]) = .next t ∧ decide ((t.link 17).state = .training) = true :=
  ⟨next_of_got (by decide +kernel), next_of_got (by decide +kernel), next_of_got (by decide +kernel)⟩
theorem witness_ActiveBankChangesOnlyByMarking :
    disturbed200.storesCanonical ∧ disturbed200.standbyWriterLawful ∧ Instr.scrubStep ≠ .repairEntry ∧
      (∀ b k e code, Instr.scrubStep ≠ .tableDisturbance b k e code) ∧
      ∃ t, exec .scrubStep disturbed200 = .next t ∧ decide (t.entry .group 0 200 ≠ disturbed200.entry .group 0 200) = true :=
  ⟨by unfold State.storesCanonical; decide +kernel, fun h => absurd h (by decide), by decide, by simp, next_of_got (by decide +kernel)⟩

/-! ### Hypotheses that are met: cells and link ports -/

/-- A cell of a kind with both checks good and an empty payload. -/
def goodCell (kind : CellKind) : Cell := buildCell kind 5 64 (packBytes 64 [])
/-- A cell with a good header and a bad payload check. -/
def badPayload (kind : CellKind) : Cell := (goodCell kind).set 75 0xFF
/-- A cell with a bad header. -/
def badHeader : Cell := packBytes 76 [0xFF]

/-- DISABLED; FAULTED and TRAINING with a bad and a good header; an IDLE one short of the last; the last. -/
theorem witness_CellsOutsideUp :
    (up.linkIn 4 .disabled).rstN = true ∧ ((up.linkIn 4 .disabled).link 4).state = .disabled ∧ ((up.linkIn 4 .faulted).link 4).state = .faulted ∧
      (State.reset.link 4).state = .training ∧ goodHeaderKind badHeader = none ∧ goodHeaderKind (goodCell .idle) = some .idle ∧
      ((State.reset.modLink 4 fun p => { p with trainCount := 62 }).link 4).trainCount < 63 ∧
      ((State.reset.modLink 4 fun p => { p with trainCount := 63 }).link 4).trainCount = 63 := by decide +kernel
/-- A budget one below the threshold after the bad cell, and one that reaches it. -/
theorem witness_BadCellsInUp :
    up.rstN = true ∧ (up.link 4).state = .up ∧ goodHeaderKind badHeader = none ∧ (goodHeaderKind (badPayload .ucast)).isSome = true ∧
      payloadCheckGood (badPayload .ucast) = false ∧ min 65535 (991 + 32) < up.params.budgetThreshold ∧
      up.params.budgetThreshold ≤ min 65535 (992 + 32) := by decide +kernel
/-- Each kind; a buffer with one place left and a full one. -/
theorem witness_GoodCellsInUp :
    up.rstN = true ∧ (up.link 4).state = .up ∧ payloadCheckGood (goodCell .ucast) = true ∧ goodHeaderKind (goodCell .ucast) = some .ucast ∧
      goodHeaderKind (goodCell .attn) = some .attn ∧ goodHeaderKind (goodCell .mreq) = some .mreq ∧
      ((up.modLink 4 fun p => { p with rxBuf := List.replicate 3 (goodCell .ucast) }).link 4).rxBuf.length < 4 ∧
      4 ≤ ((up.modLink 4 fun p => { p with rxBuf := List.replicate 4 (goodCell .ucast) }).link 4).rxBuf.length := by decide +kernel
/-- A link outside the permitted set; 8 and 7 requests queued. -/
theorem witness_GoodCellsInUp_requests :
    LinkSet.has up.agent.permitted 4 = false ∧ LinkSet.has up.agent.permitted 0 = true ∧
      8 ≤ ({ up.agent with queue := List.replicate 8 ⟨2, packBytes 64 []⟩ } : Agent).queue.length ∧
      ({ up.agent with queue := List.replicate 7 ⟨2, packBytes 64 []⟩ } : Agent).queue.length < 8 := by decide +kernel
/-- A SYNC with the number 0 off the timing link; on it, the same number, the next one (from 65535) and another. -/
theorem witness_SyncsArrive :
    goodHeaderKind (goodCell .sync) = some .sync ∧ payloadCheckGood (goodCell .sync) = true ∧
      (0 : Epoch).toNat = 256 * (goodCell .sync)[10].toNat + (goodCell .sync)[11].toNat ∧ up.params.timingLink ≠ some 4 ∧
      ({ up.params with timingLink := some 4 } : Params).timingLink = some 4 ∧ (0 : Epoch) = up.epoch.number ∧
      (0 : Epoch) = 65535 + 1 ∧ (0 : Epoch) ≠ 65535 ∧ (0 : Epoch) ≠ 7 + 1 := by decide +kernel
/-- A FAULTED link with a running hold-off: no limit, one below the limit, at the limit. -/
theorem witness_LinkTimersExpire :
    State.reset.rstN = true ∧ (State.reset.link 4).state = .training ∧ (State.reset.link 4).window ≠ .idle ∧ (up.link 4).state = .up ∧
      (up.link 4).keepalive ≠ .idle ∧
      (let s := up.modLink 4 fun p => { p with state := .faulted, retrainCount := 3, holdOff := .running 1000 }
       (s.link 4).state = .faulted ∧ (s.link 4).holdOff ≠ .idle ∧ s.params.retrainLimit = 0 ∧
       (s.link 4).retrainCount < ({ s.params with retrainLimit := 4 } : Params).retrainLimit ∧
       ({ s.params with retrainLimit := 3 } : Params).retrainLimit ≠ 0 ∧
       ({ s.params with retrainLimit := 3 } : Params).retrainLimit ≤ (s.link 4).retrainCount) := by decide +kernel
/-- Masked; unmasked with the timer IDLE; unmasked with it RUNNING. -/
theorem witness_RaisesAlertPermittedLinks :
    FlagSet.has ({ up.params with attnMask := 0x08 } : Params).attnMask .poolLow = true ∧ FlagSet.has up.params.attnMask .poolLow = false ∧
      up.attn.timer = .idle ∧ ({ up.attn with timer := .running 100 } : Attention).timer ≠ .idle := by decide

/-! ### Hypotheses that are met: admission -/

/-- The block with one cell in the receive buffer of link 3. -/
def arrived (s : State) (cell : Cell) : State := s.modLink 3 fun p => { p with rxBuf := [cell] }
/-- A Destination entry for destination 9, in bank 0, with its code or with another one. -/
def dest9 (state : Byte) (good : Bool) : State :=
  let e := EntryFields.destination ⟨state, 4, some 17⟩
  up.putEntry 0 9 e (if good = true then e.checkCode else e.checkCode + 1)
/-- Group 9 of bank 0 with members 3 and 4 and suppression, with its code or with another one. -/
def group9 (state : Byte) (good : Bool) : State :=
  let e := EntryFields.group ⟨state, true, none, 0x18⟩
  up.putEntry 0 9 e (if good = true then e.checkCode else e.checkCode + 1)

/-- The first destination past the map. -/
theorem witness_UnicastBeyondMapIsNoRoute :
    (arrived up (dataCell .ucast 1 false 32)).rstN = true ∧ (arrived up (dataCell .ucast 1 false 32)).serves 3 (dataCell .ucast 1 false 32) [] ∧
      (arrived up (dataCell .ucast 1 false 32)).memtestRunning = false ∧ cellKind (dataCell .ucast 1 false 32) = some .ucast ∧
      32 ≤ cellDest (dataCell .ucast 1 false 32) := by
  unfold State.serves; decide +kernel
/-- A running memory test; and a CORRUPT, a bad, an UNASSIGNED and an ISOLATED entry for destination 9. -/
theorem witness_CellsWithoutRouteAreDropped :
    ((arrived up (dataCell .ucast 1 false 9)).running 0 (.memtest 0 0 none none)).memtestRunning = true ∧
      (arrived (dest9 3 true) (dataCell .ucast 1 false 9)).serves 3 (dataCell .ucast 1 false 9) [] ∧ cellDest (dataCell .ucast 1 false 9) = 9 ∧
      ((arrived (dest9 3 true) (dataCell .ucast 1 false 9)).entry .destination 0 9).fields.state = 3 ∧
      badEntry ((dest9 1 false).entry .destination 0 9) ∧ (dest9 1 false).storesCanonical ∧
      goodEntry ((dest9 0 true).entry .destination 0 9) ∧ goodEntry ((dest9 2 true).entry .destination 0 9) ∧
      ((dest9 2 true).entry .destination 0 9).fields.state = 2 := by
  unfold State.serves badEntry goodEntry State.storesCanonical; decide +kernel
/-- A good ACTIVE entry; the selected link in TRAINING, in FAULTED, in UP, in DISABLED; the selector at either value. -/
theorem witness_UnicastUnreachable_UnicastAdmission_route :
    goodEntry ((dest9 1 true).entry .destination 0 9) ∧ (dest9 1 true).activeDest 9 = ⟨1, 4, some 17⟩ ∧
      slot (dest9 1 true).tables.selectors 9 = .primary ∧ (4 : Byte).toNat = (4 : Link).val ∧ ((dest9 1 true).routeLink 9).1 = 4 ∧
      slot (setSlot (dest9 1 true).tables.selectors 9 .spare) 9 = .spare ∧ (some 17 : Option (BitVec 7)).map BitVec.toNat = some (17 : Link).val ∧
      (((dest9 1 true).linkIn 4 .training).link 4).state = .training ∧ ((dest9 1 true).link 4).state = .up := by
  unfold goodEntry; decide +kernel
/-- A unicast cell for destination 9 whose selected link, 4, is in TRAINING. -/
def toTraining : State := arrived ((dest9 1 true).linkIn 4 .training) (dataCell .ucast 1 false 9)
theorem witness_UnicastUnreachable_UnicastAdmission :
    (toTraining.rstN = true ∧ toTraining.serves 3 (dataCell .ucast 1 false 9) [] ∧ toTraining.memtestRunning = false ∧
      cellKind (dataCell .ucast 1 false 9) = some .ucast ∧ cellDest (dataCell .ucast 1 false 9) = (9 : Link).val ∧
      goodEntry (toTraining.entry .destination toTraining.tables.active 9) ∧ (toTraining.activeDest 9).state = 1 ∧
      (toTraining.link 4).state = .training) ∧ toTraining.routeLink 9 = (4, toTraining) :=
  ⟨by unfold State.serves goodEntry; decide +kernel, rfl⟩
/-- A free count at the class floor; a queue at its limit; one place left and a free buffer. -/
theorem witness_UnicastAdmission_tests :
    (List.range 256).length ≤ slot up.params.floor 1 ∧ slot up.params.floor 1 < (List.range 257).length ∧
      slot ({ up.params with limit := #v[2, 2, 2, 2] } : Params).limit 1 ≤ ((up.queued 4 1 [5, 6]).queue (queueId 4 1)).entries.length ∧
      ((up.queued 4 1 [5]).queue (queueId 4 1)).entries.length < slot ({ up.params with limit := #v[2, 2, 2, 2] } : Params).limit 1 ∧
      (List.range 257).head? = some 0 ∧ ({ up with pool := { up.pool with free := List.range 257 } } : State).storesCanonical := by
  unfold State.storesCanonical; decide +kernel
/-- A CORRUPT group, a good INVALID one, a bad one; an empty and a full miss record. -/
theorem witness_MulticastMisses :
    (arrived (group9 2 true) (dataCell .mcast 1 false 9)).serves 3 (dataCell .mcast 1 false 9) [] ∧ cellKind (dataCell .mcast 1 false 9) = some .mcast ∧
      ((group9 2 true).entry .group 0 9).fields.state = 2 ∧ goodEntry ((group9 0 true).entry .group 0 9) ∧ badEntry ((group9 1 false).entry .group 0 9) ∧
      (group9 1 false).storesCanonical ∧ (group9 1 false).attn.miss = none ∧
      ({ up.attn with miss := some ⟨9, 3, 0, 65535⟩ } : Attention).miss = some ⟨9, 3, 0, 65535⟩ := by
  unfold State.serves badEntry goodEntry State.storesCanonical; decide +kernel
/-- A VALID group without an override and one with; the free count at the floor and above it; a walk that admits member 4 and one that admits none. -/
theorem witness_MulticastWalk :
    goodEntry ((group9 1 true).entry .group 0 9) ∧ ((group9 1 true).entry .group 0 9).fields = .group ⟨1, true, none, 0x18⟩ ∧
      (1 : Class) = cellClass (dataCell .mcast 1 false 9) ∧ (3 : BitVec 7).toNat = (3 : Class).val ∧ (group9 1 true).storesCanonical ∧
      slot up.params.floor 1 < up.pool.free.length ∧ up.pool.free.head? = some 0 ∧
      (let members := (List.finRange 32).filter fun m => LinkSet.has 0x18 m && !(true && decide (m = 3))
       members.filter (fun m => decide (((group9 1 true).link m).state = .up)) = [4] ∧
       members.filter (fun m => decide ((((group9 1 true).linkIn 4 .faulted).link m).state = .up)) = []) := by
  unfold goodEntry State.storesCanonical; decide +kernel

/-! ### Hypotheses that are met: egress -/

/-- An MRSP queued with no response held; with one held for the link; an ATTN on a permitted link and on another; a FLOWST; nothing pending and no
entry; an entry behind a gap that is one short. -/
theorem witness_NonDataCellsInOrder :
    up.rstN = true ∧ (up.link 6).state = .up ∧ (up.link 6).inFlight = none ∧ (up.link 6).respQueue = [] ∧
      ((up.modLink 6 fun p => { p with respQueue := [packBytes 64 [1]] }).link 6).respQueue = packBytes 64 [1] :: [] ∧ up.agent.held = none ∧
      ({ up.agent with held := some ⟨6, packBytes 64 [2]⟩ } : Agent).held = some ⟨6, packBytes 64 [2]⟩ ∧
      ((up.modLink 6 fun p => { p with pendAttn := true }).link 6).pendAttn = true ∧ LinkSet.has up.agent.permitted 6 = false ∧
      LinkSet.has up.agent.permitted 0 = true := by decide +kernel
theorem witness_NonDataCellsInOrder_flowst_idle :
    ((up.modLink 6 fun p => { p with pendFlowst := true }).link 6).pendFlowst = true ∧ (up.link 6).pendFlowst = false ∧
      (∀ k, (up.queue (queueId 6 k)).entries = []) ∧
      (((up.queued 6 1 [5]).modLink 6 fun p => { p with gapCount := 2, farGap := 3 }).link 6).gapCount < max (slot up.params.gap 6) 3 := by
  decide +kernel
/-- The last choice of the round-robin example, and class 0 before it; each way the walk goes. -/
theorem witness_DataCellsAreSelectedAndMarked :
    link14.rstN = true ∧ (link14.link 14).state = .up ∧ (link14.link 14).inFlight = none ∧ (link14.link 14).respQueue = [] ∧
      (link14.link 14).pendAttn = false ∧ (link14.link 14).pendFlowst = false ∧
      max (slot link14.params.gap 14) (link14.link 14).farGap ≤ (link14.link 14).gapCount ∧ link14.waiting 14 0 = false ∧
      link14.wrrWalk 14 3 .two 0 = some (.one, 1) ∧ (link14.queue (queueId 14 1)).entries = ⟨5, 1, false⟩ :: [] ∧
      link14.pool.stored 5 = some (dataCell .ucast 1 false 14) := by decide +kernel
/-- A pending ATTN flag on a link that is not permitted: the data cell is chosen all the same. -/
theorem witness_DataCellsAreSelectedAndMarked_attnDropped :
    LinkSet.has link14.agent.permitted 14 = false ∧ ∃ t, exec (.nextCellEvent 14) (link14.modLink 14 fun p => { p with pendAttn := true }) = .next t ∧
      decide ((t.link 14).inFlight = some 5 ∧ (t.link 14).pendAttn = false) = true := ⟨by decide +kernel, next_of_got (by decide +kernel)⟩
theorem witness_DataCellsAreSelectedAndMarked_walks :
    link14.waiting 14 1 = true ∧ link14.waiting 14 2 = false ∧ link14.waiting 14 3 = false ∧ (link14.queued 14 0 [5]).waiting 14 0 = true ∧
      (link14.queued 14 2 [5]).waiting 14 2 = true := by decide +kernel
theorem witness_wrr_inRange : link14.params.inRange := by
  refine ⟨by decide, by decide, by decide, by decide, fun k => by cases k <;> decide, by decide, ?_⟩
  decide
/-- A data cell in flight, with disable-pending clear and set; a release that is not the last and one that is. -/
theorem witness_DataCellsEnd :
    ((link5.modLink 5 fun p => { p with inFlight := some 39 }).link 5).state = .up ∧
      ((link5.modLink 5 fun p => { p with inFlight := some 39 }).link 5).inFlight = some 39 ∧ (link5.link 5).disablePending = false ∧
      ((link5.modLink 5 fun p => { p with inFlight := some 39, disablePending := true }).link 5).disablePending = true ∧
      Memory.wf 0 link5.pool.refs = true ∧ link5.pool.latch = decide (link5.pool.free.length < 1024) ∧ link5.pool.refCount 41 = 3 ∧
      link5.pool.refCount 40 = 1 := by decide +kernel

/-! ### Hypotheses that are met: the monitor, the timers, the tables, the operations -/

/-- The first queue after the cursor that is eligible, past the queues of a FAULTED link; and no eligible queue. -/
theorem witness_MonitorSteps :
    (up.linkIn 0 .faulted).rstN = true ∧ (up.linkIn 0 .faulted).monitor.timer ≠ .idle ∧ ((up.linkIn 0 .faulted).link (queueLink 4)).state = .up ∧
      (∀ p : QueueId, (p - (up.linkIn 0 .faulted).monitor.cursor - 1).val < (4 - (up.linkIn 0 .faulted).monitor.cursor - 1).val →
        ((up.linkIn 0 .faulted).link (queueLink p)).state = .training ∨ ((up.linkIn 0 .faulted).link (queueLink p)).state = .faulted) ∧
      ∀ l, (State.reset.link l).state = .training ∨ (State.reset.link l).state = .faulted := by decide +kernel
theorem witness_EpochCoalescingAndAttentionTimersExpire :
    up.rstN = true ∧ up.epoch.timer ≠ .idle ∧ ({ up.flow with coalescing := .running 2 } : FlowUnit).coalescing ≠ .idle ∧
      ({ up.attn with timer := .running 100, raisedWhileRunning := true } : Attention).timer ≠ .idle ∧ up.attn.raisedWhileRunning = false := by decide
/-- The last index of a table; an entry that is good, CORRUPT and bad; the last position of scrub order. -/
theorem witness_EntriesAreDisturbedAndScrubbed :
    up.storesCanonical ∧ 31 < (EntryFields.destination initialDest).table.size ∧ up.scrub.timer ≠ .idle ∧ 1 ≤ up.params.scrubStep ∧
      goodEntry (up.entry .destination 1 31) ∧ badEntry (disturbed200.entry .group 0 200) ∧ disturbed200.storesCanonical ∧
      ((dest9 3 true).entry .destination 0 9).fields.state = corruptCode .destination ∧ disturbed200.scrub.cursor.val = 0 + 4128 * 0 + 200 ∧
      (8255 : Fin 8256).val = 4096 + 4128 * 1 + 31 := by
  unfold State.storesCanonical badEntry goodEntry; decide +kernel
/-- Each operation before its last item and at it. -/
theorem witness_FillCopyAndDigestSteps :
    up.rstN = true ∧ up.storesCanonical ∧
      (up.running 6 (.fill 1 (.destination initialDest) 6 7 0)).op = some ⟨.running, 6, .fill 1 (.destination initialDest) 6 7 0⟩ ∧
      (up.running 4127 (.copy 0 1 4127 0)).op = some ⟨.running, 4096 + 31, .copy 0 1 4127 0⟩ ∧ 31 < Table.destination.size ∧ 4095 < Table.group.size ∧
      (up.running 31 (.digest .destination 0 .active 31 0 none)).op = some ⟨.running, 31, .digest .destination 0 .active 31 0 none⟩ := by
  unfold State.storesCanonical; decide +kernel
/-- A memory test before its last handle and at it. -/
theorem witness_MemoryTestSteps :
    let s := ({ up with pool := ⟨[], [], [], [9], [0, 1, 2], true⟩ } : State)
    (s.running 1 (.memtest 1 0 none none)).storesCanonical ∧ (s.running 1 (.memtest 1 0 none none)).op = some ⟨.running, 1, .memtest 1 0 none none⟩ ∧
      (s.running 16383 (.memtest 16383 0 none none)).op = some ⟨.running, 16383, .memtest 16383 0 none none⟩ ∧ 16384 ≤ 16383 + 1 := by
  unfold State.storesCanonical; decide +kernel

/-! ### Hypotheses that are met: requests -/

/-- The request placed by `asked` is a request at the head of a READY agent. -/
theorem asked_hasRequest (s : State) (bytes : List Byte) (h1 : s.rstN = true) (h2 : s.agent.held = none) :
    (s.asked bytes).hasRequest 2 (packBytes 64 bytes) [] := ⟨h1, h2, rfl⟩
theorem witness_RequestsAreAnsweredOnTheirLink :
    (up.asked [0x30, 0, 0, 0, 31, 3]).hasRequest 2 (packBytes 64 [0x30, 0, 0, 0, 31, 3]) [] ∧
      Instr.serves .retrain = some (requestRow (packBytes 64 [0x30, 0, 0, 0, 31, 3])) ∧ recByte (packBytes 64 [0x30, 0, 0, 0, 31, 3]) 0 ≠ 0x40 :=
  ⟨asked_hasRequest up _ rfl rfl, by decide, by decide⟩
/-- The kinds of the requests that report, with a link 31 and a link 32. -/
theorem witness_requests_that_report :
    up.rstN = true ∧ up.agent.held = none ∧ recByte (packBytes 64 [0x01]) 0 = 0x01 ∧
      recByte (packBytes 64 [0x02, 0, 0, 0, 32]) 0 = 0x02 ∧ 32 ≤ (recByte (packBytes 64 [0x02, 0, 0, 0, 32]) 4).toNat ∧
      (recByte (packBytes 64 [0x02, 0, 0, 0, 31]) 4).toNat = (31 : Link).val ∧
      recByte (packBytes 64 [0x03, 0, 0, 0, 31]) 0 = 0x03 ∧ recByte (packBytes 64 [0x05]) 0 = 0x05 ∧ recByte (packBytes 64 [0x06]) 0 = 0x06 := by decide
/-- Group codes 0 to 3 with links 31 and 32 and classes 3 and 4. -/
theorem witness_CountersAreReadAndCleared :
    recByte (packBytes 64 [0x04, 1, 0, 0, 3]) 0 = 0x04 ∧ 2 < (recByte (packBytes 64 [0x04, 1, 0, 0, 3]) 4).toNat ∧
      31 < (recByte (packBytes 64 [0x04, 1, 0, 0, 0, 32]) 5).toNat ∧ 3 < (recByte (packBytes 64 [0x04, 1, 0, 0, 1, 31, 4]) 6).toNat ∧
      (recByte (packBytes 64 [0x04, 1, 0, 0, 1, 31, 3]) 4).toNat = 1 ∧ (recByte (packBytes 64 [0x04, 1, 0, 0, 1, 31, 3]) 5).toNat = (31 : Link).val ∧
      (recByte (packBytes 64 [0x04, 1, 0, 0, 1, 31, 3]) 6).toNat = (3 : Class).val ∧ (recByte (packBytes 64 [0x04, 1, 0, 0, 2]) 4).toNat = 2 := by decide
/-- Ranges that end at the table's last entry and one past it, six entries and seven; a running Copy that covers the bank, and none. -/
theorem witness_EntriesAreReadAsStored :
    let r := packBytes 64 [0x10, 0, 0, 0, 1, 1, 0, 26, 6]
    recByte r 0 = 0x10 ∧ (recByte r 4).toNat = 1 ∧ (recByte r 5).toNat = 1 ∧ 1 ≤ (recByte r 8).toNat ∧ (recByte r 8).toNat ≤ 6 ∧
      (recWord r 6).toNat + (recByte r 8).toNat ≤ Table.destination.size ∧ 32 < 27 + (recByte r 8).toNat ∧
      (up.running 0 (.copy 0 1 0 0)).writerCovers .destination (up.bankOf .standby) = true ∧ up.writerCovers .destination (up.bankOf .standby) = false := by
  decide
/-- A carried entry that may be written and one that may not; the swap record, a running Digest and a CORRUPT entry in the way, and not. -/
theorem witness_EntriesAreWrittenAndRepaired :
    let r := packBytes 64 (carrying417 0x11 31)
    recByte r 0 = 0x11 ∧ (recByte r 4).toNat = 1 ∧ 1 ≤ (recByte r 8).toNat ∧ (recByte r 8).toNat ≤ 6 ∧
      (recWord r 6).toNat + (recByte r 8).toNat ≤ Table.destination.size ∧ recEntry r .destination 16 = .destination ⟨1, 4, some 17⟩ ∧
      mayBeWritten (.destination ⟨1, 4, some 17⟩) ∧ ¬ mayBeWritten (.destination ⟨1, 4, some 4⟩) ∧ swapAt4.epoch.swapPending = true ∧
      up.epoch.swapPending = false ∧ (up.running 0 (.digest .destination 1 .standby 0 0 none)).digestCovers .destination (up.bankOf .standby) = true ∧
      up.digestCovers .destination up.tables.active = false ∧ (up.entry .destination 0 31).fields.state ≠ corruptCode .destination ∧
      ((dest9 3 true).entry .destination 0 9).fields.state = corruptCode .destination := by
  unfold mayBeWritten; decide +kernel
theorem witness_EntriesAreWrittenAndRepaired_state : up.storesCanonical ∧ 1 < (recByte (packBytes 64 [0x12, 0, 0, 0, 2]) 4).toNat :=
  ⟨up_storesCanonical, by decide⟩
/-- Each kind of long request, judged by range, by the swap record and by a running operation; free and retired handles that are and are not all. -/
theorem witness_LongRequestsStartOperations :
    recByte (packBytes 64 [0x13, 0, 0, 0, 1, 0, 0, 6, 0, 31]) 0 = 0x13 ∧ (recWord (packBytes 64 [0x13, 0, 0, 0, 1, 0, 0, 6, 0, 31]) 6).toNat = 6 ∧
      (recWord (packBytes 64 [0x13, 0, 0, 0, 1, 0, 0, 6, 0, 31]) 8).toNat < Table.destination.size ∧
      Table.destination.size ≤ (recWord (packBytes 64 [0x13, 0, 0, 0, 1, 0, 0, 6, 0, 32]) 8).toNat ∧ mayBeWritten (.destination initialDest) ∧
      swapAt4.epoch.swapPending = true ∧ up.epoch.swapPending = false ∧ (up.running 0 (.copy 0 1 0 0)).opRunning = true ∧ up.opRunning = false ∧
      [7].length + (List.range 16383).length = 16384 ∧ [7].length + [8].length ≠ 16384 := by
  unfold mayBeWritten; decide +kernel
/-- Link Control of link 17 by its state, of a link 32 and with an action 4; a running memory test. -/
theorem witness_LinksAreEnabledAndDisabled_LinksAreFlushedAndRetrained :
    recByte (packBytes 64 [0x30, 0, 0, 0, 17, 0]) 0 = 0x30 ∧ (recByte (packBytes 64 [0x30, 0, 0, 0, 17, 0]) 4).toNat = (17 : Link).val ∧
      31 < (recByte (packBytes 64 [0x30, 0, 0, 0, 32, 0]) 4).toNat ∧ 3 < (recByte (packBytes 64 [0x30, 0, 0, 0, 17, 4]) 5).toNat ∧
      recByte (packBytes 64 [0x30, 0, 0, 0, 17, 3]) 5 = 3 ∧ (up.link 17).state = .up ∧ ((up.linkIn 17 .disabled).link 17).state = .disabled ∧
      ((up.linkIn 17 .faulted).link 17).state = .faulted ∧ (State.reset.link 17).state = .training ∧ (up.link 17).inFlight = none ∧
      ((up.modLink 17 fun p => { p with inFlight := some 5 }).link 17).inFlight.isSome = true ∧ up.memtestRunning = false ∧
      (up.running 0 (.memtest 0 0 none none)).memtestRunning = true := by decide +kernel
/-- Leads of 1, 2, 4096 and 4097 from epoch 0; a pending swap; a running Fill. -/
theorem witness_SwapsAreScheduledAndCancelled :
    recByte (packBytes 64 [0x20, 0, 0, 0, 0x10, 0x00]) 0 = 0x20 ∧ (recWord (packBytes 64 [0x20, 0, 0, 0, 0x10, 0x00]) 4).toNat = 4096 ∧
      (recWord (packBytes 64 [0x20, 0, 0, 0, 0x10, 0x01]) 4).toNat = 4097 ∧ (recWord (packBytes 64 [0x20, 0, 0, 0, 0, 1]) 4).toNat < 2 ∧
      swapAt4.epoch.swapPending = true ∧ up.epoch.swapPending = false ∧ up.standbyWriterRunning = false ∧
      (up.running 0 (.copy 0 1 0 0)).standbyWriterRunning = true ∧ recByte (packBytes 64 [0x21]) 0 = 0x21 := by decide
/-- Datapath Reset with no operation, with a running Fill, and with a running memory test and no entry queued. -/
theorem witness_DatapathReset_SendFlowStatusNow_SetManagementLinks :
    recByte (packBytes 64 [0x32]) 0 = 0x32 ∧ up.opRunning = false ∧ (up.running 0 (.memtest 0 0 none none)).memtestRunning = true ∧
      ((List.finRange 128).flatMap fun q => (up.queue q).entries.map QueueEntry.handle) = [] ∧ recByte (packBytes 64 [0x33]) 0 = 0x33 ∧
      recByte (packBytes 64 [0x31]) 0 = 0x31 ∧ (∀ n, 16 ≤ n → n < 20 → recByte (packBytes 64 [0x31]) n = 0) ∧
      recByte (packBytes 64 ([0x31] ++ List.replicate 18 0 ++ [0x80])) 19 ≠ 0 := by
  refine ⟨by decide, by decide, by decide, by decide +kernel, by decide, by decide, ?_, by decide⟩
  intro n h1 h2; interval_cases n <;> decide
theorem witness_undefined_kinds : (recByte (packBytes 64 [0x07]) 0).toNat ∉
    [0x01, 0x02, 0x03, 0x04, 0x05, 0x06, 0x10, 0x11, 0x12, 0x13, 0x14, 0x15, 0x20, 0x21, 0x30, 0x31, 0x32, 0x33, 0x34, 0x40, 0x41] := by decide
/-- Ids and indices at the ends of their ranges; a value that is refused, clamped up and clamped down. -/
theorem witness_ReadParameter_SetParameter :
    recByte (packBytes 64 [0x41]) 0 = 0x41 ∧ recByte (packBytes 64 [0x40]) 0 = 0x40 ∧ paramOf 0x06 3 = some (.markHigh 3) ∧ paramOf 0x06 4 = none ∧
      paramOf 0x18 0xFF = some .scrubStep ∧ paramOf 0x19 0xFF = none ∧ paramOf 0 4 = none ∧ (Param.limit 0).stored 0 = 1 ∧ (Param.xoff 2).stored 9000 = 4095 ∧
      (Param.xon 2).stored 5000 = 4094 ∧ slot up.params.xoff 2 ≤ (Param.xon 2).stored 5000 ∧ slot up.params.xon 2 < (Param.xoff 2).stored 9000 := by
  decide

end Sys2Proof.Tests
end

section
/-! PROOFS. The link ports: what keeps their laws, what an event does to the links, and the statements of the family of cells and link ports. -/

namespace Sys2Proof.LinkPorts

open Sys2Proof.Machine Sys2Proof.Laws

/-! ### Ports whose laws are kept -/

/-- The laws of a port that speak of nothing but the port. -/
def PortLawful (p : LinkPort) : Prop := p.inRange ∧ p.quietOutsideUp ∧ p.timersLawful ∧ p.buffersData

/-- A FAULTED link has empty queues (R72). -/
def FaultedEmpty (s : State) : Prop := ∀ l, (s.link l).state = .faulted → ∀ k, (s.queue (queueId l k)).entries = []

/-- A response is held for a link in UP with two responses queued (R139). -/
def HeldLawful (s : State) : Prop :=
  ∀ l record, s.agent.held = some ⟨l, record⟩ → (s.link l).state = .up ∧ (s.link l).respQueue.length = 2

theorem linksLawful_iff (s : State) : s.linksLawful ↔ (∀ l, PortLawful (s.link l)) ∧ FaultedEmpty s ∧ HeldLawful s := by
  constructor
  · intro h
    refine ⟨fun l => ?_, fun l => ?_, fun l => ?_⟩
    all_goals obtain ⟨hr, hq, ht, hb, hf, hh⟩ := h l
    · exact ⟨hr, hq, ht, hb⟩
    · exact hf
    · exact hh
  · rintro ⟨hp, hf, hh⟩ l
    obtain ⟨hr, hq, ht, hb⟩ := hp l
    exact ⟨hr, hq, ht, hb, hf l, hh l⟩

/-- From port `p` to port `q` nothing happens that the other laws look at: the state and the responses are kept, and the port stays lawful. -/
def PortCalm (p q : LinkPort) : Prop := q.state = p.state ∧ q.respQueue = p.respQueue ∧ (PortLawful p → PortLawful q)

theorem PortCalm.refl (p : LinkPort) : PortCalm p p := ⟨rfl, rfl, id⟩
theorem PortCalm.trans {p q r : LinkPort} (h : PortCalm p q) (k : PortCalm q r) : PortCalm p r :=
  ⟨k.1.trans h.1, k.2.1.trans h.2.1, fun e => k.2.2 (h.2.2 e)⟩
theorem PortCalm.of_eq {p q : LinkPort} (h : q = p) : PortCalm p q := h ▸ PortCalm.refl q
theorem PortCalm.counters (p : LinkPort) (c : LinkCounters) : PortCalm p { p with counters := c } := ⟨rfl, rfl, id⟩
theorem PortCalm.inFlight_none (p : LinkPort) : PortCalm p { p with inFlight := none } := by
  refine ⟨rfl, rfl, ?_⟩
  rintro ⟨hr, hq, ht, hb⟩
  refine ⟨hr, fun hs => ?_, ht, hb⟩
  obtain ⟨h1, h2, h3, h4, h5, -, h7⟩ := hq hs
  exact ⟨h1, h2, h3, h4, h5, rfl, h7⟩

/-- Pending flags that are set on links in UP only are no matter of the laws. -/
theorem PortCalm.of_same {p q : LinkPort} (same : q.sameButPending p) (notUp : p.state ≠ .up → q = p) : PortCalm p q := by
  by_cases hu : p.state = .up
  · have items := same.1
    cases p; cases q
    simp only [LinkPort.mk.injEq] at items hu
    obtain ⟨rfl, rfl, rfl, rfl, rfl, rfl, rfl, rfl, rfl, rfl, rfl, rfl, -, -, rfl, rfl, rfl, rfl, rfl, rfl⟩ := items
    refine ⟨rfl, rfl, ?_⟩
    rintro ⟨hr, -, ht, hb⟩
    exact ⟨hr, fun hs => absurd hu hs, ht, hb⟩
  · exact .of_eq (notUp hu)

/-! ### Events that change no link's state -/

/-- From `s` to `t` no link changes its state or its responses, ports stay lawful, empty queues of FAULTED links stay empty, and what the agent
holds is kept. -/
structure Calm (s t : State) : Prop where
  ports : ∀ l, PortCalm (s.link l) (t.link l)
  queues : ∀ l k, (s.link l).state = .faulted → (s.queue (queueId l k)).entries = [] → (t.queue (queueId l k)).entries = []
  held : t.agent.held = s.agent.held

theorem Calm.refl (s : State) : Calm s s := ⟨fun _ => .refl _, fun _ _ _ => id, rfl⟩

theorem Calm.trans {s t u : State} (h : Calm s t) (k : Calm t u) : Calm s u where
  ports l := (h.ports l).trans (k.ports l)
  queues l c hf he := k.queues l c ((h.ports l).1.trans hf) (h.queues l c hf he)
  held := k.held.trans h.held

theorem Calm.of_eq {s t : State} (hl : t.links = s.links) (hq : t.queues = s.queues) (ha : t.agent = s.agent) : Calm s t where
  ports l := .of_eq (link_congr hl l)
  queues l k _ he := by rw [queue_congr hq]; exact he
  held := by rw [ha]

theorem Calm.of_same {s t : State} (same : ∀ k, (t.link k).sameButPending (s.link k)) (notUp : ∀ k, (s.link k).state ≠ .up → t.link k = s.link k)
    (hq : t.queues = s.queues) (ha : t.agent = s.agent) : Calm s t where
  ports l := .of_same (same l) (notUp l)
  queues l k _ he := by rw [queue_congr hq]; exact he
  held := by rw [ha]

/-- A calm event after an update of other items. -/
theorem Calm.after {s t u : State} (k : Calm t u) (hl : t.links = s.links) (hq : t.queues = s.queues) (ha : t.agent = s.agent) : Calm s u :=
  (Calm.of_eq hl hq ha).trans k

theorem modLink_calm (s : State) (l : Link) (f : LinkPort → LinkPort) (h : PortCalm (s.link l) (f (s.link l))) : Calm s (s.modLink l f) where
  ports k := by
    rw [link_modLink']
    split
    · next e => subst e; exact h
    · exact .refl _
  queues l k _ he := by rw [modLink_queue]; exact he
  held := rfl

theorem countLink_calm (s : State) (l : Link) (f : LinkCounters → LinkCounters) : Calm s (s.countLink l f) :=
  modLink_calm s l _ (.counters _ _)

/-- A queue may take any contents while its link is not FAULTED, and be emptied or counted at any time. -/
theorem setQueue_calm (s : State) (q : QueueId) (out : OutQueue)
    (h : (s.link (queueLink q)).state = .faulted → (s.queue q).entries = [] → out.entries = []) : Calm s (s.setQueue q out) where
  ports _ := .of_eq (by simp)
  queues l k hf he := by
    rw [queue_setQueue]
    split
    · next e => subst e; exact h (by simpa using hf) he
    · exact he
  held := rfl

theorem raise_calm (s : State) (f : AttnFlag) : Calm s (s.raise f) := .of_same (raise_same s f) (raise_notUp s f) (by simp) (by simp)
theorem oweFlowst_calm (s : State) : Calm s s.oweFlowst := .of_same (oweFlowst_same s) (oweFlowst_notUp s) (by simp) (by simp)
theorem reportPause_calm (s : State) : Calm s s.reportPause := .of_same (reportPause_same s) (reportPause_notUp s) (by simp) (by simp)
theorem linkChange_calm (s : State) (l : Link) (old : LinkState) : Calm s (s.linkChange l old) :=
  .of_same (linkChange_same s l old) (linkChange_notUp s l old) (by simp) (by simp)

theorem flushQueues_calm (s : State) (qs : List QueueId) (nd : qs.Nodup) : Calm s (s.flushQueues qs) where
  ports l := .of_same (flushQueues_same s qs l) (flushQueues_notUp s qs l)
  queues l k _ he := by
    rw [flushQueues_queue s qs nd]
    split
    · rfl
    · exact he
  held := by simp

/-! ### Tables, operations and time -/

theorem putEntry_calm (s : State) (b : Bank) (i : Nat) (e : EntryFields) (code : Byte) : Calm s (s.putEntry b i e code) :=
  .of_eq (by simp) (by simp) (by simp)
theorem writeEntry_calm (s : State) (b : Bank) (i : Nat) (e : EntryFields) : Calm s (s.writeEntry b i e) := putEntry_calm ..

theorem markCorrupt_calm (s : State) (t : Table) (b : Bank) (i : Nat) : Calm s (s.markCorrupt t b i) := by
  unfold State.markCorrupt
  exact (raise_calm _ _).after (by simp) (by simp) (by simp)

theorem verify_calm (s : State) (t : Table) (b : Bank) (i : Nat) : Calm s (s.verify t b i).2 := by
  unfold State.verify
  dsimp only
  split
  · exact .refl s
  · split
    · exact markCorrupt_calm s t b i
    · exact .refl s

theorem scrubVisit_calm (s : State) : Calm s s.scrubVisit := by
  unfold State.scrubVisit
  dsimp only
  exact (verify_calm _ _ _ _).after rfl rfl rfl

theorem endOp_calm (s : State) (progress : Nat) (w : Work) : Calm s (s.endOp progress w) := by
  unfold State.endOp
  exact (raise_calm _ _).after rfl rfl rfl
theorem continueOp_calm (s : State) (progress : Nat) (w : Work) : Calm s (s.continueOp progress w) := .of_eq (by simp) (by simp) (by simp)

theorem abortOp_calm (s : State) : Calm s s.abortOp := by
  unfold State.abortOp
  split
  · exact (raise_calm _ _).after rfl rfl rfl
  · exact (raise_calm _ _).after rfl rfl rfl
  · exact .refl s

theorem fillStep_calm (s : State) : Calm s s.fillStep := by
  unfold State.fillStep
  split
  · dsimp only
    split
    · exact (writeEntry_calm ..).trans (continueOp_calm ..)
    · exact (writeEntry_calm ..).trans (endOp_calm ..)
  · exact .refl s
theorem copyStep_calm (s : State) : Calm s s.copyStep := by
  unfold State.copyStep
  split
  · dsimp only
    split
    · exact (writeEntry_calm ..).trans (continueOp_calm ..)
    · exact (writeEntry_calm ..).trans (endOp_calm ..)
  · exact .refl s
theorem digestStep_calm (s : State) : Calm s s.digestStep := by
  unfold State.digestStep
  split
  · dsimp only
    split
    · exact continueOp_calm ..
    · exact endOp_calm ..
  · exact .refl s
theorem memtestStep_calm (s : State) (passes : Bool) : Calm s (s.memtestStep passes) := by
  unfold State.memtestStep
  split
  · dsimp only
    split
    · exact (continueOp_calm ..).after rfl rfl rfl
    · exact (endOp_calm ..).after rfl rfl rfl
  · exact .refl s

theorem pendAttention_calm (s : State) : Calm s s.pendAttention := by
  refine .of_same (fun k => ⟨by apply port_ext <;> simp, by simp, fun h => ?_⟩) (fun k h => by rw [link_pendAttention]; simp [h])
    (by simp) (by simp)
  rw [link_pendAttention]
  split
  · rfl
  · exact h

theorem attention_calm (s : State) (a : Attention) : Calm s { s with attn := a } := .of_eq rfl rfl rfl

theorem attentionExpiry_calm (s : State) : Calm s s.attentionExpiry := by
  unfold State.attentionExpiry
  split
  · exact (pendAttention_calm s).trans (attention_calm _ _)
  · exact .of_eq rfl rfl rfl

theorem tickRefresh_calm (s : State) : Calm s s.tickRefresh := by
  unfold State.tickRefresh
  split
  · exact (oweFlowst_calm _).after rfl rfl rfl
  · exact .of_eq rfl rfl rfl
theorem performSwap_calm (s : State) : Calm s s.performSwap := by
  unfold State.performSwap
  dsimp only
  exact (raise_calm _ _).after rfl rfl rfl
theorem epochChange_calm (s : State) : Calm s s.epochChange := by
  unfold State.epochChange
  dsimp only
  split
  · exact (tickRefresh_calm s).trans (performSwap_calm _)
  · exact tickRefresh_calm s

/-! ### Congestion -/

theorem visit_calm (s : State) (q : QueueId) : Calm s (s.visit q) := by
  have visited : Calm s (s.setQueue q ((s.queue q).visited s.params (queueClass q))) := setQueue_calm _ _ _ fun _ he => he
  unfold State.visit
  dsimp only
  split
  · exact visited.trans (reportPause_calm _)
  · exact visited
theorem monitorStep_calm (s : State) : Calm s s.monitorStep := by
  unfold State.monitorStep
  split
  · exact .of_eq rfl rfl rfl
  · exact (visit_calm _ _).after rfl rfl rfl

/-! ### Admission -/

theorem accepting_notFaulted {s : State} {l : Link} (h : s.accepting l = true) : (s.link l).state ≠ .faulted := by
  intro hf; simp [State.accepting, hf] at h

theorem enqueue_calm (s : State) (q : QueueId) (e : QueueEntry) (h : (s.link (queueLink q)).state ≠ .faulted) : Calm s (s.enqueue q e) :=
  setQueue_calm _ _ _ fun hf => absurd hf h

theorem countQueue_calm (s : State) (q : QueueId) (f : QueueCounters → QueueCounters) : Calm s (s.countQueue q f) :=
  setQueue_calm _ _ _ fun _ he => he

/-- A calm event for each element of a list, each in the state the ones before it leave. -/
theorem foldl_calm {α : Type} (f : State → α → State) (P : State → α → Prop) (step : ∀ u x, P u x → Calm u (f u x))
    (keep : ∀ u x y, P u x → P u y → P (f u x) y) (xs : List α) (s : State) (h : ∀ x ∈ xs, P s x) : Calm s (xs.foldl f s) := by
  induction xs generalizing s with
  | nil => exact .refl s
  | cons x xs ih =>
    have hx := h x (by simp)
    exact (step s x hx).trans (ih (f s x) fun y hy => keep s x y hx (h y (by simp [hy])))

theorem allocate_calm {s u : State} {cell : Cell} {copies h : Nat} (e : s.allocate cell copies = some (h, u)) : Calm s u := by
  unfold State.allocate at e
  split at e
  · cases e
  · simp only [Option.some.injEq, Prod.mk.injEq] at e
    obtain ⟨-, rfl⟩ := e
    split
    · exact (raise_calm _ _).after rfl rfl rfl
    · exact .of_eq rfl rfl rfl

theorem storeCell_calm (s : State) (cell : Cell) (cc : Sys2Proof.Class) (members : List Link)
    (h : ∀ l ∈ members, s.accepting l = true) : Calm s (s.storeCell cell cc members) := by
  unfold State.storeCell
  split
  · exact .refl s
  · next b stored e =>
    have alloc := allocate_calm e
    refine alloc.trans (foldl_calm _ (fun u l => (u.link l).state ≠ .faulted) (fun u l hl => enqueue_calm _ _ _ (by simpa using hl))
      (fun u x y _ hy => by simpa using hy) members stored fun l hl => ?_)
    rw [(alloc.ports l).1]
    exact accepting_notFaulted (h l hl)

theorem admitUnicast_calm (s : State) (ingress : Link) (cell : Cell) (l : Link) : Calm s (s.admitUnicast ingress cell l) := by
  unfold State.admitUnicast
  dsimp only
  split
  · exact countLink_calm ..
  · next ha =>
    split
    · exact countLink_calm ..
    · split
      · exact countQueue_calm ..
      · exact storeCell_calm _ _ _ _ (by simpa using ha)

theorem routeUnicast_calm (s : State) (ingress : Link) (cell : Cell) (d : Link) : Calm s (s.routeUnicast ingress cell d) := by
  unfold State.routeUnicast
  dsimp only
  split
  · exact (admitUnicast_calm ..).after (by simp) (by simp) (by simp)
  · split <;> exact countLink_calm ..

theorem unicast_calm (s : State) (ingress : Link) (cell : Cell) : Calm s (s.unicast ingress cell) := by
  unfold State.unicast
  split
  · dsimp only
    split
    · exact (verify_calm ..).trans (routeUnicast_calm ..)
    · exact (verify_calm ..).trans (countLink_calm ..)
  · exact countLink_calm ..

theorem decideMember_admitted {s : State} {ingress : Link} {suppress : Bool} {cc : Sys2Proof.Class} {mem : Link}
    (h : s.decideMember ingress suppress cc mem = .admitted) : s.accepting mem = true := by
  unfold State.decideMember at h
  split at h
  · cases h
  · split at h
    · cases h
    · next ha => simpa using ha

theorem countTailDrops_calm (s : State) (cc : Sys2Proof.Class) (mems : List Link) :
    Calm s (mems.foldl (fun acc mem => acc.countTailDrop mem cc) s) :=
  foldl_calm _ (fun _ _ => True) (fun _ _ _ => countQueue_calm ..) (fun _ _ _ _ _ => trivial) _ _ (fun _ _ => trivial)

theorem walkMembers_calm (s : State) (ingress : Link) (cell : Cell) (g : GroupFields) (cc : Sys2Proof.Class) :
    Calm s (s.walkMembers ingress cell g cc) := by
  have counted := fun f mems => (countLink_calm s ingress f).trans (countTailDrops_calm _ cc mems)
  unfold State.walkMembers
  dsimp only
  split
  · exact (counted ..).trans (countLink_calm ..)
  · refine (counted ..).trans (storeCell_calm _ _ _ _ fun l hl => ?_)
    have ha := decideMember_admitted (of_decide_eq_true (List.mem_filter.1 hl).2)
    unfold State.accepting at ha ⊢
    rwa [((counted _ _).ports l).1]

theorem offerMiss_calm (s : State) (group : Nat) (l : Link) : Calm s (s.offerMiss group l) := by
  unfold State.offerMiss
  split
  · exact (raise_calm _ _).after rfl rfl rfl
  · exact attention_calm _ _

theorem groupMiss_calm (s : State) (ingress : Link) (group : Nat) : Calm s (s.groupMiss ingress group) := by
  unfold State.groupMiss
  exact (countLink_calm s ingress _).trans (offerMiss_calm _ _ _)

theorem multicast_calm (s : State) (ingress : Link) (cell : Cell) : Calm s (s.multicast ingress cell) := by
  unfold State.multicast
  dsimp only
  split
  · split
    · exact (verify_calm ..).trans (countLink_calm ..)
    · exact (verify_calm ..).trans (walkMembers_calm ..)
  · exact (verify_calm ..).trans (groupMiss_calm ..)

theorem admitCell_calm (s : State) (ingress : Link) (cell : Cell) : Calm s (s.admitCell ingress cell) := by
  unfold State.admitCell
  split
  · exact countLink_calm ..
  · split
    · exact unicast_calm ..
    · exact multicast_calm ..

/-- A port that gives its oldest cell away stays lawful. -/
theorem PortCalm.rxBuf_tail {p : LinkPort} {cell : Cell} {rest : List Cell} (h : p.rxBuf = cell :: rest) : PortCalm p { p with rxBuf := rest } := by
  refine ⟨rfl, rfl, ?_⟩
  rintro ⟨hr, hq, ht, hb⟩
  refine ⟨?_, fun hs => ?_, ht, fun c hc => hb c (by rw [h]; exact .tail _ hc)⟩
  · obtain ⟨h1, h2, h3, h4, h5, h6, h7⟩ := hr
    exact ⟨h1, h2, h3, h4, h5, by simp [h] at h6 ⊢; omega, h7⟩
  · have := (hq hs).1
    simp [h] at this

theorem admission_calm (s : State) : Calm s s.admission := by
  unfold State.admission
  split
  · exact .refl s
  · split
    · exact .refl s
    · next l _ _ cell rest h =>
      have popped : Calm s (s.modLink l fun p => { p with rxBuf := rest }) := modLink_calm s _ _ (.rxBuf_tail h)
      exact popped.trans ((admitCell_calm _ l cell).after rfl rfl rfl)

/-! ### Events that change the state of one link -/

/-- From `s` to `t` link `l` takes another state by the rules: its port and its queues are what the new state asks, nothing stays held for a link that
leaves UP, the change is flagged (R14), and it is one of R6, R9, R12, R18 and R21; the other links are as after a calm event. -/
structure Moves (s t : State) (l : Link) : Prop where
  others : ∀ k, k ≠ l → PortCalm (s.link k) (t.link k)
  own : PortLawful (s.link l) → PortLawful (t.link l)
  queues : ∀ k c, k ≠ l → (s.link k).state = .faulted → (s.queue (queueId k c)).entries = [] → (t.queue (queueId k c)).entries = []
  emptied : (t.link l).state = .faulted → ∀ c, (t.queue (queueId l c)).entries = []
  held : (t.agent.held = s.agent.held ∧ (s.link l).state ≠ .up) ∨ ∀ r, t.agent.held = some r → s.agent.held = some r ∧ r.link ≠ l
  flag : FlagSet.has t.attn.flags .linkChange = true
  listed : LinkSet.has t.attn.links l = true
  entersUp : (t.link l).state = .up → (s.link l).state = .training
  leavesDisabled : (s.link l).state = .disabled → (t.link l).state = .training

theorem Calm.moves {s u t : State} {l : Link} (h : Calm s u) (k : Moves u t l) : Moves s t l where
  others j hj := (h.ports j).trans (k.others j hj)
  own e := k.own ((h.ports l).2.2 e)
  queues j c hj hf he := k.queues j c hj ((h.ports j).1.trans hf) (h.queues j c hf he)
  emptied := k.emptied
  held := by rw [← h.held, ← (h.ports l).1]; exact k.held
  flag := k.flag
  listed := k.listed
  entersUp e := (h.ports l).1 ▸ k.entersUp e
  leavesDisabled e := k.leavesDisabled ((h.ports l).1.trans e)

/-- What an event of the data path, of the links or of a request does to the links. -/
def Outcome (s t : State) : Prop := Calm s t ∨ ∃ l, Moves s t l

theorem Calm.outcome {s t : State} (h : Calm s t) : Outcome s t := .inl h
theorem Moves.outcome {s t : State} {l : Link} (h : Moves s t l) : Outcome s t := .inr ⟨l, h⟩
theorem Calm.then {s u t : State} (h : Calm s u) (k : Outcome u t) : Outcome s t := by
  obtain k | ⟨l, k⟩ := k
  · exact .inl (h.trans k)
  · exact .inr ⟨l, h.moves k⟩

/-- The change of one link as R14 has it flagged and as the rules allow it. -/
def ChangeByRule (s t : State) (l : Link) : Prop :=
  FlagSet.has t.attn.flags .linkChange = true ∧ LinkSet.has t.attn.links l = true ∧
  ((t.link l).state = .up → (s.link l).state = .training) ∧ ((s.link l).state = .disabled → (t.link l).state = .training)

/-- What every event but the edges of RST_N does: it keeps the laws of the link ports, and changes links by the rules only. -/
def LinksStep (s t : State) : Prop :=
  (s.params.inRange → s.linksLawful → t.linksLawful) ∧ ∀ l, (t.link l).state ≠ (s.link l).state → ChangeByRule s t l

theorem Calm.linksLawful {s t : State} (h : Calm s t) (hs : s.linksLawful) : t.linksLawful := by
  rw [linksLawful_iff] at hs ⊢
  obtain ⟨hp, hf, hh⟩ := hs
  refine ⟨fun l => (h.ports l).2.2 (hp l), fun l hl k => ?_, fun l record e => ?_⟩
  · rw [(h.ports l).1] at hl
    exact h.queues l k hl (hf l hl k)
  · rw [(h.ports l).1, (h.ports l).2.1]
    exact hh l record (h.held ▸ e)

theorem Moves.linksLawful {s t : State} {l : Link} (h : Moves s t l) (hs : s.linksLawful) : t.linksLawful := by
  rw [linksLawful_iff] at hs ⊢
  obtain ⟨hp, hf, hh⟩ := hs
  refine ⟨fun k => ?_, fun k hk c => ?_, fun k record e => ?_⟩
  all_goals by_cases hkl : k = l
  · subst hkl; exact h.own (hp k)
  · exact (h.others k hkl).2.2 (hp k)
  · subst hkl; exact h.emptied hk c
  · rw [(h.others k hkl).1] at hk
    exact h.queues k c hkl hk (hf k hk c)
  · subst hkl
    obtain ⟨same, notUp⟩ | filtered := h.held
    · exact absurd (hh k record (same ▸ e)).1 notUp
    · exact absurd rfl (filtered _ e).2
  · rw [(h.others k hkl).1, (h.others k hkl).2.1]
    obtain ⟨same, -⟩ | filtered := h.held
    · exact hh k record (same ▸ e)
    · exact hh k record (filtered _ e).1

theorem Outcome.linksStep {s t : State} (h : Outcome s t) : LinksStep s t := by
  obtain h | ⟨l, h⟩ := h
  · exact ⟨fun _ => h.linksLawful, fun k hk => absurd (h.ports k).1 hk⟩
  · refine ⟨fun _ => h.linksLawful, fun k hk => ?_⟩
    by_cases hkl : k = l
    · subst hkl; exact ⟨h.flag, h.listed, h.entersUp, h.leavesDisabled⟩
    · exact absurd (h.others k hkl).1 hk

theorem Outcome.held_none {s t : State} (h : Outcome s t) (hs : s.agent.held = none) : t.agent.held = none := by
  obtain h | ⟨l, h⟩ := h
  · rw [h.held, hs]
  · obtain ⟨same, -⟩ | filtered := h.held
    · rw [same, hs]
    · cases ht : t.agent.held with
      | none => rfl
      | some r => have := (filtered r ht).1; rw [hs] at this; cases this

/-! ### Entry into FAULTED, DISABLED, TRAINING and UP -/

/-- The state of fault entry before its queues are flushed and the change is told. -/
def faultedQuiet (s : State) (l : Link) (cause : FaultCause) : State :=
  ((s.abortInFlight l).modLink l fun p =>
    { p with state := .faulted, farGap := 0, retrainCount := min Config.retrainMax (p.retrainCount + 1), cause := cause, window := .idle,
             holdOff := .running s.params.holdOff }).quiet l s.idleSending

theorem enterFaulted_eq (s : State) (l : Link) (cause : FaultCause) :
    s.enterFaulted l cause = ((faultedQuiet s l cause).flushQueues (linkQueues l)).linkChange l (s.link l).state := rfl

theorem faultedQuiet_other (s : State) (l k : Link) (cause : FaultCause) (h : k ≠ l) : (faultedQuiet s l cause).link k = s.link k := by
  unfold faultedQuiet
  rw [quiet_link, if_neg h, link_modLink', if_neg h, abortInFlight_link, if_neg h]

/-- What the agent holds once nothing is held for link `l` (R139). -/
def heldElsewhere (s : State) (l : Link) : Option Carried := s.agent.held.filter fun c => decide (c.link ≠ l)

theorem heldElsewhere_some {s : State} {l : Link} {r : Carried} (h : heldElsewhere s l = some r) : s.agent.held = some r ∧ r.link ≠ l := by
  obtain ⟨held, other⟩ := Option.filter_eq_some_iff.1 h
  exact ⟨held, of_decide_eq_true other⟩

theorem quiet_heldElsewhere (s : State) (l : Link) (next : Sending) : (s.quiet l next).agent.held = heldElsewhere s l := rfl

theorem enterFaulted_held (s : State) (l : Link) (cause : FaultCause) : (s.enterFaulted l cause).agent.held = heldElsewhere s l := by
  rw [enterFaulted_eq, linkChange_agent, flushQueues_agent]
  unfold faultedQuiet
  rw [quiet_heldElsewhere]
  simp [heldElsewhere]

/-- A queue flushed holds no entry. -/
theorem queueFlushed_entries {s t : State} {q : QueueId} (h : s.queueFlushed t q) : (t.queue q).entries = [] := by
  unfold State.queueFlushed at h; rw [h]

theorem enterFaulted_moves (s : State) (l : Link) (cause : FaultCause) (h : (s.link l).state ≠ .disabled) : Moves s (s.enterFaulted l cause) l := by
  obtain ⟨own, flushed, -, -, -, -, -, otherQueues, -, -, -⟩ := enterFaulted_spec s l cause
  refine ⟨fun k hk => ?_, fun hp => ?_, fun k c hk _ he => ?_, fun _ c => queueFlushed_entries (flushed c),
    .inr fun r e => heldElsewhere_some (enterFaulted_held s l cause ▸ e), ?_, ?_, ?_,
    fun e => absurd e h⟩
  · rw [← faultedQuiet_other s l k cause hk, enterFaulted_eq]
    exact ((flushQueues_calm _ _ (linkQueues_nodup l)).trans (linkChange_calm _ _ _)).ports k
  · obtain ⟨hr, -, -, -⟩ := hp
    obtain ⟨htc, -, hb, -, -, -, -, hg, hw⟩ := hr
    rw [own]
    refine ⟨⟨htc, by simp, hb, by simp, by simp, by simp, by simp, hg, hw⟩, fun _ => by simp, by simp [LinkPort.timersLawful],
      by simp [LinkPort.buffersData]⟩
  · rw [otherQueues _ (by simpa using hk)]; exact he
  · rw [enterFaulted_eq]; exact linkChange_flag _ _ _
  · rw [enterFaulted_eq]; exact linkChange_links _ _ _
  · rw [own]; simp

/-- The state of an entry into DISABLED before the change is told. -/
def disabledQuiet (s : State) (l : Link) : State :=
  (s.modLink l fun p => { p with state := .disabled, window := .idle, holdOff := .idle }).quiet l .nothing

theorem enterDisabled_eq (s : State) (l : Link) : s.enterDisabled l = (disabledQuiet s l).linkChange l (s.link l).state := rfl

theorem disabledQuiet_other (s : State) (l k : Link) (h : k ≠ l) : (disabledQuiet s l).link k = s.link k := by
  unfold disabledQuiet
  rw [quiet_link, if_neg h, link_modLink', if_neg h]

theorem enterDisabled_held (s : State) (l : Link) : (s.enterDisabled l).agent.held = heldElsewhere s l := by
  rw [enterDisabled_eq, linkChange_agent]
  rfl

/-- R18: a link without a cell in flight enters DISABLED. -/
theorem enterDisabled_moves (s : State) (l : Link) (h : (s.link l).state ≠ .disabled) (hi : (s.link l).state = .up → (s.link l).inFlight = none) :
    Moves s (s.enterDisabled l) l := by
  obtain ⟨own, queues, -⟩ := enterDisabled_spec s l
  refine ⟨fun k hk => ?_, fun hp => ?_, fun k c _ _ he => by rw [queue_congr queues]; exact he, by rw [own]; simp,
    .inr fun r e => heldElsewhere_some (enterDisabled_held s l ▸ e), ?_, ?_, ?_,
    fun e => absurd e h⟩
  · rw [← disabledQuiet_other s l k hk, enterDisabled_eq]
    exact (linkChange_calm _ _ _).ports k
  · obtain ⟨hr, hq, -, -⟩ := hp
    obtain ⟨htc, -, hb, hrc, hfg, -, -, hg, hw⟩ := hr
    have hfl : (s.link l).inFlight = none := by
      by_cases hu : (s.link l).state = .up
      · exact hi hu
      · exact (hq hu).2.2.2.2.2.1
    rw [own]
    exact ⟨⟨htc, by simp, hb, hrc, hfg, by simp, by simp, hg, hw⟩, fun _ => by simp [hfl], by simp [LinkPort.timersLawful],
      by simp [LinkPort.buffersData]⟩
  · rw [enterDisabled_eq]; exact linkChange_flag _ _ _
  · rw [enterDisabled_eq]; exact linkChange_links _ _ _
  · rw [own]; simp

/-- The port of a link that has entered TRAINING without anything received, queued, pending or in flight is lawful. -/
theorem portLawful_training {p q : LinkPort} (hp : p.inRange) (hq : q.rxBuf = [] ∧ q.respQueue = [] ∧ q.pendFlowst = false ∧ q.pendAttn = false ∧
      q.disablePending = false ∧ q.inFlight = none ∧ q.keepalive = .idle)
    (state : q.state = .training) (count : q.trainCount = 0) (holdOff : q.holdOff = .idle) (gap : q.farGap ≤ p.farGap)
    (same : q.budget = p.budget ∧ q.retrainCount ≤ p.retrainCount ∧ q.gapCount = p.gapCount ∧ q.wrrCount = p.wrrCount) : PortLawful q := by
  obtain ⟨-, -, hb, hrc, hfg, -, -, hg, hw⟩ := hp
  obtain ⟨sb, sr, sg, sw⟩ := same
  refine ⟨⟨by omega, by omega, by omega, by omega, by omega, by simp [hq.1], by simp [hq.2.1], by omega, by omega⟩, fun _ => hq, ?_, ?_⟩
  · exact ⟨fun _ => state, fun h => absurd holdOff h⟩
  · simp [LinkPort.buffersData, hq.1]

theorem enterTraining_other (s : State) (l k : Link) (old : LinkState) (h : k ≠ l) : PortCalm (s.link k) ((s.enterTraining l old).link k) := by
  unfold State.enterTraining
  refine PortCalm.trans (.of_eq ?_) ((linkChange_calm _ l old).ports k)
  rw [link_modLink', if_neg h]

/-- R6: a link outside UP enters TRAINING. -/
theorem enterTraining_moves (s : State) (l : Link) (old : LinkState) (h : (s.link l).state ≠ .up) : Moves s (s.enterTraining l old) l := by
  obtain ⟨own, -⟩ := enterTraining_spec s l old
  refine ⟨fun k hk => enterTraining_other s l k old hk, fun hp => ?_, fun k c _ _ he => by rw [enterTraining_queue]; exact he, by rw [own]; simp,
    .inl ⟨by rw [enterTraining_agent], h⟩, linkChange_flag _ _ _, linkChange_links _ _ _, by rw [own]; simp, by rw [own]; simp⟩
  obtain ⟨hr, hq, -, -⟩ := hp
  rw [own]
  exact portLawful_training hr (hq h) rfl rfl rfl le_rfl ⟨rfl, le_rfl, rfl, rfl⟩

theorem enterUp_other (s : State) (l k : Link) (h : k ≠ l) : PortCalm (s.link k) ((s.enterUp l).link k) := by
  unfold State.enterUp
  refine PortCalm.trans (.of_eq ?_) ((linkChange_calm _ l _).ports k)
  rw [link_modLink', if_neg h]

/-! ### Retrain -/

/-- The state of a Retrain once the link has left its state and been silenced, before its queues are flushed. -/
def retrainQuiet (s : State) (l : Link) : State :=
  ((s.abortInFlight l).modLink l fun p => { p with state := .training, farGap := 0 }).quiet l s.idleSending

/-- The state of a Retrain before the link enters TRAINING. -/
def retrainFlushed (s : State) (l : Link) : State := (retrainQuiet s l).flushQueues (linkQueues l)

theorem retrainLink_eq (s : State) (l : Link) : s.retrainLink l = (retrainFlushed s l).enterTraining l (s.link l).state := rfl

theorem retrainQuiet_link (s : State) (l k : Link) : (retrainQuiet s l).link k = if k = l then
    { s.link l with
      state := .training, disablePending := false, keepalive := .idle, farGap := 0, rxBuf := [], respQueue := [], pendFlowst := false,
      pendAttn := false, inFlight := none, sending := s.idleSending,
      counters := { (s.link l).counters with
        overruns := bump (s.link l).counters.overruns (s.link l).rxBuf.length,
        aborted := if (s.link l).inFlight.isSome = true then bump (s.link l).counters.aborted 1 else (s.link l).counters.aborted } }
    else s.link k := by
  unfold retrainQuiet
  rw [quiet_link, link_modLink', link_modLink', abortInFlight_link, abortInFlight_link]
  by_cases h : k = l
  · simp only [h, if_true]
  · simp only [h, if_false]

@[simp] theorem retrainQuiet_queue (s : State) (l : Link) (q : QueueId) : (retrainQuiet s l).queue q = s.queue q := by simp [retrainQuiet]
@[simp] theorem retrainQuiet_tables (s : State) (l : Link) : (retrainQuiet s l).tables = s.tables := by simp [retrainQuiet]
@[simp] theorem retrainQuiet_params (s : State) (l : Link) : (retrainQuiet s l).params = s.params := by simp [retrainQuiet]
@[simp] theorem retrainQuiet_flow (s : State) (l : Link) : (retrainQuiet s l).flow = s.flow := by simp [retrainQuiet]
@[simp] theorem retrainQuiet_straps (s : State) (l : Link) : (retrainQuiet s l).straps = s.straps := by simp [retrainQuiet]
@[simp] theorem retrainQuiet_attn (s : State) (l : Link) : (retrainQuiet s l).attn = s.attn := by simp [retrainQuiet]

theorem retrainQuiet_pool (s : State) (l : Link) : (retrainQuiet s l).pool = s.poolReleasing (s.link l).inFlight.toList := by
  simp [retrainQuiet, abortInFlight_pool]

theorem retrainQuiet_globals (s : State) (l : Link) :
    (retrainQuiet s l).globals = { s.globals with discarded := bump s.globals.discarded (s.responsesOn l) } := by
  unfold retrainQuiet
  rw [quiet_globals, lostResponses_eq]
  unfold State.responsesOn
  simp [abortInFlight_link]

theorem retrainQuiet_held (s : State) (l : Link) : (retrainQuiet s l).agent.held = heldElsewhere s l := by
  unfold retrainQuiet
  rw [quiet_heldElsewhere]
  simp [heldElsewhere]

/-- R21: what a Retrain leaves, the actions of fault entry (R12) among it. -/
theorem retrainLink_link (s : State) (l : Link) (h : (s.link l).state = .up ∨ (s.link l).state = .faulted) :
    (s.retrainLink l).link l = { s.link l with
      state := .training, disablePending := false, trainCount := 0, window := .running 10000, keepalive := .idle, holdOff := .idle, farGap := 0,
      rxBuf := [], respQueue := [], pendFlowst := false, pendAttn := false, inFlight := none, sending := .cell .idle (idleCell s.straps.plane),
      counters := { (s.link l).counters with
        overruns := min ((s.link l).counters.overruns + (s.link l).rxBuf.length) 4294967295
        aborted := if (s.link l).inFlight.isSome = true then min ((s.link l).counters.aborted + 1) 4294967295 else (s.link l).counters.aborted
        retrains := min ((s.link l).counters.retrains + 1) 4294967295 } } := by
  have flushed : (retrainFlushed s l).link l = (retrainQuiet s l).link l := flushQueues_notUp _ _ _ (by simp [retrainQuiet_link])
  rw [retrainLink_eq, (enterTraining_spec _ _ _).1, flushed, retrainQuiet_link, if_pos rfl, if_pos h]
  simp [retrainFlushed, bump, Config.counterMax]

theorem retrainLink_other (s : State) (l k : Link) (h : k ≠ l) :
    ((s.retrainLink l).link k).sameButPending (s.link k) ∧ PortCalm (s.link k) ((s.retrainLink l).link k) := by
  have quiet : (retrainQuiet s l).link k = s.link k := by rw [retrainQuiet_link, if_neg h]
  have training := (enterTraining_spec (retrainFlushed s l) l (s.link l).state).2.1 k h
  rw [retrainLink_eq, ← quiet]
  exact ⟨sameButPending_trans training (flushQueues_same _ _ k),
    ((flushQueues_calm _ _ (linkQueues_nodup l)).ports k).trans (enterTraining_other _ l k _ h)⟩

theorem retrainLink_queue (s : State) (l : Link) (q : QueueId) :
    (s.retrainLink l).queue q = if queueLink q = l then (s.queue q).flushed else s.queue q := by
  rw [retrainLink_eq, enterTraining_queue]
  unfold retrainFlushed
  rw [flushQueues_queue _ _ (linkQueues_nodup l), retrainQuiet_queue]
  simp only [mem_linkQueues]

theorem retrainLink_pool (s : State) (l : Link) : (s.retrainLink l).pool = s.poolReleasing (s.heldHandles l) := by
  rw [retrainLink_eq, enterTraining_pool]
  unfold retrainFlushed
  rw [flushQueues_pool _ _ (linkQueues_nodup l)]
  unfold State.poolReleasing State.heldHandles
  rw [List.foldl_append, retrainQuiet_params, retrainQuiet_pool]
  simp only [retrainQuiet_queue]
  rfl

theorem retrainLink_globals (s : State) (l : Link) : (s.retrainLink l).globals =
    { s.globals with discarded := min (s.globals.discarded + s.responsesOn l) 4294967295, failOvers := (s.retrainLink l).globals.failOvers } := by
  have flushed : (retrainFlushed s l).globals = { s.globals with discarded := bump s.globals.discarded (s.responsesOn l) } := by
    unfold retrainFlushed
    rw [flushQueues_globals, retrainQuiet_globals]
  have training := (enterTraining_spec (retrainFlushed s l) l (s.link l).state).2.2.2.2.2
  rw [flushed, ← retrainLink_eq] at training
  exact training

theorem retrainLink_held (s : State) (l : Link) : (s.retrainLink l).agent.held = heldElsewhere s l := by
  rw [retrainLink_eq, enterTraining_agent]
  unfold retrainFlushed
  rw [flushQueues_agent, retrainQuiet_held]

theorem retrainLink_flushReported (s : State) (l k : Link) (h : k ≠ l) : s.flushReported (s.anyPaused l) (s.retrainLink l) k := by
  have report := flushQueues_flushReported (retrainQuiet s l) (linkQueues l) k
  simp only [retrainQuiet_queue, ← anyPaused_eq] at report
  refine flushReported_congr report (by simp) (by simp) (by rw [retrainQuiet_link, if_neg h]) ?_ ?_
  · rw [retrainLink_eq, enterTraining_flow]; rfl
  · rw [retrainLink_eq]
    have calm : (((retrainFlushed s l).enterTraining l (s.link l).state).link k).pendFlowst = ((retrainFlushed s l).link k).pendFlowst := by
      unfold State.enterTraining
      rw [linkChange_pendFlowst, link_modLink', if_neg h]
    rw [calm]; rfl

theorem retrainLink_kept (s : State) (l : Link) : s.banksKept (s.retrainLink l) ∧ s.recordsKept (s.retrainLink l) ∧ s.restKept (s.retrainLink l) := by
  obtain ⟨-, -, banks, records, -, -⟩ := enterTraining_spec (retrainFlushed s l) l (s.link l).state
  rw [← retrainLink_eq] at banks records
  refine ⟨?_, ?_, ?_⟩
  · simpa [State.banksKept, retrainFlushed] using banks
  · simpa [State.recordsKept, retrainFlushed] using records
  · have agent : (s.retrainLink l).agent.queue = s.agent.queue ∧ (s.retrainLink l).agent.permitted = s.agent.permitted := by
      rw [retrainLink_eq, enterTraining_agent]
      unfold retrainFlushed retrainQuiet
      rw [flushQueues_agent, (quiet_agent _ _ _).1, (quiet_agent _ _ _).2]
      simp
    simp [State.restKept, agent]

theorem retrainLink_moves (s : State) (l : Link) (h : (s.link l).state = .up ∨ (s.link l).state = .faulted) : Moves s (s.retrainLink l) l := by
  have own := retrainLink_link s l h
  refine ⟨fun k hk => (retrainLink_other s l k hk).2, fun hp => ?_, fun k c hk _ he => ?_, by rw [own]; simp, .inr fun r e => heldElsewhere_some (retrainLink_held s l ▸ e),
    linkChange_flag _ _ _, linkChange_links _ _ _, by rw [own]; simp, by rw [own]; simp⟩
  · rw [own]
    exact portLawful_training hp.1 ⟨rfl, rfl, rfl, rfl, rfl, rfl, rfl⟩ rfl rfl rfl (Nat.zero_le _) ⟨rfl, le_rfl, rfl, rfl⟩
  · rw [retrainLink_queue, if_neg (by simpa using hk)]; exact he

/-! ### Arrivals -/

theorem PortCalm.farGap (p : LinkPort) {g : Nat} (h : g ≤ 15) : PortCalm p { p with farGap := g } := by
  refine ⟨rfl, rfl, ?_⟩
  rintro ⟨⟨h1, h2, h3, h4, -, h6⟩, hq, ht, hb⟩
  exact ⟨⟨h1, h2, h3, h4, h, h6⟩, hq, ht, hb⟩
theorem PortCalm.trainCount (p : LinkPort) {n : Nat} (h : n < 64) : PortCalm p { p with trainCount := n } := by
  refine ⟨rfl, rfl, ?_⟩
  rintro ⟨⟨-, -, h3⟩, hq, ht, hb⟩
  exact ⟨⟨h.le, fun _ => h, h3⟩, hq, ht, hb⟩
theorem PortCalm.budget (p : LinkPort) {n : Nat} (h : p.budget ≤ 65535 → n ≤ 65535) : PortCalm p { p with budget := n } := by
  refine ⟨rfl, rfl, ?_⟩
  rintro ⟨⟨h1, h2, h3, h4⟩, hq, ht, hb⟩
  exact ⟨⟨h1, h2, h h3, h4⟩, hq, ht, hb⟩
theorem PortCalm.keepalive (p : LinkPort) (t : Timer) (h : p.state = .up) : PortCalm p { p with keepalive := t } := by
  refine ⟨rfl, rfl, ?_⟩
  rintro ⟨hr, -, ht, hb⟩
  exact ⟨hr, fun hn => absurd h hn, ht, hb⟩
theorem PortCalm.paced (p : LinkPort) {g : Nat} (t : Timer) (h : p.state = .up) (hg : g ≤ 15) : PortCalm p { p with farGap := g, keepalive := t } :=
  (PortCalm.farGap p hg).trans (.keepalive { p with farGap := g } t h)
theorem PortCalm.rxBuf (p : LinkPort) (cell : Cell) (h : p.state = .up) (room : p.rxBuf.length < 4)
    (kind : cellKind cell = some .ucast ∨ cellKind cell = some .mcast) : PortCalm p { p with rxBuf := p.rxBuf ++ [cell] } := by
  refine ⟨rfl, rfl, ?_⟩
  rintro ⟨⟨h1, h2, h3, h4, h5, -, h7⟩, -, ht, hb⟩
  refine ⟨⟨h1, h2, h3, h4, h5, by simp; omega, h7⟩, fun hn => absurd h hn, ht, fun c hc => ?_⟩
  obtain hc | hc := List.mem_append.1 hc
  · exact hb c hc
  · rw [List.mem_singleton.1 hc]; exact kind

theorem cellGap_le (cell : Cell) : cellGap cell ≤ 15 := by
  unfold cellGap
  have := (cell[1].extractLsb' 0 4).isLt
  omega

/-- A port update of a link is followed by what the state with it does. -/
theorem modLink_outcome {s t : State} {l : Link} {f : LinkPort → LinkPort} (h : PortCalm (s.link l) (f (s.link l)))
    (k : Outcome (s.modLink l f) t) : Outcome s t := (modLink_calm s l f h).then k

/-- R11, R12. -/
theorem badCell_outcome (s : State) (l : Link) (h : (s.link l).state = .up) : Outcome s (s.badCell l) := by
  have charge : PortCalm (s.link l) { s.link l with budget := min Config.budgetMax ((s.link l).budget + Config.budgetStep) } :=
    .budget _ fun _ => Nat.min_le_left _ _
  unfold State.badCell
  dsimp only
  split
  · exact modLink_outcome charge (enterFaulted_moves _ _ _ (by simp [h])).outcome
  · exact (modLink_calm s l _ charge).outcome

/-- R7, R9: the IDLE that ends training takes a lawful link to UP. -/
theorem trainedUp_moves (s : State) (l : Link) (h : (s.link l).state = .training) :
    Moves s ((s.modLink l fun p => { p with trainCount := p.trainCount + 1 }).enterUp l) l := by
  set u := s.modLink l fun p => { p with trainCount := p.trainCount + 1 } with hu
  have ul : u.link l = { s.link l with trainCount := (s.link l).trainCount + 1 } := link_modLink_same _ _ _
  obtain ⟨own, -⟩ := enterUp_spec u l
  have up : ((u.enterUp l).link l).state = .up := congrArg LinkPort.state own.1
  refine ⟨fun k hk => ?_, fun hp => ?_, fun k c _ _ he => by simpa [hu] using he, by simp [up], .inl ⟨by simp [hu], by simp [h]⟩,
    linkChange_flag _ _ _, linkChange_links _ _ _, fun _ => h, by simp [h]⟩
  · refine PortCalm.trans (.of_eq ?_) (enterUp_other u l k hk)
    rw [hu, link_modLink', if_neg hk]
  · obtain ⟨⟨-, htc, -, -, hfg, hrx, hrq, -, hw⟩, hq, ht, hb⟩ := hp
    refine (PortCalm.of_same own (by simp)).2.2 ?_
    rw [ul]
    have := htc h
    refine ⟨⟨by simp; omega, by simp, by simp, by simp, hfg, hrx, hrq, by simp, hw⟩, by simp [LinkPort.quietOutsideUp], ?_, hb⟩
    exact ⟨by simp, fun hn => by have := ht.2 hn; rw [h] at this; cases this⟩

theorem train_outcome (s : State) (l : Link) (kind : CellKind) (h : (s.link l).state = .training) : Outcome s (s.train l kind) := by
  unfold State.train
  dsimp only
  split
  · split
    · exact (trainedUp_moves s l h).outcome
    · next below =>
      refine (modLink_calm s l _ (.trainCount _ ?_)).outcome
      have : (s.link l).trainCount < 63 := by simpa [Config.trainingTarget] using below
      omega
  · exact (modLink_calm s l _ (.trainCount _ (by simp))).outcome

theorem receiveData_calm (s : State) (l : Link) (cell : Cell) (h : (s.link l).state = .up)
    (kind : cellKind cell = some .ucast ∨ cellKind cell = some .mcast) : Calm s (s.receiveData l cell) := by
  unfold State.receiveData
  split
  · next room => exact modLink_calm s l _ (.rxBuf _ cell h room kind)
  · exact countLink_calm _ _ _

theorem arriveRequest_calm (s : State) (l : Link) (cell : Cell) : Calm s (s.arriveRequest l cell) := by
  unfold State.arriveRequest
  split
  · exact .of_eq (by simp) (by simp) (by simp)
  · split
    · exact (raise_calm _ _).after (by simp) (by simp) (by simp)
    · exact ⟨fun _ => .refl _, fun _ _ _ => id, rfl⟩

theorem arriveSync_calm (s : State) (l : Link) (n : Epoch) : Calm s (s.arriveSync l n) := by
  unfold State.arriveSync
  split
  · exact .of_eq (by simp) (by simp) (by simp)
  · split
    · exact .of_eq (by simp) (by simp) (by simp)
    · dsimp only
      split
      · exact (epochChange_calm _).after (by simp) (by simp) (by simp)
      · exact ((raise_calm _ _).after (by simp) (by simp) (by simp)).trans (epochChange_calm _)

theorem deliver_calm (s : State) (l : Link) (kind : CellKind) (cell : Cell) (h : (s.link l).state = .up) (hk : cellKind cell = some kind) :
    Calm s (s.deliver l kind cell) := by
  cases kind with
  | ucast => exact receiveData_calm s l cell h (.inl hk)
  | mcast => exact receiveData_calm s l cell h (.inr hk)
  | mreq => exact arriveRequest_calm s l cell
  | sync => exact arriveSync_calm s l _
  | idle => exact .refl s
  | flowst | mrsp | attn => exact .of_eq rfl rfl rfl

theorem arriveGood_calm (s : State) (l : Link) (kind : CellKind) (cell : Cell) (h : (s.link l).state = .up) (hk : cellKind cell = some kind) :
    Calm s (s.arriveGood l kind cell) := by
  unfold State.arriveGood
  refine (modLink_calm s l _ ?_).trans (deliver_calm _ l kind cell (by simp [h]) hk)
  exact (PortCalm.budget _ (n := (s.link l).budget - 1) fun hb => by omega).trans (.counters _ _)

theorem arriveHeaderError_outcome (s : State) (l : Link) : Outcome s (s.arriveHeaderError l) := by
  unfold State.arriveHeaderError
  dsimp only
  split
  · exact ((countLink_calm s l _).trans (modLink_calm _ l _ (.trainCount _ (by simp)))).outcome
  · next h => exact (countLink_calm s l _).then (badCell_outcome _ l (by simp [link_countLink, h]))
  · exact (countLink_calm s l _).outcome
  · exact (Calm.refl s).outcome

theorem arriveGoodHeader_outcome (s : State) (l : Link) (kind : CellKind) (cell : Cell) (hk : cellKind cell = some kind) :
    Outcome s (s.arriveGoodHeader l kind cell) := by
  unfold State.arriveGoodHeader
  dsimp only
  split
  · next h =>
    refine (countLink_calm s l _).then (modLink_outcome (.farGap _ (cellGap_le cell)) (train_outcome _ l kind ?_))
    simp [link_countLink, h]
  · next h =>
    split
    · refine Calm.then ?_ (arriveGood_calm _ l kind cell (by simp [link_countLink, h]) hk).outcome
      exact (countLink_calm s l _).trans (modLink_calm _ l _ (.paced _ _ (by simp [link_countLink, h]) (cellGap_le cell)))
    · refine Calm.then ?_ (badCell_outcome _ l (by simp [link_countLink, h]))
      exact (countLink_calm s l _).trans (modLink_calm _ l _ (.paced _ _ (by simp [link_countLink, h]) (cellGap_le cell)))
  · exact (countLink_calm s l _).outcome
  · exact (Calm.refl s).outcome

theorem goodHeaderKind_kind {cell : Cell} {kind : CellKind} (h : goodHeaderKind cell = some kind) : cellKind cell = some kind := by
  unfold goodHeaderKind at h
  split at h
  · exact h
  · cases h

/-! ### The next cell -/

/-- No link changes its state. -/
def StatesKept (s t : State) : Prop := ∀ k, (t.link k).state = (s.link k).state

theorem StatesKept.linksStep {s t : State} (h : StatesKept s t) (lawful : s.params.inRange → s.linksLawful → t.linksLawful) : LinksStep s t :=
  ⟨lawful, fun l hl => absurd (h l) hl⟩

theorem Calm.statesKept {s t : State} (h : Calm s t) : StatesKept s t := fun l => (h.ports l).1
theorem StatesKept.trans {s t u : State} (h : StatesKept s t) (k : StatesKept t u) : StatesKept s u := fun l => (k l).trans (h l)

/-- A port update that keeps the link's state keeps every link's state. -/
theorem modLink_statesKept (s : State) (l : Link) (f : LinkPort → LinkPort) (h : ∀ p, (f p).state = p.state) : StatesKept s (s.modLink l f) := by
  intro k
  rw [link_modLink']
  split
  · next e => rw [e]; exact h _
  · rfl

theorem modLink_faultedEmpty {s : State} (l : Link) (f : LinkPort → LinkPort) (hf : FaultedEmpty s) (h : ∀ p, (f p).state = p.state) :
    FaultedEmpty (s.modLink l f) := by
  intro k hk c
  rw [modLink_statesKept s l f h k] at hk
  rw [modLink_queue]; exact hf k hk c

/-- A calm event that keeps the parameters, and then an event that keeps the laws. -/
theorem Calm.thenStep {s u t : State} (h : Calm s u) (hp : u.params = s.params) (k : LinksStep u t) : LinksStep s t := by
  refine ⟨fun hr hs => k.1 (by rwa [hp]) (h.linksLawful hs), fun l hl => ?_⟩
  have hu := (h.ports l).1
  obtain ⟨flag, listed, up, disabled⟩ := k.2 l (by rwa [hu])
  exact ⟨flag, listed, fun e => hu ▸ up e, fun e => disabled (hu.trans e)⟩

theorem PortCalm.sending (p : LinkPort) (cell : Sending) {n : Nat} (h : n ≤ 15) : PortCalm p { p with sending := cell, gapCount := n } := by
  refine ⟨rfl, rfl, ?_⟩
  rintro ⟨⟨h1, h2, h3, h4, h5, h6, h7, -, h9⟩, hq, ht, hb⟩
  exact ⟨⟨h1, h2, h3, h4, h5, h6, h7, h, h9⟩, hq, ht, hb⟩
theorem PortCalm.inFlight (p : LinkPort) (h : Option Handle) (up : p.state = .up) : PortCalm p { p with inFlight := h } := by
  refine ⟨rfl, rfl, ?_⟩
  rintro ⟨hr, -, ht, hb⟩
  exact ⟨hr, fun hn => absurd up hn, ht, hb⟩
theorem PortCalm.pendAttn_false (p : LinkPort) : PortCalm p { p with pendAttn := false } := by
  refine ⟨rfl, rfl, ?_⟩
  rintro ⟨hr, hq, ht, hb⟩
  refine ⟨hr, fun hn => ?_, ht, hb⟩
  obtain ⟨h1, h2, h3, -, h5⟩ := hq hn
  exact ⟨h1, h2, h3, rfl, h5⟩
theorem PortCalm.pendFlowst_false (p : LinkPort) : PortCalm p { p with pendFlowst := false } := by
  refine ⟨rfl, rfl, ?_⟩
  rintro ⟨hr, hq, ht, hb⟩
  refine ⟨hr, fun hn => ?_, ht, hb⟩
  obtain ⟨h1, h2, -, h4⟩ := hq hn
  exact ⟨h1, h2, rfl, h4⟩
theorem PortCalm.wrr (p : LinkPort) (k : WrrClass) {n : Nat} (h : p.wrrCount ≤ 64 → n ≤ 64) : PortCalm p { p with wrrClass := k, wrrCount := n } := by
  refine ⟨rfl, rfl, ?_⟩
  rintro ⟨⟨h1, h2, h3, h4, h5, h6, h7, h8, h9⟩, hq, ht, hb⟩
  exact ⟨⟨h1, h2, h3, h4, h5, h6, h7, h8, h h9⟩, hq, ht, hb⟩

theorem sendNonData_calm (s : State) (l : Link) (kind : SentKind) (bytes : Cell) : Calm s (s.sendNonData l kind bytes) :=
  modLink_calm s l _ (.sending _ _ (Nat.min_le_left _ _))
theorem sendAttn_calm (s : State) (l : Link) : Calm s (s.sendAttn l) :=
  (modLink_calm s l _ (.pendAttn_false _)).trans (sendNonData_calm _ _ _ _)
theorem sendFlowst_calm (s : State) (l : Link) : Calm s (s.sendFlowst l) :=
  (modLink_calm s l _ (.pendFlowst_false _)).trans (sendNonData_calm _ _ _ _)

theorem selectFrom_calm {s t : State} {l : Link} {c : Sys2Proof.Class} (up : (s.link l).state = .up) (h : s.selectFrom l c = .next t) : Calm s t := by
  unfold State.selectFrom at h
  split at h
  · cases h
  · split at h
    · cases h
    · dsimp only at h
      have := next_inj h
      subst this
      refine (setQueue_calm _ _ _ ?_).trans (modLink_calm _ l _ ?_)
      · rw [queueLink_queueId, up]; intro e; cases e
      · exact (PortCalm.sending _ _ (Nat.zero_le _)).trans (.inFlight _ _ (by simpa using up))

theorem weight_le {p : Params} (h : p.inRange) (k : WrrClass) : p.weight k ≤ 64 := by
  obtain ⟨-, -, -, -, weights, -⟩ := h
  exact (weights k).2

theorem wrrWalk_le {s : State} {l : Link} (h : s.params.inRange) : ∀ {n : Nat} {k : WrrClass} {r : Nat} {k' : WrrClass} {r' : Nat},
    r ≤ 64 → s.wrrWalk l n k r = some (k', r') → r' ≤ 64 := by
  intro n
  induction n with
  | zero =>
    intro k r k' r' hr e
    unfold State.wrrWalk at e
    split at e
    · cases e; omega
    · cases e
  | succ n ih =>
    intro k r k' r' hr e
    unfold State.wrrWalk at e
    split at e
    · cases e; omega
    · exact ih (weight_le h _) e

theorem sendData_calm {s t : State} {l : Link} (hp : s.params.inRange) (up : (s.link l).state = .up) (h : s.sendData l = .next t) : Calm s t := by
  unfold State.sendData at h
  split at h
  · exact selectFrom_calm up h
  · split at h
    · cases h
    · next e => exact (modLink_calm s l _ (.wrr _ _ fun hw => wrrWalk_le hp hw e)).trans (selectFrom_calm (by simpa using up) h)

theorem sendData_statesKept {s t : State} {l : Link} (up : (s.link l).state = .up) (h : s.sendData l = .next t) : StatesKept s t := by
  unfold State.sendData at h
  split at h
  · exact (selectFrom_calm up h).statesKept
  · split at h
    · cases h
    · refine StatesKept.trans ?_ (selectFrom_calm (by simpa using up) h).statesKept
      exact modLink_statesKept s l _ fun _ => rfl

theorem sendData_linksStep {s t : State} {l : Link} (up : (s.link l).state = .up) (h : s.sendData l = .next t) : LinksStep s t :=
  (sendData_statesKept up h).linksStep fun hp => (sendData_calm hp up h).linksLawful

/-- R84, R139: the oldest response leaves, and the one held for the link takes the place it leaves. -/
theorem placeHeld_linksLawful {s : State} {l : Link} {record : Payload} {rest : List Payload} (h : s.linksLawful)
    (up : (s.link l).state = .up) (queued : (s.link l).respQueue = record :: rest) :
    ((s.modLink l fun p => { p with respQueue := rest }).placeHeld l).linksLawful := by
  rw [linksLawful_iff] at h
  obtain ⟨hp, hf, hh⟩ := h
  obtain ⟨⟨h1, h2, h3, h4, h5, h6, h7, h8⟩, -, ht, hb⟩ := hp l
  have hlen : rest.length ≤ 1 := by rw [queued] at h7; simpa using h7
  have port : ∀ rs : List Payload, rs.length ≤ 2 → PortLawful { s.link l with respQueue := rs } := fun rs hrs =>
    ⟨⟨h1, h2, h3, h4, h5, h6, hrs, h8⟩, fun hn => absurd up hn, ht, hb⟩
  have ports : ∀ rs : List Payload, rs.length ≤ 2 → ∀ k, PortLawful ((s.modLink l fun p => { p with respQueue := rs }).link k) := by
    intro rs hrs k
    rw [link_modLink']
    split
    · exact port rs hrs
    · exact hp k
  have empty : ∀ rs : List Payload, FaultedEmpty (s.modLink l fun p => { p with respQueue := rs }) :=
    fun rs => modLink_faultedEmpty l _ hf fun _ => rfl
  unfold State.placeHeld
  split
  · next held =>
    rw [linksLawful_iff]
    exact ⟨ports rest (by omega), empty rest, fun k r e => by rw [held] at e; cases e⟩
  · next c held =>
    split
    · rw [linksLawful_iff, modLink_modLink]
      exact ⟨ports _ (by simp; omega), empty _, fun k r e => by cases e⟩
    · next other =>
      rw [linksLawful_iff]
      refine ⟨ports rest (by omega), empty rest, fun k r e => ?_⟩
      have hk : k ≠ l := by rintro rfl; rw [held] at e; cases e; exact other rfl
      rw [link_modLink_ne _ _ _ _ hk.symm]
      exact hh k r e

theorem placeHeld_statesKept (s : State) (l : Link) : StatesKept s (s.placeHeld l) := by
  unfold State.placeHeld
  split
  · exact fun _ => rfl
  · next c _ =>
    split
    · exact modLink_statesKept s l (fun p => { p with respQueue := p.respQueue ++ [c.record] }) fun _ => rfl
    · exact fun _ => rfl

theorem sendMrsp_linksStep {s : State} {l : Link} {record : Payload} {rest : List Payload} (up : (s.link l).state = .up)
    (queued : (s.link l).respQueue = record :: rest) : LinksStep s (s.sendMrsp l record rest) := by
  have sent := sendNonData_calm ((s.modLink l fun p => { p with respQueue := rest }).placeHeld l) l .mrsp (mrspCell s.straps.plane record)
  have kept := (modLink_statesKept s l (fun p => { p with respQueue := rest }) fun _ => rfl).trans (placeHeld_statesKept _ l)
  exact (kept.trans sent.statesKept).linksStep fun _ hs => sent.linksLawful (placeHeld_linksLawful hs up queued)

theorem chooseAfterAttn_linksStep {s t : State} {l : Link} (up : (s.link l).state = .up) (h : s.chooseAfterAttn l = .next t) : LinksStep s t := by
  unfold State.chooseAfterAttn at h
  split at h
  · have := next_inj h; subst this; exact (sendFlowst_calm s l).outcome.linksStep
  · split at h
    · exact sendData_linksStep up h
    · have := next_inj h; subst this; exact (sendNonData_calm s l _ _).outcome.linksStep

theorem chooseNext_linksStep {s t : State} {l : Link} (up : (s.link l).state = .up) (h : s.chooseNext l = .next t) : LinksStep s t := by
  unfold State.chooseNext at h
  split at h
  · next queued => have := next_inj h; subst this; exact sendMrsp_linksStep up queued
  · split at h
    · split at h
      · have := next_inj h; subst this; exact (sendAttn_calm s l).outcome.linksStep
      · exact (modLink_calm s l _ (.pendAttn_false _)).thenStep rfl (chooseAfterAttn_linksStep (by simpa using up) h)
    · exact chooseAfterAttn_linksStep up h

theorem endData_calm (s : State) (l : Link) (h : Handle) : Calm s (s.endData l h) :=
  (modLink_calm (s.release h) l _ ((PortCalm.inFlight_none _).trans (.counters _ _))).after rfl rfl rfl

theorem nextCell_linksStep {s t : State} {l : Link} (up : (s.link l).state = .up) (h : s.nextCell l = .next t) : LinksStep s t := by
  unfold State.nextCell at h
  split at h
  · exact chooseNext_linksStep up h
  · next b hb =>
    have ended := endData_calm s l b
    have up' := (ended.ports l).1.trans up
    split at h
    · have := next_inj h; subst this
      exact (ended.then (enterDisabled_moves _ l (by simp [up']) fun _ => by simp [State.endData]).outcome).linksStep
    · exact ended.thenStep (endData_params s l b) (chooseNext_linksStep up' h)

/-! ### Requests -/

theorem place_attn (s : State) (l : Link) (record : Payload) : (s.place l record).attn = s.attn := by simp

theorem place_statesKept (s : State) (l : Link) (record : Payload) : StatesKept s (s.place l record) := by
  unfold State.place
  split
  · exact fun _ => rfl
  · split
    · exact modLink_statesKept s l _ fun _ => rfl
    · exact fun _ => rfl

/-- R138, R139: a response is appended to a queue with room for it, or held for a link in UP with two responses queued. -/
theorem place_linksLawful {s : State} (h : s.linksLawful) (free : s.agent.held = none) (l : Link) (record : Payload) :
    (s.place l record).linksLawful := by
  have hl := h
  rw [linksLawful_iff] at h
  obtain ⟨hp, hf, hh⟩ := h
  unfold State.place
  split
  · exact hl
  · next up =>
    have up : (s.link l).state = .up := by simpa using up
    obtain ⟨⟨h1, h2, h3, h4, h5, h6, h7, h8⟩, -, ht, hb⟩ := hp l
    split
    · next room =>
      rw [linksLawful_iff]
      refine ⟨fun k => ?_, modLink_faultedEmpty l _ hf fun _ => rfl, fun k r e => by rw [modLink_agent, free] at e; cases e⟩
      rw [link_modLink']
      split
      · exact ⟨⟨h1, h2, h3, h4, h5, h6, by simp [Config.respDepth] at room ⊢; omega, h8⟩, fun hn => absurd up hn, ht, hb⟩
      · exact hp k
    · next full =>
      rw [linksLawful_iff]
      refine ⟨hp, hf, fun k r e => ?_⟩
      obtain ⟨rfl, -⟩ : l = k ∧ record = r := by simpa using e
      refine ⟨up, le_antisymm h7 ?_⟩
      have : 2 ≤ (s.link l).respQueue.length := not_lt.1 full
      exact this

/-- An event that leaves the agent without a held response, and then the placement of a response. -/
theorem LinksStep.place {s u : State} (h : LinksStep s u) (free : u.agent.held = none) (l : Link) (record : Payload) : LinksStep s (u.place l record) := by
  have kept := place_statesKept u l record
  refine ⟨fun hr hs => place_linksLawful (h.1 hr hs) free l record, fun k hk => ?_⟩
  rw [kept k] at hk
  obtain ⟨flag, listed, up, disabled⟩ := h.2 k hk
  exact ⟨by rwa [place_attn], by rwa [place_attn], fun e => up ((kept k).symm.trans e), fun e => (kept k).trans (disabled e)⟩

/-- A request served does what its execution does to the links. -/
theorem serve_linksStep (s : State) (row : RequestRow) (execute : Payload → State → Answer × State)
    (h : ∀ r u, u.agent.held = none → LinksStep u (execute r u).2 ∧ (execute r u).2.agent.held = none) : LinksStep s (s.serve row execute) := by
  obtain same | ⟨r, head, served⟩ := serve_cases s row execute
  · rw [same]; exact (Calm.refl s).outcome.linksStep
  · obtain ⟨-, free, -, -⟩ := headRequest_some head
    rw [served]
    obtain ⟨step, free'⟩ := h r.record { s with agent := { s.agent with queue := s.agent.queue.tail } } free
    exact LinksStep.place (u := { (execute r.record _).2 with freeCtr := (execute r.record _).2.freeCtr + 64 }) step free' _ _

theorem serve_outcome (s : State) (row : RequestRow) (execute : Payload → State → Answer × State)
    (h : ∀ r u, Outcome u (execute r u).2) : LinksStep s (s.serve row execute) :=
  serve_linksStep s row execute fun r u free => ⟨(h r u).linksStep, (h r u).held_none free⟩

theorem answerReadCounters_outcome (r : Payload) (s : State) : Outcome s (answerReadCounters r s).2 := by
  have ite : ∀ {t : State}, Calm s t → Outcome s (if recClear r = true then t else s) := by
    intro t h; split
    · exact h.outcome
    · exact (Calm.refl s).outcome
  unfold answerReadCounters
  split
  · split
    · exact (Calm.refl s).outcome
    · exact ite (countLink_calm _ _ _)
  · split
    · exact ite (countQueue_calm _ _ _)
    · exact (Calm.refl s).outcome
  · exact ite (.of_eq rfl rfl rfl)
  · exact (Calm.refl s).outcome

theorem PortCalm.disablePending (p : LinkPort) (b : Bool) (up : p.state = .up) : PortCalm p { p with disablePending := b } := by
  refine ⟨rfl, rfl, ?_⟩
  rintro ⟨hr, -, ht, hb⟩
  exact ⟨hr, fun hn => absurd up hn, ht, hb⟩
theorem PortCalm.retrainCount_zero (p : LinkPort) : PortCalm p { p with retrainCount := 0 } := by
  refine ⟨rfl, rfl, ?_⟩
  rintro ⟨⟨h1, h2, h3, -, h5⟩, hq, ht, hb⟩
  exact ⟨⟨h1, h2, h3, Nat.zero_le _, h5⟩, hq, ht, hb⟩
theorem PortCalm.holdOff_idle (p : LinkPort) : PortCalm p { p with holdOff := .idle } := by
  refine ⟨rfl, rfl, ?_⟩
  rintro ⟨hr, hq, ht, hb⟩
  exact ⟨hr, hq, ⟨ht.1, fun h => absurd rfl h⟩, hb⟩

theorem enableLink_outcome (s : State) (l : Link) : Outcome s (s.enableLink l) := by
  unfold State.enableLink
  split
  · next h => exact (enterTraining_moves s l _ (by simp [h])).outcome
  · next h => exact modLink_outcome (.retrainCount_zero _) (enterTraining_moves _ l _ (by simp [h])).outcome
  · exact (Calm.refl s).outcome
  · next h => exact (modLink_calm s l _ (.disablePending _ _ h)).outcome

theorem disableLink_outcome (s : State) (l : Link) : Outcome s (s.disableLink l) := by
  unfold State.disableLink
  split
  · exact (Calm.refl s).outcome
  · next h => exact (enterDisabled_moves s l (by simp [h]) (by simp [h])).outcome
  · next h => exact (enterDisabled_moves s l (by simp [h]) (by simp [h])).outcome
  · next h =>
    split
    · exact (modLink_calm s l _ (.disablePending _ _ h)).outcome
    · next idle => exact (enterDisabled_moves s l (by simp [h]) fun _ => by simpa using idle).outcome

theorem answerEnable_outcome (r : Payload) (s : State) : Outcome s (answerEnable r s).2 := by
  unfold answerEnable
  split
  · exact (Calm.refl s).outcome
  · split
    · exact (Calm.refl s).outcome
    · split
      · exact (Calm.refl s).outcome
      · exact enableLink_outcome s _
theorem answerDisable_outcome (r : Payload) (s : State) : Outcome s (answerDisable r s).2 := by
  unfold answerDisable
  split
  · exact (Calm.refl s).outcome
  · exact disableLink_outcome s _
theorem answerFlush_outcome (r : Payload) (s : State) : Outcome s (answerFlush r s).2 := by
  unfold answerFlush
  split
  · exact (Calm.refl s).outcome
  · exact (flushQueues_calm s _ (linkQueues_nodup _)).outcome
theorem answerRetrain_outcome (r : Payload) (s : State) : Outcome s (answerRetrain r s).2 := by
  unfold answerRetrain
  split
  · exact (Calm.refl s).outcome
  · next l _ =>
    split
    · exact (Calm.refl s).outcome
    · next h =>
      refine (retrainLink_moves s l ?_).outcome
      cases hs : (s.link l).state <;> simp [hs] at h ⊢

theorem answerSetManagementLinks_outcome (r : Payload) (s : State) : Outcome s (answerSetManagementLinks r s).2 := by
  refine .inl ⟨fun l => .of_eq (link_congr (by simp) l), fun l k _ he => by rw [queue_congr (answerSetManagementLinks_queues r s)]; exact he, ?_⟩
  unfold answerSetManagementLinks
  split <;> rfl

/-- R78: a port after its receive buffer has been emptied and its scheduler reset. -/
theorem PortCalm.rxBuf_nil (p : LinkPort) (c : LinkCounters) : PortCalm p { p with rxBuf := [], counters := c } := by
  refine ⟨rfl, rfl, ?_⟩
  rintro ⟨⟨h1, h2, h3, h4, h5, -, h7⟩, hq, ht, hb⟩
  exact ⟨⟨h1, h2, h3, h4, h5, by simp, h7⟩, fun hn => ⟨rfl, (hq hn).2⟩, ht, by simp [LinkPort.buffersData]⟩

theorem mapLinks_calm (s : State) (f : Link → LinkPort → LinkPort) (h : ∀ l, PortCalm (s.link l) (f l (s.link l))) : Calm s (s.mapLinks f) where
  ports l := by rw [link_mapLinks]; exact h l
  queues l k _ he := by rw [mapLinks_queue]; exact he
  held := by simp

theorem emptyReceiveBuffers_calm (s : State) : Calm s s.emptyReceiveBuffers := mapLinks_calm s _ fun _ => .rxBuf_nil _ _
theorem resetSchedulers_calm (s : State) (h : s.params.inRange) : Calm s s.resetSchedulers :=
  mapLinks_calm s _ fun _ => .wrr _ _ fun _ => weight_le h .one
theorem resetSchedulers_statesKept (s : State) : StatesKept s s.resetSchedulers := by
  intro k
  unfold State.resetSchedulers
  rw [link_mapLinks]

theorem resetDatapath_linksStep (s : State) : LinksStep s s.resetDatapath := by
  unfold State.resetDatapath
  refine (((abortOp_calm s).trans (flushQueues_calm _ _ (List.nodup_finRange _))).trans (emptyReceiveBuffers_calm _)).thenStep (by simp) ?_
  exact (resetSchedulers_statesKept _).linksStep fun hr => (resetSchedulers_calm _ hr).linksLawful

/-! ### Every command -/

theorem LinksStep.refl (s : State) : LinksStep s s := (Calm.refl s).outcome.linksStep
theorem Calm.linksStep {s t : State} (h : Calm s t) : LinksStep s t := h.outcome.linksStep

/-- A command that acts only where its condition allows it. -/
theorem LinksStep.ite {s t : State} {c : Prop} [Decidable c] (h : c → LinksStep s t) : LinksStep s (if c then t else s) := by
  split
  · next hc => exact h hc
  · exact .refl s

theorem LinksStep.of_next {s t u : State} (h : (Host.Outcome.next u : Host.Outcome State Fault Refusal) = .next t) (k : LinksStep s u) : LinksStep s t :=
  next_inj h ▸ k

/-- A request whose execution leaves links, queues and agent alone. -/
theorem serve_untouched (s : State) (row : RequestRow) (execute : Payload → State → Answer × State) (hl : ∀ r u, (execute r u).2.links = u.links)
    (hq : ∀ r u, (execute r u).2.queues = u.queues) (ha : ∀ r u, (execute r u).2.agent = u.agent) : LinksStep s (s.serve row execute) :=
  serve_outcome s row execute fun r u => (Calm.of_eq (hl r u) (hq r u) (ha r u)).outcome

theorem execCellArrival_linksStep {s t : State} {l : Link} {cell : Cell} (h : execCellArrival l cell s = .next t) : LinksStep s t := by
  refine .of_next h ?_
  split
  · exact .refl s
  · split
    · exact (arriveHeaderError_outcome s l).linksStep
    · next hk => exact (arriveGoodHeader_outcome s l _ cell (goodHeaderKind_kind hk)).linksStep

theorem execHoldOffExpiry_linksStep {s t : State} {l : Link} (h : execHoldOffExpiry l s = .next t) : LinksStep s t := by
  refine .of_next h (.ite fun hc => ?_)
  split
  · exact (enterTraining_moves s l _ (by simp [hc.2.1])).outcome.linksStep
  · exact (modLink_calm s l _ (.holdOff_idle _)).linksStep

theorem execNextCellEvent_linksStep {s t : State} {l : Link} (h : execNextCellEvent l s = .next t) : LinksStep s t := by
  unfold execNextCellEvent at h
  split at h
  · next hc => exact nextCell_linksStep hc.2 h
  · exact .of_next h (.refl s)

theorem execEpochTimerExpiry_linksStep {s t : State} (h : execEpochTimerExpiry s = .next t) : LinksStep s t :=
  .of_next h (.ite fun _ => ((epochChange_calm _).after (by simp) (by simp) (by simp)).linksStep)

theorem exec_linksStep {i : Instr} {s t : State} (notReset : i.isReset = false) (h : exec i s = .next t) : LinksStep s t := by
  cases i with
  | rstNRise | rstNFall => cases notReset
  | cellArrival l cell => exact execCellArrival_linksStep h
  | trainingWindowExpiry l => exact .of_next h (.ite fun hc => (enterFaulted_moves s l _ (by simp [hc.2.1])).outcome.linksStep)
  | keepaliveExpiry l => exact .of_next h (.ite fun hc => (enterFaulted_moves s l _ (by simp [hc.2.1])).outcome.linksStep)
  | holdOffExpiry l => exact execHoldOffExpiry_linksStep h
  | admission => exact .of_next h (.ite fun _ => (admission_calm s).linksStep)
  | nextCellEvent l => exact execNextCellEvent_linksStep h
  | monitorStep => exact .of_next h (.ite fun _ => (monitorStep_calm s).linksStep)
  | coalescingTimerExpiry => exact .of_next h (.ite fun _ => ((oweFlowst_calm _).after rfl rfl rfl).linksStep)
  | epochTimerExpiry => exact execEpochTimerExpiry_linksStep h
  | attentionHoldOffExpiry => exact .of_next h (.ite fun _ => (attentionExpiry_calm s).linksStep)
  | scrubStep => exact .of_next h (.ite fun _ => (scrubVisit_calm s).linksStep)
  | tableDisturbance b n e code => exact .of_next h (.ite fun _ => (putEntry_calm s b n e code).linksStep)
  | fillStep => exact .of_next h (.ite fun _ => (fillStep_calm s).linksStep)
  | copyStep => exact .of_next h (.ite fun _ => (copyStep_calm s).linksStep)
  | digestStep => exact .of_next h (.ite fun _ => (digestStep_calm s).linksStep)
  | memtestStep passes => exact .of_next h (.ite fun _ => (memtestStep_calm s passes).linksStep)
  | readIdentity => exact .of_next h (serve_untouched s _ _ answerReadIdentity_links answerReadIdentity_queues answerReadIdentity_agent)
  | readStatus => exact .of_next h (serve_untouched s _ _ answerReadStatus_links answerReadStatus_queues answerReadStatus_agent)
  | readQueueSnapshot =>
    exact .of_next h (serve_untouched s _ _ answerReadQueueSnapshot_links answerReadQueueSnapshot_queues answerReadQueueSnapshot_agent)
  | readCounters => exact .of_next h (serve_outcome s _ _ answerReadCounters_outcome)
  | readAttention => exact .of_next h (serve_untouched s _ _ answerReadAttention_links answerReadAttention_queues answerReadAttention_agent)
  | readMissRecord => exact .of_next h (serve_untouched s _ _ answerReadMissRecord_links answerReadMissRecord_queues answerReadMissRecord_agent)
  | readEntries => exact .of_next h (serve_untouched s _ _ answerReadEntries_links answerReadEntries_queues answerReadEntries_agent)
  | writeEntries => exact .of_next h (serve_untouched s _ _ answerWriteEntries_links answerWriteEntries_queues answerWriteEntries_agent)
  | repairEntry => exact .of_next h (serve_untouched s _ _ answerRepairEntry_links answerRepairEntry_queues answerRepairEntry_agent)
  | fillEntries => exact .of_next h (serve_untouched s _ _ answerFillEntries_links answerFillEntries_queues answerFillEntries_agent)
  | copyBank => exact .of_next h (serve_untouched s _ _ answerCopyBank_links answerCopyBank_queues answerCopyBank_agent)
  | digestBank => exact .of_next h (serve_untouched s _ _ answerDigestBank_links answerDigestBank_queues answerDigestBank_agent)
  | startMemoryTest =>
    exact .of_next h (serve_untouched s _ _ answerStartMemoryTest_links answerStartMemoryTest_queues answerStartMemoryTest_agent)
  | enable => exact .of_next h (serve_outcome s _ _ answerEnable_outcome)
  | disable => exact .of_next h (serve_outcome s _ _ answerDisable_outcome)
  | flush => exact .of_next h (serve_outcome s _ _ answerFlush_outcome)
  | retrain => exact .of_next h (serve_outcome s _ _ answerRetrain_outcome)
  | scheduleSwap => exact .of_next h (serve_untouched s _ _ answerScheduleSwap_links answerScheduleSwap_queues answerScheduleSwap_agent)
  | cancelSwap => exact .of_next h (serve_untouched s _ _ answerCancelSwap_links answerCancelSwap_queues answerCancelSwap_agent)
  | datapathReset =>
    exact .of_next h (serve_linksStep s _ _ fun _ u free => ⟨resetDatapath_linksStep u, (congrArg Agent.held (resetDatapath_agent u)).trans free⟩)
  | sendFlowStatusNow => exact .of_next h (serve_outcome s _ _ fun _ u => (oweFlowst_calm u).outcome)
  | setManagementLinks => exact .of_next h (serve_outcome s _ _ answerSetManagementLinks_outcome)
  | setParameter => exact .of_next h (serve_untouched s _ _ answerSetParameter_links answerSetParameter_queues answerSetParameter_agent)
  | readParameter => exact .of_next h (serve_untouched s _ _ answerReadParameter_links answerReadParameter_queues answerReadParameter_agent)
  | undefinedRequest => exact .of_next h (serve_untouched s _ _ answerUndefined_links answerUndefined_queues answerUndefined_agent)

/-! ### The edges of RST_N -/

/-- A state whose ports stand at power-on but for the training window and the sender, with empty queues and nothing held, is lawful. -/
theorem linksLawful_of_powerOn {s : State} {plane : BitVec 3} {window : Timer} {sending : Sending}
    (links : ∀ l, s.link l = { LinkPort.powerOn plane with window := window, sending := sending }) (queues : ∀ q, (s.queue q).entries = [])
    (held : s.agent.held = none) : s.linksLawful := by
  rw [linksLawful_iff]
  refine ⟨fun l => ?_, fun l _ k => queues _, fun l r e => by rw [held] at e; cases e⟩
  rw [links l]
  exact ⟨by simp [LinkPort.inRange, LinkPort.powerOn],
    fun _ => ⟨rfl, rfl, rfl, rfl, rfl, rfl, rfl⟩, ⟨fun _ => rfl, fun h => absurd rfl h⟩, by simp [LinkPort.buffersData, LinkPort.powerOn]⟩

theorem powerOn_link (straps : Straps) (l : Link) : (State.powerOn straps).link l = LinkPort.powerOn straps.plane := slot_replicate _ l
theorem powerOn_queue (straps : Straps) (q : QueueId) : (State.powerOn straps).queue q = OutQueue.powerOn := slot_replicate _ q
theorem heldInReset_link (s : State) (l : Link) : s.heldInReset.link l = LinkPort.heldInReset s.straps.plane := slot_replicate _ l
theorem heldInReset_queue (s : State) (q : QueueId) : s.heldInReset.queue q = OutQueue.powerOn := slot_replicate _ q

theorem powerOn_linksLawful (straps : Straps) : (State.powerOn straps).linksLawful :=
  linksLawful_of_powerOn (plane := straps.plane) (powerOn_link straps) (fun q => by rw [powerOn_queue]; rfl) rfl
theorem heldInReset_linksLawful (s : State) : s.heldInReset.linksLawful :=
  linksLawful_of_powerOn (plane := s.straps.plane) (heldInReset_link s) (fun q => by rw [heldInReset_queue]; rfl) rfl

theorem exec_linksLawful {i : Instr} {s t : State} (hr : s.params.inRange) (hs : s.linksLawful) (h : exec i s = .next t) : t.linksLawful := by
  cases hi : i.isReset with
  | false => exact (exec_linksStep hi h).1 hr hs
  | true =>
    cases i with
    | rstNRise plane mgp mgs =>
      have := next_inj h
      subst this
      split
      · exact hs
      · exact powerOn_linksLawful ⟨plane, mgp, mgs⟩
    | rstNFall =>
      have := next_inj h
      subst this
      split
      · exact heldInReset_linksLawful s
      · exact hs
    | _ => cases hi

/-- Settles O9: every command but an edge of RST_N is calm for the links, changes one link by the rules, or sends or places a response
(`exec_linksStep`), and the edges give the ports of power-on. -/
theorem linkPortsStayLawful : Obligations.LinkPortsStayLawful := by
  rintro s t ⟨hr, hs⟩ h
  unfold step at h
  split at h
  · exact next_inj h ▸ hs
  · next c rest _ => exact exec_linksLawful (s := { s with pending := rest }) hr hs h

/-- Settles O19, from what every command does to the links. -/
theorem linkChangesAreFlagged : Obligations.LinkChangesAreFlagged :=
  fun _ _ _ l notReset h changed => (exec_linksStep notReset h).2 l changed

end Sys2Proof.LinkPorts
end

section
/-! PROOFS. Arriving cells and link timers (R2 to R15). -/

namespace Sys2Proof.LinkPorts

open Sys2Proof.Machine Sys2Proof.Laws

/-! ### What an arriving cell does, by the state of its link -/

theorem exec_cellArrival_disabled {l : Link} {cell : Cell} {s : State} (h : (s.link l).state = .disabled) :
    exec (.cellArrival l cell) s = .next s := by
  show execCellArrival l cell s = _
  unfold execCellArrival
  rw [if_pos (.inr h)]

theorem exec_cellArrival_headerError {l : Link} {cell : Cell} {s : State} (hr : s.rstN = true) (h : (s.link l).state ≠ .disabled)
    (hk : goodHeaderKind cell = none) : exec (.cellArrival l cell) s = .next (s.arriveHeaderError l) := by
  show execCellArrival l cell s = _
  unfold execCellArrival
  rw [if_neg (by simp [hr, h]), hk]

theorem exec_cellArrival_goodHeader {l : Link} {cell : Cell} {s : State} {kind : CellKind} (hr : s.rstN = true) (h : (s.link l).state ≠ .disabled)
    (hk : goodHeaderKind cell = some kind) : exec (.cellArrival l cell) s = .next (s.arriveGoodHeader l kind cell) := by
  show execCellArrival l cell s = _
  unfold execCellArrival
  rw [if_neg (by simp [hr, h]), hk]

/-- The payload error count after a cell, by its payload check (R2). -/
def countPayload (cell : Cell) (k : LinkCounters) : LinkCounters :=
  { k with payloadErrors := if payloadCheckGood cell = true then k.payloadErrors else min (k.payloadErrors + 1) 4294967295 }

theorem countPayload_eq (cell : Cell) :
    (fun k : LinkCounters => if payloadCheckGood cell = true then k else { k with payloadErrors := bump k.payloadErrors 1 }) = countPayload cell := by
  funext k
  unfold countPayload
  cases payloadCheckGood cell <;> rfl

theorem arriveHeaderError_faulted {s : State} {l : Link} (h : (s.link l).state = .faulted) :
    s.arriveHeaderError l = s.countLink l fun k => { k with headerErrors := bump k.headerErrors 1 } := by
  unfold State.arriveHeaderError
  simp only [h]

theorem arriveHeaderError_training {s : State} {l : Link} (h : (s.link l).state = .training) :
    s.arriveHeaderError l = s.modLink l fun p =>
      { p with trainCount := 0, counters := { p.counters with headerErrors := bump p.counters.headerErrors 1 } } := by
  unfold State.arriveHeaderError
  simp only [h, countLink_eq, modLink_modLink]

theorem arriveHeaderError_up {s : State} {l : Link} (h : (s.link l).state = .up) :
    s.arriveHeaderError l = (s.countLink l fun k => { k with headerErrors := bump k.headerErrors 1 }).badCell l := by
  unfold State.arriveHeaderError
  simp only [h]

theorem arriveGoodHeader_faulted {s : State} {l : Link} {kind : CellKind} {cell : Cell} (h : (s.link l).state = .faulted) :
    s.arriveGoodHeader l kind cell = s.countLink l (countPayload cell) := by
  unfold State.arriveGoodHeader
  simp only [h, countPayload_eq]

theorem arriveGoodHeader_training {s : State} {l : Link} {kind : CellKind} {cell : Cell} (h : (s.link l).state = .training) :
    s.arriveGoodHeader l kind cell =
      (s.modLink l fun p => { p with farGap := cellGap cell, counters := countPayload cell p.counters }).train l kind := by
  unfold State.arriveGoodHeader
  simp only [h, countPayload_eq, countLink_eq, modLink_modLink]

/-- R4, R10: a cell with a good header in UP gives its gap request and restarts the keepalive. -/
def pacedPort (s : State) (cell : Cell) (p : LinkPort) : LinkPort :=
  { p with farGap := cellGap cell, keepalive := .running s.params.keepalive, counters := countPayload cell p.counters }

theorem arriveGoodHeader_up {s : State} {l : Link} {kind : CellKind} {cell : Cell} (h : (s.link l).state = .up) :
    s.arriveGoodHeader l kind cell = if payloadCheckGood cell = true then (s.modLink l (pacedPort s cell)).arriveGood l kind cell
      else (s.modLink l (pacedPort s cell)).badCell l := by
  unfold State.arriveGoodHeader
  simp only [h, countPayload_eq, countLink_eq, modLink_modLink]
  rfl

/-- R11, R12: a bad cell below the threshold is charged; at the threshold the link enters FAULTED. -/
theorem badCell_spec (s : State) (l : Link) :
    let charged := s.modLink l fun p => { p with budget := min 65535 (p.budget + 32) }
    ((charged.link l).budget < s.params.budgetThreshold → s.badCell l = charged) ∧
    (s.params.budgetThreshold ≤ (charged.link l).budget → charged.entersFaulted l .errors (s.badCell l)) := by
  refine ⟨fun below => if_neg (not_le.2 below), fun reached => ?_⟩
  have entered : s.badCell l = (s.modLink l fun p => { p with budget := min 65535 (p.budget + 32) }).enterFaulted l .errors := if_pos reached
  rw [entered]
  exact enterFaulted_spec _ _ _

/-- A bad cell after an update of its port. -/
theorem badCell_modLink (s : State) (l : Link) (f : LinkPort → LinkPort) {out : Host.Outcome State Fault Refusal}
    (h : out = .next ((s.modLink l f).badCell l)) :
    let judged := s.modLink l fun p => { f p with budget := min 65535 ((f p).budget + 32) }
    ((judged.link l).budget < s.params.budgetThreshold → out = .next judged) ∧
    (s.params.budgetThreshold ≤ (judged.link l).budget → ∃ t, out = .next t ∧ judged.entersFaulted l .errors t) := by
  have spec := badCell_spec (s.modLink l f) l
  rw [modLink_modLink] at spec
  exact ⟨fun below => h.trans (congrArg _ (spec.1 below)), fun reached => ⟨_, h, spec.2 reached⟩⟩

/-- Settles O24: a header error and a payload error in UP, each by what a bad cell does after the update of its port. -/
theorem badCellsInUp : Obligations.BadCellsInUp := by
  intro l cell s hr up
  have notDisabled : (s.link l).state ≠ .disabled := by simp [up]
  refine ⟨fun hk => ?_, fun hk bad => ?_⟩
  · have arrives := exec_cellArrival_headerError hr notDisabled hk
    rw [arriveHeaderError_up up, countLink_eq] at arrives
    exact badCell_modLink s l _ arrives
  · obtain ⟨kind, hk⟩ := Option.isSome_iff_exists.1 hk
    have arrives := exec_cellArrival_goodHeader hr notDisabled hk
    rw [arriveGoodHeader_up up, if_neg (by simp [bad])] at arrives
    have charged := badCell_modLink s l _ arrives
    simp only [pacedPort, countPayload, bad, Bool.false_eq_true, if_false] at charged
    exact charged

/-! ### Cells outside UP -/

theorem train_below {s : State} {l : Link} {kind : CellKind} (h : kind = .idle → (s.link l).trainCount < 63) :
    s.train l kind = s.modLink l fun p => { p with trainCount := if kind = .idle then p.trainCount + 1 else 0 } := by
  unfold State.train
  by_cases hk : kind = .idle
  · have := h hk
    simp only [hk, if_true]
    rw [if_neg]
    simp only [link_modLink_same, Config.trainingTarget]
    omega
  · simp only [hk, if_false]

theorem train_reached {s : State} {l : Link} (h : (s.link l).trainCount = 63) :
    s.train l .idle = (s.modLink l fun p => { p with trainCount := p.trainCount + 1 }).enterUp l := by
  unfold State.train
  rw [if_pos rfl]
  exact if_pos (by simp [Config.trainingTarget, h])

/-- Settles O23: the equations of an arrival by the state of its link, and the entry into UP. -/
theorem cellsOutsideUp : Obligations.CellsOutsideUp := by
  refine ⟨fun l cell s hr => ⟨exec_cellArrival_disabled, fun hf hk => ?_, fun hf hk => ?_, fun ht hk => ?_, fun kind ht hk below => ?_⟩,
    fun l cell s hr ht count hk => ?_⟩
  · rw [exec_cellArrival_headerError hr (by simp [hf]) hk, arriveHeaderError_faulted hf]
    rfl
  · obtain ⟨kind, hk⟩ := Option.isSome_iff_exists.1 hk
    rw [exec_cellArrival_goodHeader hr (by simp [hf]) hk, arriveGoodHeader_faulted hf]
    rfl
  · rw [exec_cellArrival_headerError hr (by simp [ht]) hk, arriveHeaderError_training ht]
    rfl
  · rw [exec_cellArrival_goodHeader hr (by simp [ht]) hk, arriveGoodHeader_training ht, train_below (by simpa using below), modLink_modLink]
    rfl
  · have arrives := exec_cellArrival_goodHeader (l := l) hr (by simp [ht]) hk
    rw [arriveGoodHeader_training ht, train_reached (by simpa using count), modLink_modLink] at arrives
    refine ⟨_, arrives, ?_⟩
    obtain ⟨own, others, banks, records, globals⟩ := enterUp_spec
      (s.modLink l fun p => { p with farGap := cellGap cell, counters := countPayload cell p.counters, trainCount := p.trainCount + 1 }) l
    refine ⟨?_, fun k hkl => ?_, by simp, by simp, by simp, by simp, banks, records, globals, by simp [State.restKept]⟩
    · rw [link_modLink_same, count] at own
      exact own
    · have other := others k hkl
      rwa [link_modLink_ne _ _ _ _ hkl.symm] at other

/-! ### Good cells in UP -/

/-- R10, R11, R4: a port in UP after a good cell of a kind. -/
def creditedPort (s : State) (cell : Cell) (kind : CellKind) (p : LinkPort) : LinkPort :=
  { p with budget := p.budget - 1, farGap := cellGap cell, keepalive := .running s.params.keepalive,
           counters := if kind = .idle then p.counters else { p.counters with goodCells := min (p.counters.goodCells + 1) 4294967295 } }

theorem exec_cellArrival_good {l : Link} {cell : Cell} {s : State} {kind : CellKind} (hr : s.rstN = true) (up : (s.link l).state = .up)
    (hk : goodHeaderKind cell = some kind) (good : payloadCheckGood cell = true) :
    exec (.cellArrival l cell) s = .next ((s.modLink l (creditedPort s cell kind)).deliver l kind cell) := by
  rw [exec_cellArrival_goodHeader hr (by simp [up]) hk, arriveGoodHeader_up up, if_pos good]
  unfold State.arriveGood
  rw [modLink_modLink]
  have same : ∀ p, { pacedPort s cell p with budget := (pacedPort s cell p).budget - 1, counters := if kind = .idle then (pacedPort s cell p).counters
      else { (pacedPort s cell p).counters with goodCells := bump (pacedPort s cell p).counters.goodCells 1 } } = creditedPort s cell kind p := by
    intro p
    simp only [pacedPort, creditedPort, countPayload, good, if_true]
    rfl
  rw [modLink_congr s l _ (creditedPort s cell kind) (same _)]

theorem receiveData_room {s : State} {l : Link} {cell : Cell} (h : (s.link l).rxBuf.length < 4) :
    s.receiveData l cell = s.modLink l fun p => { p with rxBuf := p.rxBuf ++ [cell] } := if_pos h
theorem receiveData_full {s : State} {l : Link} {cell : Cell} (h : 4 ≤ (s.link l).rxBuf.length) :
    s.receiveData l cell = s.countLink l fun k => { k with overruns := min (k.overruns + 1) 4294967295 } := if_neg (not_lt.2 h)
theorem deliver_data {s : State} {l : Link} {cell : Cell} {kind : CellKind} (h : kind = .ucast ∨ kind = .mcast) :
    s.deliver l kind cell = s.receiveData l cell := by obtain rfl | rfl := h <;> rfl

theorem arriveRequest_unpermitted {s : State} {l : Link} {cell : Cell} (h : LinkSet.has s.agent.permitted l = false) :
    s.arriveRequest l cell = s.countGlobal fun k => { k with unpermitted := min (k.unpermitted + 1) 4294967295 } := if_pos h
theorem arriveRequest_dropped {s : State} {l : Link} {cell : Cell} (h : LinkSet.has s.agent.permitted l = true) (full : 8 ≤ s.agent.queue.length) :
    s.arriveRequest l cell = (s.countGlobal fun k => { k with dropped := min (k.dropped + 1) 4294967295 }).raise .requestDropped :=
  (if_neg (by simp [h])).trans (if_pos full)
theorem arriveRequest_queued {s : State} {l : Link} {cell : Cell} (h : LinkSet.has s.agent.permitted l = true) (room : s.agent.queue.length < 8) :
    s.arriveRequest l cell = { s with agent := { s.agent with queue := s.agent.queue ++ [⟨l, cellPayload cell⟩] } } :=
  (if_neg (by simp [h])).trans (if_neg (not_le.2 room))

/-- Settles O25: the delivery by kind of the cell that `exec_cellArrival_good` credits. -/
theorem goodCellsInUp : Obligations.GoodCellsInUp := by
  refine ⟨fun l cell s kind hr up hk good => ?_, fun l cell s hr up hk good => ?_⟩
  all_goals
    have arrives := exec_cellArrival_good hr up hk good
    intro credited
  · have buffer : (credited.link l).rxBuf = (s.link l).rxBuf := by simp only [credited, link_modLink_same]
    refine ⟨?_, fun data room => ?_, fun data full => ?_, ?_⟩
    · rintro rfl; exact arrives
    · rw [deliver_data data] at arrives
      exact arrives.trans (congrArg _ (receiveData_room (by rw [← buffer] at room; exact room)))
    · rw [deliver_data data] at arrives
      exact arrives.trans (congrArg _ (receiveData_full (by rw [← buffer] at full; exact full)))
    · rintro (rfl | rfl | rfl) <;> exact arrives
  · have arrives : exec (.cellArrival l cell) s = .next (credited.arriveRequest l cell) := arrives
    refine ⟨fun barred => ?_, fun permitted full => ?_, fun permitted room => ?_⟩
    · rw [arriveRequest_unpermitted (by simpa [credited] using barred)] at arrives; exact arrives
    · rw [arriveRequest_dropped (by simpa [credited] using permitted) (by simpa [credited] using full)] at arrives
      refine ⟨_, arrives, by simp [credited], raise_flag_set _ _, by simp [credited], fun k => ?_, by simp [credited],
        by simp [credited], by simp [credited], by simp [credited], by simp [State.recordsKept, credited], by simp [State.restKept, credited]⟩
      exact sameButPending_trans (raise_same _ _ k) (sameButPending_of_eq (countGlobal_link _ _ k))
    · rw [arriveRequest_queued (by simpa [credited] using permitted) (by simpa [credited] using room)] at arrives; exact arrives

/-! ### Link timers -/

theorem execHoldOffExpiry_retrains {l : Link} {s : State} (hr : s.rstN = true) (hf : (s.link l).state = .faulted) (ht : (s.link l).holdOff ≠ .idle)
    (below : s.params.retrainLimit = 0 ∨ (s.link l).retrainCount < s.params.retrainLimit) :
    exec (.holdOffExpiry l) s = .next (s.enterTraining l .faulted) := by
  show execHoldOffExpiry l s = _
  unfold execHoldOffExpiry
  rw [if_pos ⟨hr, hf, ht⟩, if_pos below]

theorem execHoldOffExpiry_stays {l : Link} {s : State} (hr : s.rstN = true) (hf : (s.link l).state = .faulted) (ht : (s.link l).holdOff ≠ .idle)
    (limit : s.params.retrainLimit ≠ 0) (reached : s.params.retrainLimit ≤ (s.link l).retrainCount) :
    exec (.holdOffExpiry l) s = .next (s.modLink l fun p => { p with holdOff := .idle }) := by
  show execHoldOffExpiry l s = _
  unfold execHoldOffExpiry
  rw [if_pos ⟨hr, hf, ht⟩, if_neg (by omega)]

/-- R6: a link outside UP that enters TRAINING leaves everything else, but for pending ATTN flags of other links. -/
theorem enterTraining_kept {s : State} {l : Link} {old : LinkState} (h : old ≠ .up) :
    s.otherLinksKept (s.enterTraining l old) l ∧ (s.enterTraining l old).queues = s.queues ∧ (s.enterTraining l old).pool = s.pool ∧
    (s.enterTraining l old).flow = s.flow ∧ (s.enterTraining l old).agent = s.agent ∧ (s.enterTraining l old).globals = s.globals ∧
    (s.enterTraining l old).tables = s.tables ∧ s.recordsKept (s.enterTraining l old) ∧ s.restKept (s.enterTraining l old) := by
  obtain ⟨-, others, -, records, between, -⟩ := enterTraining_spec s l old
  obtain ⟨tables, globals⟩ := between h
  exact ⟨others, by simp, by simp, by simp, by simp, globals, tables, records, by simp [State.restKept]⟩

/-- Settles O27. -/
theorem linkTimersExpire : Obligations.LinkTimersExpire := by
  refine ⟨fun l s hr => ⟨fun ht hw => ⟨_, ?_, enterFaulted_spec s l .training⟩, fun hu hk => ⟨_, ?_, enterFaulted_spec s l .keepalive⟩⟩,
    fun l s hr hf hh => ⟨fun below => ⟨_, execHoldOffExpiry_retrains hr hf hh below, ?_, enterTraining_kept (by simp)⟩,
      execHoldOffExpiry_stays hr hf hh⟩⟩
  · exact congrArg _ (if_pos ⟨hr, ht, hw⟩)
  · exact congrArg _ (if_pos ⟨hr, hu, hk⟩)
  · rw [(enterTraining_spec s l .faulted).1]
    exact sameButPending_refl _

end Sys2Proof.LinkPorts
end

section
/-! PROOFS. The end of a data cell and the Link Control requests (R16 to R21). -/

namespace Sys2Proof.LinkPorts

open Sys2Proof.Machine Sys2Proof.Laws

/-! ### The end of a data cell -/

/-- R67: a release lowers one count. -/
theorem release_refCount {p : Pool} (threshold : Nat) (h a : Handle) (wf : Memory.wf 0 p.refs = true) :
    (p.release threshold h).refCount a = if a = h then p.refCount a - 1 else p.refCount a := by
  obtain ⟨-, -, -, -, refs⟩ := poolRelease_fields p threshold h
  unfold Pool.refCount at refs ⊢
  rw [refs, read_write h a _ wf]
  by_cases e : a = h
  · subst e; simp
  · simp [e, Ne.symm e]

/-- R68: a release keeps the latch at what the free count asks. -/
theorem release_latch {p : Pool} {threshold : Nat} (h : Handle) (lawful : p.latch = decide (p.free.length < threshold)) :
    (p.release threshold h).latch = decide ((p.release threshold h).free.length < threshold) := by
  unfold Pool.release Pool.relatch
  dsimp only
  split
  · rfl
  · exact lawful

theorem exec_nextCellEvent_up {l : Link} {s : State} (hr : s.rstN = true) (up : (s.link l).state = .up) :
    exec (.nextCellEvent l) s = s.nextCell l := if_pos ⟨hr, up⟩

theorem endData_link (s : State) (l : Link) (h : Handle) : (s.endData l h).link l = { s.link l with
    inFlight := none,
    counters := { (s.link l).counters with dataCellsTransmitted := bump (s.link l).counters.dataCellsTransmitted 1 } } := by
  unfold State.endData
  rw [link_modLink_same, release_link]

theorem nextCell_ends {s : State} {l : Link} {h : Handle} (hi : (s.link l).inFlight = some h) (hd : (s.link l).disablePending = false) :
    s.nextCell l = (s.endData l h).chooseNext l := by
  unfold State.nextCell
  simp only [hi, hd, Bool.false_eq_true, if_false]
theorem nextCell_endsPending {s : State} {l : Link} {h : Handle} (hi : (s.link l).inFlight = some h) (hd : (s.link l).disablePending = true) :
    s.nextCell l = .next ((s.endData l h).enterDisabled l) := by
  unfold State.nextCell
  simp only [hi, hd, if_true]
theorem nextCell_chooses {s : State} {l : Link} (hi : (s.link l).inFlight = none) : s.nextCell l = s.chooseNext l := by
  unfold State.nextCell
  simp only [hi]

/-- Settles O38: the laws of a release, and the end of the cell in flight followed by a choice or by the entry into DISABLED. -/
theorem dataCellsEnd : Obligations.DataCellsEnd := by
  refine ⟨fun p threshold h wf lawful => ?_, fun l s h hr up hi => ⟨fun hd => ?_, fun hd => ?_⟩⟩
  · obtain ⟨buffers, retired, underTest, free, -⟩ := poolRelease_fields p threshold h
    exact ⟨fun a => release_refCount threshold h a wf, free, release_latch h lawful, buffers, retired, underTest⟩
  · have ended := endData_link s l h
    rw [exec_nextCellEvent_up hr up, nextCell_ends hi hd, ← nextCell_chooses (by rw [ended]),
      ← exec_nextCellEvent_up ((endData_rstN s l h).trans hr) (by rw [ended]; exact up)]
    rfl
  · exact ⟨_, (exec_nextCellEvent_up hr up).trans (nextCell_endsPending hi hd), enterDisabled_spec (s.endData l h) l⟩

/-! ### Requests and the queue they leave -/

/-- The state with another request queue. -/
def requeued (s : State) (q : List Carried) : State := { s with agent := { s.agent with queue := q } }

theorem requeued_requeued {t : State} {rest : List Carried} (q : List Carried) (h : t.agent.queue = rest) : requeued (requeued t q) rest = t := by
  subst h; rfl

/-- A request that execution answers on the state without it: the next state is what execution leaves, with the queue as it was until the reply. -/
theorem answers_requeued {s t : State} {i : Instr} {l : Link} {r : Payload} {rest : List Carried} {row : RequestRow}
    {execute : Payload → State → Answer × State} {a : Answer} {res : Byte} {data : List Byte} (hi : exec i s = .next (s.serve row execute))
    (h : s.hasRequest l r rest) (hr : requestRow r = row) (ha : execute r (requeued s rest) = (a, t)) (hq : t.agent.queue = rest)
    (hres : a.result.byte = res) (hdata : a.data = data) : s.answers i (requeued t s.agent.queue) l rest (replyBytes r res data) := by
  refine answers_of (exec_answered hi a (requeued t s.agent.queue) h hr ?_ hres hdata)
  exact ha.trans (congrArg _ (requeued_requeued _ hq).symm)

theorem answers_refused {s : State} {i : Instr} {l : Link} {r : Payload} {rest : List Carried} {row : RequestRow}
    {execute : Payload → State → Answer × State} {res : Byte} (hi : exec i s = .next (s.serve row execute)) (c : ResultCode)
    (h : s.hasRequest l r rest) (hr : requestRow r = row) (ha : execute r (requeued s rest) = (.refuse c, requeued s rest)) (hres : c.byte = res) :
    s.answers i s l rest (replyBytes r res []) := answers_of (exec_refused hi c h hr ha hres)

/-! ### Link Control -/

theorem requestRow_linkControl {r : Payload} (h : recByte r 0 = 0x30) : requestRow r = linkControlRow (recByte r 5) := by
  unfold requestRow
  rw [h]
  rfl

theorem linkControlRow_cases (action : Byte) : (action = 1 ∧ linkControlRow action = .disable) ∨ (action = 2 ∧ linkControlRow action = .flush) ∨
    (action = 3 ∧ linkControlRow action = .retrain) ∨ linkControlRow action = .enable := by
  by_cases h1 : action = 1
  · exact .inl ⟨h1, by rw [h1]; rfl⟩
  · by_cases h2 : action = 2
    · exact .inr (.inl ⟨h2, by rw [h2]; rfl⟩)
    · by_cases h3 : action = 3
      · exact .inr (.inr (.inl ⟨h3, by rw [h3]; rfl⟩))
      · exact .inr (.inr (.inr (by simp only [linkControlRow, h1, h2, h3, if_false])))

theorem serves_disable {i : Instr} (h : i.serves = some .disable) : i = .disable := by cases i <;> cases h; rfl
theorem serves_flush {i : Instr} (h : i.serves = some .flush) : i = .flush := by cases i <;> cases h; rfl
theorem serves_retrain {i : Instr} (h : i.serves = some .retrain) : i = .retrain := by cases i <;> cases h; rfl
theorem serves_enable {i : Instr} (h : i.serves = some .enable) : i = .enable := by cases i <;> cases h; rfl

theorem answerEnable_badRange {r : Payload} {s : State} (h : 31 < (recByte r 4).toNat ∨ recByte r 5 ≠ 0) :
    answerEnable r s = (.refuse .badRange, s) := by
  unfold answerEnable
  split
  · rfl
  · next k hk =>
    refine if_pos (h.resolve_left fun high => ?_)
    rw [linkOf_none _ high] at hk
    cases hk

/-- The data of a Link Control that is DONE. -/
def linkControlData (k : Link) (p : LinkPort) : List Byte := [BitVec.ofNat 8 k.val, num8 p.state.code, flagByte p.disablePending]

theorem linkControlData_eq {k : Link} {p : LinkPort} {state pending : Byte} (hs : num8 p.state.code = state) (hp : flagByte p.disablePending = pending) :
    linkControlData k p = [BitVec.ofNat 8 k.val, state, pending] := by subst hs hp; rfl

theorem linkControlDone_eq (k : Link) (t : State) : linkControlDone k t = (⟨.done, linkControlData k (t.link k)⟩, t) := rfl

theorem answerEnable_busy {r : Payload} {s : State} {k : Link} (hk : (recByte r 4).toNat = k.val) (ha : recByte r 5 = 0)
    (busy : s.memtestRunning = true) : answerEnable r s = (.refuse .busy, s) := by
  unfold answerEnable
  rw [linkOf_eq _ k hk]
  simp only [ha, busy, ne_eq, not_true_eq_false, if_false, if_true]
theorem answerEnable_done {r : Payload} {s : State} {k : Link} (hk : (recByte r 4).toNat = k.val) (ha : recByte r 5 = 0)
    (free : s.memtestRunning = false) : answerEnable r s = linkControlDone k (s.enableLink k) := by
  unfold answerEnable
  rw [linkOf_eq _ k hk]
  simp only [ha, free, ne_eq, not_true_eq_false, if_false, Bool.false_eq_true]
theorem answerDisable_done {r : Payload} {s : State} {k : Link} (hk : (recByte r 4).toNat = k.val) :
    answerDisable r s = linkControlDone k (s.disableLink k) := by
  unfold answerDisable
  rw [linkOf_eq _ k hk]
theorem answerFlush_done {r : Payload} {s : State} {k : Link} (hk : (recByte r 4).toNat = k.val) :
    answerFlush r s = linkControlDone k (s.flushQueues (linkQueues k)) := by
  unfold answerFlush
  rw [linkOf_eq _ k hk]
theorem answerRetrain_badState {r : Payload} {s : State} {k : Link} (hk : (recByte r 4).toNat = k.val)
    (h : (s.link k).state = .disabled ∨ (s.link k).state = .training) : answerRetrain r s = (.refuse .badState, s) := by
  unfold answerRetrain
  rw [linkOf_eq _ k hk]
  exact if_pos h
theorem answerRetrain_done {r : Payload} {s : State} {k : Link} (hk : (recByte r 4).toNat = k.val)
    (h : (s.link k).state = .up ∨ (s.link k).state = .faulted) : answerRetrain r s = linkControlDone k (s.retrainLink k) := by
  unfold answerRetrain
  rw [linkOf_eq _ k hk]
  refine if_neg ?_
  obtain h | h := h <;> simp [h]

theorem enableLink_training {s : State} {k : Link} (h : (s.link k).state = .training) : s.enableLink k = s := by
  unfold State.enableLink
  simp only [h]
theorem enableLink_up {s : State} {k : Link} (h : (s.link k).state = .up) : s.enableLink k = s.modLink k fun p => { p with disablePending := false } := by
  unfold State.enableLink
  simp only [h]
theorem disableLink_disabled {s : State} {k : Link} (h : (s.link k).state = .disabled) : s.disableLink k = s := by
  unfold State.disableLink
  simp only [h]
theorem disableLink_pends {s : State} {k : Link} (h : (s.link k).state = .up) (flying : (s.link k).inFlight.isSome = true) :
    s.disableLink k = s.modLink k fun p => { p with disablePending := true } := by
  unfold State.disableLink
  simp only [h, flying, if_true]

/-- R17, R6: Enable of a link in DISABLED or FAULTED. -/
theorem enableLink_link {s : State} {k : Link} (h : (s.link k).state = .disabled ∨ (s.link k).state = .faulted) :
    (s.enableLink k).link k = { s.link k with
      state := .training, trainCount := 0, window := .running 10000, holdOff := .idle, sending := .cell .idle (idleCell s.straps.plane),
      retrainCount := if (s.link k).state = .faulted then 0 else (s.link k).retrainCount,
      counters := { (s.link k).counters with
        retrains := if (s.link k).state = .faulted then min ((s.link k).counters.retrains + 1) 4294967295 else (s.link k).counters.retrains } } := by
  unfold State.enableLink
  obtain h | h := h <;> simp [h, (enterTraining_spec _ _ _).1, bump, Config.counterMax]

theorem enableLink_kept {s : State} {k : Link} (h : (s.link k).state = .disabled ∨ (s.link k).state = .faulted) :
    s.otherLinksKept (s.enableLink k) k ∧ (s.enableLink k).queues = s.queues ∧ (s.enableLink k).pool = s.pool ∧
    (s.enableLink k).flow = s.flow ∧ (s.enableLink k).agent = s.agent ∧ (s.enableLink k).globals = s.globals ∧
    (s.enableLink k).tables = s.tables ∧ s.recordsKept (s.enableLink k) ∧ s.restKept (s.enableLink k) := by
  unfold State.enableLink
  obtain h | h := h
  · simp only [h]
    exact enterTraining_kept (by simp)
  · simp only [h]
    obtain ⟨others, kept⟩ := enterTraining_kept (s := s.modLink k fun p => { p with retrainCount := 0 }) (l := k) (old := .faulted) (by simp)
    refine ⟨fun n hn => ?_, kept⟩
    have := others n hn
    rwa [link_modLink_ne _ _ _ _ hn.symm] at this

theorem disableLink_enters {s : State} {k : Link}
    (h : (s.link k).state = .training ∨ (s.link k).state = .faulted ∨ ((s.link k).state = .up ∧ (s.link k).inFlight = none)) :
    s.disableLink k = s.enterDisabled k := by
  unfold State.disableLink
  obtain h | h | ⟨h, idle⟩ := h
  · simp only [h]
  · simp only [h]
  · simp only [h, idle, Option.isSome_none, Bool.false_eq_true, if_false]

/-- The laws of an entry into DISABLED speak of no request queue but to keep it. -/
theorem entersDisabled_requeued {s t : State} {k : Link} {rest : List Carried} (h : (requeued s rest).entersDisabled k t) :
    s.entersDisabled k (requeued t s.agent.queue) := by
  obtain ⟨own, queues, pool, flow, globals, held, others, banks, records, rest'⟩ := h
  obtain ⟨r1, r2, r3, r4, r5, r6, r7, r8, r9, r10, -, r12⟩ := rest'
  exact ⟨own, queues, pool, flow, globals, held, others, banks, records, r1, r2, r3, r4, r5, r6, r7, r8, r9, r10, rfl, r12⟩

theorem linkControl_badRange {s : State} {l : Link} {r : Payload} {rest : List Carried} {i : Instr} (h : s.hasRequest l r rest)
    (kind : recByte r 0 = 0x30) (out : 31 < (recByte r 4).toNat ∨ 3 < (recByte r 5).toNat) (hi : i.serves = some (requestRow r)) :
    s.answers i s l rest (replyBytes r 3 []) := by
  have row := requestRow_linkControl kind
  rw [row] at hi
  have noLink : ∀ {n : Nat}, recByte r 5 = BitVec.ofNat 8 n → n ≤ 3 → linkOf (recByte r 4) = none := by
    intro n e hn
    refine linkOf_none _ (out.resolve_right ?_)
    rw [e]; simp; omega
  obtain ⟨action, e⟩ | ⟨action, e⟩ | ⟨action, e⟩ | e := linkControlRow_cases (recByte r 5)
  all_goals rw [e] at hi row
  · obtain rfl := serves_disable hi
    refine answers_refused rfl .badRange h row ?_ rfl
    unfold answerDisable
    rw [noLink (n := 1) action (by omega)]
  · obtain rfl := serves_flush hi
    refine answers_refused rfl .badRange h row ?_ rfl
    unfold answerFlush
    rw [noLink (n := 2) action (by omega)]
  · obtain rfl := serves_retrain hi
    refine answers_refused rfl .badRange h row ?_ rfl
    unfold answerRetrain
    rw [noLink (n := 3) action (by omega)]
  · obtain rfl := serves_enable hi
    refine answers_refused rfl .badRange h row (answerEnable_badRange (out.imp_right fun high e => ?_)) rfl
    rw [e] at high
    exact absurd high (by decide)

/-- Settles O53: Enable and Disable by the state of the link named, each executed on the state whose queue the request has left. -/
theorem linksAreEnabledAndDisabled : Obligations.LinksAreEnabledAndDisabled := by
  intro s l k r rest h kind answer pendingByte
  refine ⟨fun out i hi => linkControl_badRange h kind out hi, fun hk action => ?_, fun hk action => ?_⟩
  · have row : requestRow r = .enable := (requestRow_linkControl kind).trans (by rw [action]; rfl)
    refine ⟨fun busy => answers_refused rfl .busy h row (answerEnable_busy hk action busy) rfl, fun free => ?_⟩
    have done := answerEnable_done (s := requeued s rest) hk action free
    rw [linkControlDone_eq] at done
    refine ⟨fun training => ?_, fun up => ?_, fun other => ?_⟩
    · rw [enableLink_training (s := requeued s rest) training] at done
      exact answers_of (exec_answered rfl _ s h row done rfl (linkControlData_eq (congrArg (num8 ·.code) training) rfl))
    · rw [enableLink_up (s := requeued s rest) up, link_modLink_same] at done
      exact answers_of (exec_answered rfl _ (s.modLink k fun p => { p with disablePending := false }) h row done rfl
        (linkControlData_eq (congrArg (num8 ·.code) up) rfl))
    · have own := enableLink_link (s := requeued s rest) other
      obtain ⟨others, queues, pool, flow, agent, globals, tables, records, rest'⟩ := enableLink_kept (s := requeued s rest) other
      obtain ⟨r1, r2, r3, r4, r5, r6, r7, r8, r9, r10, -, r12⟩ := rest'
      refine ⟨_, answers_requeued rfl h row done (congrArg Agent.queue agent) rfl (linkControlData_eq ?_ ?_), sameButPending_of_eq own, others, queues,
        pool, flow, ?_, globals, tables, records, r1, r2, r3, r4, r5, r6, r7, r8, r9, r10, rfl, r12⟩
      · rw [own]; rfl
      · rw [own]; rfl
      · exact congrArg (fun a : Agent => { a with queue := s.agent.queue }) agent
  · have row : requestRow r = .disable := (requestRow_linkControl kind).trans (by rw [action]; rfl)
    have done := answerDisable_done (r := r) (s := requeued s rest) hk
    rw [linkControlDone_eq] at done
    refine ⟨fun disabled => ?_, fun up flying => ?_, fun other => ?_⟩
    · rw [disableLink_disabled (s := requeued s rest) disabled] at done
      exact answers_of (exec_answered rfl _ s h row done rfl (linkControlData_eq (congrArg (num8 ·.code) disabled) rfl))
    · rw [disableLink_pends (s := requeued s rest) up flying, link_modLink_same] at done
      exact answers_of (exec_answered rfl _ (s.modLink k fun p => { p with disablePending := true }) h row done rfl
        (linkControlData_eq (congrArg (num8 ·.code) up) rfl))
    · have entered := enterDisabled_spec (requeued s rest) k
      have own := entered.1
      rw [disableLink_enters (s := requeued s rest) other] at done
      refine ⟨_, answers_requeued rfl h row done ?_ rfl (linkControlData_eq ?_ ?_), entersDisabled_requeued entered⟩
      · rw [enterDisabled_eq, linkChange_agent]; rfl
      · rw [own]; rfl
      · rw [own]; rfl

/-! ### Flush and Retrain -/

/-- R20: a Flush touches the queues, the pool, the Flow-Status Unit and, by a report, pending flags of links. -/
theorem flushQueues_touches (s : State) (qs : List QueueId) : s.flushQueues qs =
    { s with queues := (s.flushQueues qs).queues, pool := (s.flushQueues qs).pool, flow := (s.flushQueues qs).flow,
             links := (s.flushQueues qs).links } := by
  apply state_ext <;> simp

theorem flushQueues_linkQueues (s : State) (k : Link) (q : QueueId) :
    (s.flushQueues (linkQueues k)).queue q = if queueLink q = k then (s.queue q).flushed else s.queue q := by
  rw [flushQueues_queue s _ (linkQueues_nodup k)]
  simp only [mem_linkQueues]

theorem linkState_code (p : LinkPort) :
    num8 p.state.code = (match p.state with | .disabled => 0 | .training => 1 | .up => 2 | .faulted => 3) := by
  cases p.state <;> rfl

theorem retrain_answers {s : State} {l k : Link} {r : Payload} {rest : List Carried} (h : s.hasRequest l r rest) (row : requestRow r = .retrain)
    (hk : (recByte r 4).toNat = k.val) (hs : (s.link k).state = .up ∨ (s.link k).state = .faulted) :
    s.answers .retrain (requeued ((requeued s rest).retrainLink k) s.agent.queue) l rest (replyBytes r 0 [BitVec.ofNat 8 k.val, 1, 0]) := by
  have done := answerRetrain_done (s := requeued s rest) hk hs
  have own := retrainLink_link (requeued s rest) k hs
  obtain ⟨-, -, rest'⟩ := retrainLink_kept (requeued s rest) k
  obtain ⟨-, -, -, -, -, -, -, -, -, -, queue, -⟩ := rest'
  rw [linkControlDone_eq] at done
  refine answers_requeued rfl h row done queue rfl (linkControlData_eq ?_ ?_)
  · rw [own]; rfl
  · rw [own]; rfl

/-- Settles O54: a Flush by what a flush of the link's queues does, a Retrain by what `retrainLink` leaves, each executed on the state whose queue the
request has left. -/
theorem linksAreFlushedAndRetrained : Obligations.LinksAreFlushedAndRetrained := by
  intro s l k r rest h kind hk
  refine ⟨fun action => ?_, fun action => ⟨fun hs => ?_, fun hs => ?_⟩⟩
  · have row : requestRow r = .flush := (requestRow_linkControl kind).trans (by rw [action]; rfl)
    have done := answerFlush_done (r := r) (s := requeued s rest) hk
    rw [linkControlDone_eq] at done
    have queues := flushQueues_linkQueues (requeued s rest) k
    refine ⟨_, answers_requeued rfl h row done (by rw [flushQueues_agent]; rfl) rfl (linkControlData_eq ?_ ?_), fun c => ?_, fun q hq => ?_, ?_, ?_, ?_⟩
    · rw [flushQueues_port_state]; exact linkState_code _
    · rw [flushQueues_port_disablePending]; rfl
    · exact queueFlushed_of s _ _ ((queues _).trans (if_pos (queueLink_queueId k c)))
    · exact (queues q).trans (if_neg hq)
    · exact flushQueues_pool (requeued s rest) _ (linkQueues_nodup k)
    · rw [anyPaused_eq]
      exact flushQueues_reported (requeued s rest) (linkQueues k)
    · exact congrArg (requeued · s.agent.queue) (flushQueues_touches (requeued s rest) (linkQueues k))
  all_goals have row : requestRow r = .retrain := (requestRow_linkControl kind).trans (by rw [action]; rfl)
  · exact answers_refused rfl .badState h row (answerRetrain_badState hk hs) rfl
  · have queues := retrainLink_queue (requeued s rest) k
    obtain ⟨banks, records, rest'⟩ := retrainLink_kept (requeued s rest) k
    obtain ⟨r1, r2, r3, r4, r5, r6, r7, r8, r9, r10, -, r12⟩ := rest'
    refine ⟨_, retrain_answers h row hk hs, retrainLink_link (requeued s rest) k hs, fun c => ?_, retrainLink_pool (requeued s rest) k,
      retrainLink_globals (requeued s rest) k, retrainLink_flushReported (requeued s rest) k, ?_, fun n hn => (retrainLink_other (requeued s rest) k n hn).1,
      fun q hq => (queues q).trans (if_neg hq), banks, records, r1, r2, r3, r4, r5, r6, r7, r8, r9, r10, rfl, r12⟩
    · exact queueFlushed_of s _ _ ((queues _).trans (if_pos (queueLink_queueId k c)))
    · refine (retrainLink_held (requeued s rest) k).trans ?_
      unfold heldElsewhere
      rw [show (requeued s rest).agent.held = none from h.2.1]
      rfl

end Sys2Proof.LinkPorts
end

section
/-! PROOFS. The fields of an arriving cell and the bytes of cells built and forwarded (R1, R2, R96, R184, R185). -/

namespace Sys2Proof.LinkPorts

open Sys2Proof.Machine Sys2Proof.Laws

/-! ### Fields of a cell -/

theorem highNibble_toNat (b : Byte) : (b.extractLsb' 4 4).toNat = b.toNat / 16 := by
  have := b.isLt
  rw [BitVec.extractLsb'_toNat, Nat.shiftRight_eq_div_pow]
  omega

theorem lowNibble_toNat (b : Byte) : (b.extractLsb' 0 4).toNat = b.toNat % 16 := by
  rw [BitVec.extractLsb'_toNat, Nat.shiftRight_zero]

theorem topBit_iff (b : Byte) : b.getLsbD 7 = true ↔ 128 ≤ b.toNat := by
  have top : b.getLsbD 7 = b.msb := (BitVec.msb_eq_getLsbD_last b).symm
  rw [top, BitVec.msb_eq_decide]
  simp

/-- R184: the codes 0 to 7 name the kinds, and the others name none. -/
theorem ofCode_eq_some (c : BitVec 4) (k : CellKind) : CellKind.ofCode c = some k ↔ c = k.code := by
  revert c
  cases k <;> decide
theorem ofCode_eq_none (c : BitVec 4) : CellKind.ofCode c = none ↔ 8 ≤ c.toNat := by
  revert c
  decide

theorem headerCheckGood_iff (cell : Cell) : headerCheckGood cell = true ↔ crc8 (cell.toList.take 9) = cell[9] := by
  simp [headerCheckGood]

theorem goodHeaderKind_eq_some (cell : Cell) (k : CellKind) :
    goodHeaderKind cell = some k ↔ crc8 (cell.toList.take 9) = cell[9] ∧ cell[0].toNat / 16 = k.code.toNat := by
  rw [← headerCheckGood_iff, ← highNibble_toNat, BitVec.toNat_inj, ← ofCode_eq_some]
  unfold goodHeaderKind cellKind
  split
  · next good => simp [good]
  · next bad => simp [bad]

theorem goodHeaderKind_eq_none (cell : Cell) :
    goodHeaderKind cell = none ↔ crc8 (cell.toList.take 9) ≠ cell[9] ∨ 8 ≤ cell[0].toNat / 16 := by
  rw [ne_eq, ← headerCheckGood_iff, ← highNibble_toNat, ← ofCode_eq_none]
  unfold goodHeaderKind cellKind
  split
  · next good => simp [good]
  · next bad => simp [bad]

theorem cellClass_val (cell : Cell) : (cellClass cell).val = cell[0].toNat / 4 % 4 := by
  show (cell[0].extractLsb' 2 2).toNat = _
  rw [BitVec.extractLsb'_toNat, Nat.shiftRight_eq_div_pow]

theorem append_byte_toNat {v : Nat} (a : BitVec v) (b : Byte) : (a ++ b).toNat = 256 * a.toNat + b.toNat := by
  rw [BitVec.toNat_append, ← Nat.shiftLeft_add_eq_or_of_lt b.isLt, Nat.shiftLeft_eq, Nat.mul_comm]

theorem cellDest_eq (cell : Cell) : cellDest cell = 256 * (cell[2].toNat % 16) + cell[3].toNat := by
  unfold cellDest
  rw [append_byte_toNat, lowNibble_toNat]

theorem payloadBytes_length (cell : Cell) : ((cell.toList.drop 10).take 64).length = 64 := by simp

theorem cellPayload_toList (cell : Cell) : (cellPayload cell).toList = (cell.toList.drop 10).take 64 :=
  packBytes_toList 64 _ (payloadBytes_length cell)

theorem cellPayload_get (cell : Cell) (n : Fin 64) : (cellPayload cell)[n.val] = cell[10 + n.val] := by
  unfold cellPayload
  rw [packBytes_get _ _ _ n.isLt]
  simp [List.getD_eq_getElem?_getD]

theorem payloadCheckGood_iff (cell : Cell) :
    payloadCheckGood cell = true ↔ (crc16 (cellPayload cell).toList).toNat = 256 * cell[74].toNat + cell[75].toNat := by
  unfold payloadCheckGood
  rw [beq_iff_eq, cellPayload_toList, ← BitVec.toNat_inj, append_byte_toNat]

/-- Settles O21: each field by its position. -/
theorem cellFieldsAreReadByPosition : Obligations.CellFieldsAreReadByPosition := fun cell =>
  ⟨goodHeaderKind_eq_some cell, goodHeaderKind_eq_none cell, cellClass_val cell, topBit_iff cell[1], lowNibble_toNat cell[1], cellDest_eq cell,
    cellPayload_get cell, payloadCheckGood_iff cell⟩

/-! ### Built cells -/

/-- A 16-bit field, high byte first (R183). -/
theorem be16_value (v : BitVec 16) : (v.extractLsb' 8 8).toNat * 256 + (v.extractLsb' 0 8).toNat = v.toNat := by
  have pair := congrArg BitVec.toNat (be16_pair v)
  rw [append_byte_toNat] at pair
  omega

theorem cellPayload_buildCell (kind : CellKind) (plane : BitVec 3) (length : Byte) (payload : Payload) :
    cellPayload (buildCell kind plane length payload) = payload := by
  obtain ⟨-, -, -, -, -, -, -, -, -, -, -, -, same⟩ := buildCell_fields kind plane length payload
  exact same

/-- R1: what every cell the device builds has in its header, and its payload check. -/
theorem buildCell_header (kind : CellKind) (plane : BitVec 3) (length : Byte) (payload : Payload) :
    let cell := buildCell kind plane length payload
    goodHeaderKind cell = some kind ∧ payloadCheckGood cell = true ∧ cellClass cell = 0 ∧ cell[0].getLsbD 1 = true ∧ cell[0].getLsbD 0 = true ∧
      cell[1] = 0 ∧ cellDest cell = 0 ∧ cell[4].toNat = plane.toNat ∧ cell[5] = 0 ∧ cell[6] = 0 ∧ cell[7] = length ∧ cell[8] = 0 := by
  obtain ⟨h1, h2, h3, h4, h5, h6, h7, h8, h9, h10, h11, h12, -⟩ := buildCell_fields kind plane length payload
  exact ⟨h1, h2, h3, h4, h5, h6, h7, h8, h9, h10, h11, h12⟩

theorem idleCell_payload (plane : BitVec 3) (n : Fin 64) : (cellPayload (idleCell plane))[n.val] = 0 := by
  simp only [idleCell, cellPayload_buildCell, packBytes_get]
  rfl

theorem attnCell_payload (plane : BitVec 3) (epoch : Epoch) (flags : FlagSet) (links : LinkSet) (i : Nat) (hi : i < 64) :
    (cellPayload (attnCell plane epoch flags links))[i] = (be16 epoch ++ [flags] ++ setBytes links).getD i 0 := by
  simp only [attnCell, cellPayload_buildCell]
  exact packBytes_get _ _ _ hi

theorem flowstCell_payload (plane : BitVec 3) (epoch : Epoch) (paused : Nat → Bool) (i : Nat) (hi : i < 64) :
    (cellPayload (flowstCell plane epoch paused))[i] = (be16 epoch ++ queueSetBytes paused).getD i 0 := by
  simp only [flowstCell, cellPayload_buildCell]
  exact packBytes_get _ _ _ hi

/-- A queue set: queue q in bit (q mod 8) of byte (q div 8) (R183). -/
theorem queueSetBytes_bit (paused : Nat → Bool) (q : Fin 128) : ((queueSetBytes paused).getD (q.val / 8) 0).getLsbD (q.val % 8) = paused q.val := by
  have hb : q.val / 8 < 16 := by omega
  unfold queueSetBytes
  rw [List.getD_eq_getElem?_getD, List.getElem?_map, List.getElem?_range hb]
  simp only [Option.map_some, Option.getD_some]
  rw [flagsToByte_bit _ _ (by omega), Nat.div_add_mod]

theorem queueSetBytes_length (paused : Nat → Bool) : (queueSetBytes paused).length = 16 := by simp [queueSetBytes]

theorem getD_beyond (bytes : List Byte) (i : Nat) (h : bytes.length ≤ i) : bytes.getD i 0 = 0 := by
  rw [List.getD_eq_getElem?_getD, List.getElem?_eq_none h]
  rfl

/-! ### Forwarded cells -/

/-- Byte 1 of a forwarded cell (R96). -/
def markedByte (b : Byte) (mark : Bool) : Byte := (b &&& 0xF0) ||| (if mark then 0x80 else 0)

theorem markedByte_mark (b : Byte) (mark : Bool) : (markedByte b mark).getLsbD 7 = (b.getLsbD 7 || mark) := by
  cases mark <;> simp [markedByte]

theorem markedByte_gap (b : Byte) (mark : Bool) : ((markedByte b mark).extractLsb' 0 4).toNat = 0 := by
  have zero : (markedByte b mark).extractLsb' 0 4 = 0 := by
    apply BitVec.eq_of_getLsbD_eq
    intro i hi
    cases mark <;> interval_cases i <;> simp [markedByte]
  rw [zero]
  rfl

theorem markedByte_rest (b : Byte) (mark : Bool) : (markedByte b mark).toNat / 16 % 8 = b.toNat / 16 % 8 := by
  have same : (markedByte b mark).extractLsb' 4 3 = b.extractLsb' 4 3 := by
    apply BitVec.eq_of_getLsbD_eq
    intro i hi
    cases mark <;> interval_cases i <;> simp [markedByte]
  have values := congrArg BitVec.toNat same
  simpa only [BitVec.extractLsb'_toNat, Nat.shiftRight_eq_div_pow] using values

/-- A forwarded cell before its header check is written. -/
def markedCell (cell : Cell) (mark : Bool) : Cell := cell.set 1 (markedByte cell[1] mark)

theorem egressCell_eq (cell : Cell) (mark : Bool) :
    egressCell cell mark = (markedCell cell mark).set 9 (crc8 ((markedCell cell mark).toList.take 9)) := rfl

theorem egressCell_other (cell : Cell) (mark : Bool) (n : Fin 76) (h1 : n.val ≠ 1) (h9 : n.val ≠ 9) : (egressCell cell mark)[n.val] = cell[n.val] := by
  rw [egressCell_eq, Vector.getElem_set_ne _ _ h9.symm, markedCell, Vector.getElem_set_ne _ _ h1.symm]

theorem egressCell_marked (cell : Cell) (mark : Bool) : (egressCell cell mark)[1] = markedByte cell[1] mark := by
  rw [egressCell_eq, Vector.getElem_set_ne _ _ (by decide), markedCell, Vector.getElem_set_self]

theorem egressCell_headerCheck (cell : Cell) (mark : Bool) : headerCheckGood (egressCell cell mark) = true := by
  rw [headerCheckGood_iff, egressCell_eq, Vector.getElem_set_self, Vector.toList_set, List.take_set_of_le (by decide)]

/-- Settles O22. -/
theorem cellsAreBuiltAndForwardedByteForByte : Obligations.CellsAreBuiltAndForwardedByteForByte := by
  refine ⟨fun plane epoch flags links paused record => ⟨fun cell kind length built => ?_, idleCell_payload plane, cellPayload_buildCell _ _ _ _, ?_, ?_⟩,
    fun cell mark => ⟨egressCell_other cell mark, ?_, ?_, ?_, egressCell_headerCheck cell mark⟩⟩
  · simp only [List.mem_cons, Prod.mk.injEq, List.not_mem_nil, or_false] at built
    obtain ⟨rfl, rfl, rfl⟩ | ⟨rfl, rfl, rfl⟩ | ⟨rfl, rfl, rfl⟩ | ⟨rfl, rfl, rfl⟩ := built <;> exact buildCell_header _ plane _ _
  · intro p
    have byte := attnCell_payload plane epoch flags links
    refine ⟨?_, byte 2 (by decide), fun l => ?_, fun n => ?_⟩
    · rw [byte 0 (by decide), byte 1 (by decide)]
      exact be16_value epoch
    · rw [byte _ (by omega), getD_append_right _ _ _ (by simp [be16]), show links.getLsbD l.val = LinkSet.has links l from rfl, ← setBytes_has]
      simp [be16]
    · rw [byte _ (by omega)]
      exact getD_beyond _ _ (by simp [be16, setBytes_length])
  · intro p
    have byte := flowstCell_payload plane epoch paused
    refine ⟨?_, fun q => ?_, fun n => ?_⟩
    · rw [byte 0 (by decide), byte 1 (by decide)]
      exact be16_value epoch
    · rw [byte _ (by omega), getD_append_right _ _ _ (by simp [be16]), ← queueSetBytes_bit paused q]
      simp [be16]
    · rw [byte _ (by omega)]
      exact getD_beyond _ _ (by simp [be16, queueSetBytes_length])
  · unfold cellMark
    rw [egressCell_marked]
    exact markedByte_mark _ _
  · unfold cellGap
    rw [egressCell_marked]
    exact markedByte_gap _ _
  · rw [egressCell_marked]
    exact markedByte_rest _ _

end Sys2Proof.LinkPorts
end

section
/-! PROOFS. The edges of RST_N and the laws at power-on (R189, R190, R153). -/

namespace Sys2Proof.LinkPorts

open Sys2Proof.Machine Sys2Proof.Laws

/-! ### Items at power-on -/

/-- The state with every item at its power-on value, with four timers and the senders as given: `running` and an IDLE cell make the state after the
rise of RST_N, IDLE timers and nothing sent the one after its fall. -/
def powerOnWith (straps : Straps) (running : Nat → Timer) (sending : Sending) (rstN : Bool) (freeCtr : Nat) (pending : List Instr) : State :=
  { State.powerOn straps with
    rstN := rstN
    links := Vector.replicate 32 { LinkPort.powerOn straps.plane with window := running Config.trainingWindow, sending := sending }
    monitor := ⟨127, running 4⟩
    epoch := ⟨0, running 100, false, 0, none⟩
    scrub := ⟨0, running 1⟩
    freeCtr := freeCtr
    pending := pending }

theorem single_has (l k : Link) : LinkSet.has (LinkSet.single l) k = true ↔ k = l := by
  unfold LinkSet.has LinkSet.single
  rw [BitVec.getLsbD_twoPow]
  simp only [Bool.and_eq_true, decide_eq_true_eq]
  exact ⟨fun h => Fin.ext h.2.symm, fun h => ⟨l.isLt, congrArg Fin.val h.symm⟩⟩

theorem pair_has (a b k : Link) : LinkSet.has (LinkSet.single a ||| LinkSet.single b) k = true ↔ k = a ∨ k = b := by
  rw [← single_has a k, ← single_has b k]
  unfold LinkSet.has
  rw [BitVec.getLsbD_or, Bool.or_eq_true]

theorem powerOn_bank (straps : Straps) (b : Bank) : (State.powerOn straps).bank b = ⟨[], []⟩ := slot_replicate _ b

theorem powerOn_groupEntry (straps : Straps) (b : Bank) (i : Nat) : (State.powerOn straps).entry .group b i =
    ⟨.group ⟨0, false, none, 0⟩, (EntryFields.group ⟨0, false, none, 0⟩).checkCode⟩ := by
  simp only [State.entry, powerOn_bank, Memory.read, powerOnGroup, initialGroup]
theorem powerOn_destEntry (straps : Straps) (b : Bank) (i : Nat) : (State.powerOn straps).entry .destination b i =
    ⟨.destination ⟨0, 0, none⟩, (EntryFields.destination ⟨0, 0, none⟩).checkCode⟩ := by
  simp only [State.entry, powerOn_bank, Memory.read, powerOnDest, initialDest]

theorem powerOn_free : Pool.powerOn.free = List.range 16384 := by simp only [Pool.powerOn, Config.bufferCount]

theorem powerOnWith_items (straps : Straps) (running : Nat → Timer) (sending : Sending) (rstN : Bool) (freeCtr : Nat) (pending : List Instr) :
    (powerOnWith straps running sending rstN freeCtr pending).itemsAtPowerOn straps running sending :=
  ⟨rfl, fun l => slot_replicate _ l, powerOn_queue straps, rfl, powerOn_free, fun _ => ⟨rfl, rfl⟩, rfl, rfl, rfl, rfl, fun d => slot_replicate _ d,
    powerOn_groupEntry straps, powerOn_destEntry straps, rfl, rfl, rfl, rfl, rfl, rfl, pair_has straps.mgp straps.mgs, rfl, rfl, rfl, rfl⟩

theorem exec_rise {plane : BitVec 3} {mgp mgs : Link} {s : State} (low : s.rstN = false) : exec (.rstNRise plane mgp mgs) s =
    .next (powerOnWith ⟨plane, mgp, mgs⟩ .running (.cell .idle (idleCell plane)) true s.freeCtr s.pending) :=
  congrArg _ (if_neg (by simp [low]))

theorem exec_fall {s : State} (high : s.rstN = true) :
    exec .rstNFall s = .next (powerOnWith s.straps (fun _ => .idle) .nothing false s.freeCtr s.pending) := congrArg _ (if_pos high)

theorem default_recipients : Params.default.recipients = BitVec.allOnes 32 := by decide

/-- Settles O4: both edges give a state of `powerOnWith`. -/
theorem resetPinGivesPowerOnItems : Obligations.ResetPinGivesPowerOnItems := by
  refine ⟨⟨rfl, fun plane mgp mgs s low => ⟨_, exec_rise low, rfl, powerOnWith_items ⟨plane, mgp, mgs⟩ _ _ _ _ _, rfl⟩⟩, ?_,
    fun s high => ⟨_, exec_fall high, rfl, powerOnWith_items s.straps _ _ _ _ _, rfl⟩⟩
  rw [← default_recipients]
  rfl

/-! ### The laws at power-on -/

theorem default_inRange : Params.default.inRange := by
  refine ⟨by decide, by decide, by decide, by decide, fun k => ?_, fun l => ?_, by decide, by decide, by decide, by decide, by decide, by decide,
    by decide, by decide, by decide, by decide⟩
  · cases k <;> decide
  · rw [show slot Params.default.gap l = 0 from slot_replicate _ l]
    exact Nat.zero_le _

theorem powerOn_storesCanonical (straps : Straps) : (State.powerOn straps).storesCanonical :=
  ⟨fun b => by rw [powerOn_bank]; exact ⟨rfl, rfl⟩, rfl, rfl, .nil, .nil⟩

theorem powerOn_queuesLawful (straps : Straps) : (State.powerOn straps).queuesLawful := by
  intro q
  rw [powerOn_queue]
  exact ⟨Nat.zero_le _, by simp [OutQueue.powerOn], Nat.zero_le _, Nat.zero_le _⟩

theorem powerOn_holdersAt (straps : Straps) (l : Link) (h : Handle) : (State.powerOn straps).holdersAt l h = 0 := by
  unfold State.holdersAt
  rw [powerOn_link]
  simp [powerOn_queue, OutQueue.powerOn, LinkPort.powerOn]

theorem powerOn_holders (straps : Straps) (h : Handle) : (State.powerOn straps).holders h = 0 := by
  unfold State.holders
  simp [powerOn_holdersAt]

/-- R63: at power-on every handle is FREE. -/
theorem powerOn_conditions (h : Handle) : Pool.powerOn.conditions h = if h < 16384 then 1 else 0 := by
  have free : h ∈ Pool.powerOn.free ↔ h < 16384 := by rw [powerOn_free, List.mem_range]
  have count : ¬ 1 ≤ Pool.powerOn.refCount h := Nat.not_succ_le_zero 0
  have retired : ¬ h ∈ Pool.powerOn.retired := List.not_mem_nil
  have underTest : ¬ h ∈ Pool.powerOn.underTest := List.not_mem_nil
  unfold Pool.conditions
  simp only [free, count, retired, underTest, if_false, Nat.add_zero]

theorem powerOn_poolLawful (straps : Straps) : (State.powerOn straps).poolLawful := by
  have nodup : (State.powerOn straps).pool.free.Nodup := by
    rw [show (State.powerOn straps).pool.free = _ from powerOn_free]
    exact List.nodup_range
  refine ⟨fun h => (powerOn_holders straps h).symm, fun l h => by rw [powerOn_holdersAt]; exact Nat.zero_le _,
    fun h inside => (powerOn_conditions h).trans (if_pos inside), fun h outside => (powerOn_conditions h).trans (if_neg (not_lt.2 outside)),
    nodup, fun h counted => absurd counted (Nat.not_succ_le_zero 0), fun running => ?_, fun _ => rfl⟩
  cases running

theorem powerOn_latchLawful (straps : Straps) : (State.powerOn straps).latchLawful := by
  have length : (State.powerOn straps).pool.free.length = 16384 := by
    rw [show (State.powerOn straps).pool.free = _ from powerOn_free, List.length_range]
  unfold State.latchLawful
  rw [length]
  rfl

theorem powerOn_opLawful (straps : Straps) : (State.powerOn straps).opLawful := by
  intro r hr
  cases hr
theorem powerOn_standbyWriterLawful (straps : Straps) : (State.powerOn straps).standbyWriterLawful := by
  intro running
  cases running

theorem permitted_ne_zero (a b : Link) : LinkSet.single a ||| LinkSet.single b ≠ 0 := by
  intro none
  have member := (pair_has a b a).2 (.inl rfl)
  rw [none] at member
  simp [LinkSet.has] at member

theorem powerOn_recordsLawful (straps : Straps) : (State.powerOn straps).recordsLawful :=
  ⟨permitted_ne_zero straps.mgp straps.mgs, Nat.zero_le _, ⟨by simp [State.powerOn], by simp [State.powerOn]⟩, by simp [State.powerOn]⟩

theorem powerOn_countersBounded (straps : Straps) : (State.powerOn straps).countersBounded := by
  refine ⟨fun l => ?_, fun q => ?_, ?_⟩
  · rw [powerOn_link]
    show ∀ n ∈ LinkCounters.zero.all, n ≤ 4294967295
    decide
  · rw [powerOn_queue]
    decide
  · show ∀ n ∈ (⟨0, 0, 0, 0, 0, 0, 0, 0⟩ : GlobalCounters).all, n ≤ 4294967295
    decide

/-- Settles O5: each law at power-on, for the straps of `State.reset`. -/
theorem resetMeetsEveryLaw : Obligations.ResetMeetsEveryLaw :=
  ⟨powerOn_storesCanonical _, default_inRange, powerOn_queuesLawful _, powerOn_linksLawful _, powerOn_poolLawful _, powerOn_latchLawful _,
    powerOn_opLawful _, powerOn_standbyWriterLawful _, powerOn_recordsLawful _, powerOn_countersBounded _⟩

end Sys2Proof.LinkPorts
end

section
/-! PROOFS. Stored entries: what a verifying read finds, what marking does, disturbances and scrub steps (R28 to R30, R170, R171). -/

namespace Sys2Proof.ForwardingTables

open Sys2Proof.Machine Sys2Proof.Laws

/-! ### Reading entries -/

/-- Reading an entry looks at the tables only. -/
theorem entry_congr {s t : State} (h : s.tables = t.tables) (tb : Table) (b : Bank) (i : Nat) : s.entry tb b i = t.entry tb b i := by
  unfold State.entry State.bank
  rw [h]

/-- Reading an entry of a bank looks at the content of the banks only. -/
theorem entry_congr_banks {s t : State} (h : s.tables.banks = t.tables.banks) (tb : Table) (b : Bank) (i : Nat) :
    s.entry tb b i = t.entry tb b i := by
  unfold State.entry State.bank
  rw [h]

theorem activeDest_congr {s t : State} (h : s.tables = t.tables) (d : Nat) : s.activeDest d = t.activeDest d := by
  unfold State.activeDest State.bank
  rw [h]

theorem entry_activeDest (s : State) (d : Nat) : (s.entry .destination s.tables.active d).fields = .destination (s.activeDest d) := rfl
theorem entry_activeGroup (s : State) (g : Nat) : (s.entry .group s.tables.active g).fields = .group (s.activeGroup g) := rfl

theorem withState_table (e : EntryFields) (code : Byte) : (e.withState code).table = e.table := by cases e <;> rfl

@[simp] theorem putEntry_active (s : State) (b : Bank) (i : Nat) (e : EntryFields) (code : Byte) :
    (s.putEntry b i e code).tables.active = s.tables.active := by cases e <;> rfl
@[simp] theorem putEntry_selectors (s : State) (b : Bank) (i : Nat) (e : EntryFields) (code : Byte) :
    (s.putEntry b i e code).tables.selectors = s.tables.selectors := by cases e <;> rfl

/-! ### Verifying reads (R29) -/

theorem isCorrupt_iff (s : State) (tb : Table) (b : Bank) (i : Nat) :
    (s.entry tb b i).fields.isCorrupt = true ↔ (s.entry tb b i).fields.state = corruptCode tb := by
  unfold EntryFields.isCorrupt
  rw [entry_table, beq_iff_eq]

/-- A State below the code of CORRUPT is a defined one other than CORRUPT. -/
theorem state_below_corrupt (e : EntryFields) :
    e.state.toNat < (corruptCode e.table).toNat ↔ e.state ≠ corruptCode e.table ∧ e.stateUndefined = false := by
  unfold EntryFields.stateUndefined
  rw [decide_eq_false_iff_not, ← BitVec.toNat_ne_iff_ne]
  omega

theorem goodEntry_iff (e : Stored EntryFields) : goodEntry e ↔ e.fields.state ≠ corruptCode e.fields.table ∧ e.fields.mismatch e.code = false := by
  unfold goodEntry EntryFields.mismatch EntryFields.checkCode
  rw [state_below_corrupt, Bool.or_eq_false_iff, Bool.or_eq_false_iff, bne_eq_false_iff_eq, and_assoc, and_assoc, eq_comm (a := e.code)]

theorem badEntry_iff (e : Stored EntryFields) : badEntry e ↔ e.fields.state ≠ corruptCode e.fields.table ∧ e.fields.mismatch e.code = true := by
  unfold badEntry
  rw [goodEntry_iff, not_and, Bool.not_eq_false]
  exact and_congr_right fun h => ⟨fun k => k h, fun k _ => k⟩

theorem verify_corrupt {s : State} {tb : Table} {b : Bank} {i : Nat} (h : (s.entry tb b i).fields.state = corruptCode tb) :
    s.verify tb b i = (false, s) := if_pos ((isCorrupt_iff s tb b i).2 h)

theorem verify_good {s : State} {tb : Table} {b : Bank} {i : Nat} (h : goodEntry (s.entry tb b i)) : s.verify tb b i = (true, s) := by
  obtain ⟨live, sound⟩ := (goodEntry_iff _).1 h
  rw [entry_table] at live
  exact (if_neg (mt (isCorrupt_iff s tb b i).1 live)).trans (if_neg (by simp [sound]))

theorem verify_bad {s : State} {tb : Table} {b : Bank} {i : Nat} (h : badEntry (s.entry tb b i)) :
    s.verify tb b i = (false, s.markCorrupt tb b i) := by
  obtain ⟨live, found⟩ := (badEntry_iff _).1 h
  rw [entry_table] at live
  exact (if_neg (mt (isCorrupt_iff s tb b i).1 live)).trans (if_pos found)

/-- Everything a verifying read can leave: the state as it was, or the entry marked. -/
theorem verify_cases (s : State) (tb : Table) (b : Bank) (i : Nat) :
    (s.verify tb b i).2 = s ∨ (s.verify tb b i).2 = s.markCorrupt tb b i := by
  unfold State.verify
  dsimp only
  split
  · exact .inl rfl
  · split
    · exact .inr rfl
    · exact .inl rfl

/-! ### Marking (R30) -/

/-- The entry that marking leaves. -/
theorem markCorrupt_tables (s : State) (tb : Table) (b : Bank) (i : Nat) : (s.markCorrupt tb b i).tables =
    (s.putEntry b i ((s.entry tb b i).fields.withState (corruptCode tb)) (s.entry tb b i).code).tables := by
  unfold State.markCorrupt
  rw [raise_tables]
  rfl

@[simp] theorem markCorrupt_active (s : State) (tb : Table) (b : Bank) (i : Nat) : (s.markCorrupt tb b i).tables.active = s.tables.active := by
  rw [markCorrupt_tables, putEntry_active]
@[simp] theorem markCorrupt_selectors (s : State) (tb : Table) (b : Bank) (i : Nat) :
    (s.markCorrupt tb b i).tables.selectors = s.tables.selectors := by
  rw [markCorrupt_tables, putEntry_selectors]

theorem markCorrupt_entry {s : State} (wf : s.storesCanonical) (tb : Table) (b : Bank) (i : Nat) (tb' : Table) (b' : Bank) (i' : Nat) :
    (s.markCorrupt tb b i).entry tb' b' i' = if tb' = tb ∧ b' = b ∧ i' = i then
      ⟨(s.entry tb b i).fields.withState (corruptCode tb), (s.entry tb b i).code⟩ else s.entry tb' b' i' := by
  rw [entry_congr (markCorrupt_tables s tb b i), entry_putEntry s wf, withState_table, entry_table]

theorem markCorrupt_globals (s : State) (tb : Table) (b : Bank) (i : Nat) :
    (s.markCorrupt tb b i).globals = { s.globals with corruptFound := bump s.globals.corruptFound 1 } := by
  unfold State.markCorrupt
  rw [raise_globals]
  simp [State.countGlobal]

theorem markCorrupt_lastCorrupt (s : State) (tb : Table) (b : Bank) (i : Nat) :
    (s.markCorrupt tb b i).attn.lastCorrupt = some ⟨tb, b, i⟩ := by
  unfold State.markCorrupt
  rw [raise_attn_lastCorrupt]
@[simp] theorem markCorrupt_attn_links (s : State) (tb : Table) (b : Bank) (i : Nat) :
    (s.markCorrupt tb b i).attn.links = s.attn.links := by
  unfold State.markCorrupt
  rw [raise_attn_links]
  simp
@[simp] theorem markCorrupt_attn_miss (s : State) (tb : Table) (b : Bank) (i : Nat) : (s.markCorrupt tb b i).attn.miss = s.attn.miss := by
  unfold State.markCorrupt
  rw [raise_attn_miss]
  simp
theorem markCorrupt_flags (s : State) (tb : Table) (b : Bank) (i : Nat) (f : AttnFlag) :
    FlagSet.has (s.markCorrupt tb b i).attn.flags f = (decide (f = .entryCorrupt) || FlagSet.has s.attn.flags f) := by
  unfold State.markCorrupt
  rw [raise_flags]
  simp

theorem markCorrupt_same (s : State) (tb : Table) (b : Bank) (i : Nat) (k : Link) :
    ((s.markCorrupt tb b i).link k).sameButPending (s.link k) := by
  unfold State.markCorrupt
  exact sameButPending_trans (raise_same _ _ k) (sameButPending_of_eq (link_congr (by simp) k))

theorem markCorrupt_marks {s : State} (wf : s.storesCanonical) (tb : Table) (b : Bank) (i : Nat) : s.marks tb b i (s.markCorrupt tb b i) := by
  refine ⟨?_, fun tb' b' i' other => ?_, markCorrupt_globals s tb b i, markCorrupt_lastCorrupt s tb b i, markCorrupt_attn_links s tb b i, ?_⟩
  · rw [markCorrupt_entry wf, if_pos ⟨rfl, rfl, rfl⟩]
  · rw [markCorrupt_entry wf, if_neg]
    rintro ⟨rfl, rfl, rfl⟩
    exact other rfl
  · rw [markCorrupt_flags]
    rfl

/-! ### Disturbances and scrub steps (R28, R170, R171) -/

theorem putEntry_frame (s : State) (b : Bank) (i : Nat) (e : EntryFields) (code : Byte) :
    s.putEntry b i e code = { s with tables := (s.putEntry b i e code).tables } := by
  cases e <;> rfl

/-- Where a table begins within a bank in scrub order and in copy order: the Group Table first, then the Destination Map (R162, R171). -/
def tableBase : Table → Nat
  | .group => 0
  | .destination => 4096

/-- R171: the entry at the position of an index in scrub order. -/
theorem scrubEntry_at (tb : Table) (b : Bank) (n : Nat) (h : n < tb.size) : scrubEntry (tableBase tb + 4128 * b.val + n) = (tb, b, n) := by
  obtain rfl | rfl : b = 0 ∨ b = 1 := by
    revert b
    decide
  all_goals
    unfold scrubEntry
    cases tb <;> simp only [Table.size] at h
  · simp [tableBase, h]
  · simp [tableBase, show 4096 + n < 4128 by omega]
  · simp [tableBase, show ¬ 4128 + n < 4096 by omega, show 4128 + n < 8224 by omega]
  · simp [tableBase, show ¬ 8224 + n < 4096 by omega, show ¬ 8224 + n < 4128 by omega]

/-- The state after the cursor has moved on and the scrub timer has been restarted. -/
def scrubMoved (s : State) : State :=
  { s with scrub := ⟨⟨(s.scrub.cursor.val + 1) % 8256, Nat.mod_lt _ (by decide)⟩, .running s.params.scrubStep⟩ }

theorem exec_scrubStep {s : State} {tb : Table} {b : Bank} {n : Nat} (hr : s.rstN = true) (ht : s.scrub.timer ≠ .idle)
    (hp : 1 ≤ s.params.scrubStep) (at_n : scrubEntry s.scrub.cursor.val = (tb, b, n)) :
    exec .scrubStep s = .next ((scrubMoved s).verify tb b n).2 := by
  have timer : scrubTimer s.params.scrubStep = .running s.params.scrubStep := if_neg (by omega)
  have moved : ({ s with scrub := ⟨s.scrub.cursor + 1, scrubTimer s.params.scrubStep⟩ } : State) = scrubMoved s := by
    rw [timer]
    rfl
  show execScrubStep s = _
  unfold execScrubStep State.scrubVisit
  rw [if_pos ⟨hr, ht⟩, at_n, moved]

/-- Settles O42: a disturbance is one `putEntry`, a scrub step one verifying read of the entry at the cursor. -/
theorem entriesAreDisturbedAndScrubbed : Obligations.EntriesAreDisturbedAndScrubbed := by
  refine ⟨fun s b n e code wf inside => ?_, fun s tb b n hr ht hp inside cursor => ?_⟩
  · refine ⟨s.putEntry b n e code, congrArg _ (if_pos inside), ?_, fun tb' b' n' other => ?_, by simp, by simp, putEntry_frame s b n e code⟩
    · rw [entry_putEntry s wf, if_pos ⟨rfl, rfl, rfl⟩]
    · rw [entry_putEntry s wf, if_neg]
      rintro ⟨rfl, rfl, rfl⟩
      exact other rfl
  · have position : s.scrub.cursor.val = tableBase tb + 4128 * b.val + n := by cases tb <;> exact cursor
    have stepped := exec_scrubStep hr ht hp (position ▸ scrubEntry_at tb b n inside)
    refine ⟨entry_table s tb b n, fun found => ?_, fun wf bad => ?_⟩
    · rw [stepped]
      obtain corrupt | good := found
      · exact congrArg (fun v => Host.Outcome.next v.2) (verify_corrupt (s := scrubMoved s) corrupt)
      · exact congrArg (fun v => Host.Outcome.next v.2) (verify_good (s := scrubMoved s) good)
    · rw [verify_bad (s := scrubMoved s) bad] at stepped
      exact ⟨_, stepped, markCorrupt_marks (s := scrubMoved s) wf tb b n, by simp [scrubMoved], by simp [scrubMoved], by simp [scrubMoved],
        markCorrupt_same (scrubMoved s) tb b n, by apply state_ext <;> simp [scrubMoved]⟩

end Sys2Proof.ForwardingTables
end

section
/-! PROOFS. The steps of Fill, Copy and Digest (R158 to R164). -/

namespace Sys2Proof.ForwardingTables

open Sys2Proof.Machine Sys2Proof.Laws

/-- How a step of an operation goes on: the record stays RUNNING or, after the last step, the operation ends (R158, R159). -/
def stepOp (s : State) (goesOn : Bool) (progress : Nat) (w : Work) : State := if goesOn = true then s.continueOp progress w else s.endOp progress w

theorem stepOp_decide (s : State) (c : Prop) [Decidable c] (progress : Nat) (w : Work) :
    (if c then s.continueOp progress w else s.endOp progress w) = stepOp s (decide c) progress w := by
  unfold stepOp
  simp only [decide_eq_true_eq]

@[simp] theorem stepOp_tables (s : State) (goesOn : Bool) (progress : Nat) (w : Work) : (stepOp s goesOn progress w).tables = s.tables := by
  unfold stepOp
  split <;> simp
@[simp] theorem stepOp_pool (s : State) (goesOn : Bool) (progress : Nat) (w : Work) : (stepOp s goesOn progress w).pool = s.pool := by
  unfold stepOp
  split <;> simp
@[simp] theorem stepOp_epoch (s : State) (goesOn : Bool) (progress : Nat) (w : Work) : (stepOp s goesOn progress w).epoch = s.epoch := by
  unfold stepOp
  split <;> simp

theorem stepOp_op (s : State) (goesOn : Bool) (progress : Nat) (w : Work) :
    (stepOp s goesOn progress w).op = some ⟨if goesOn = true then .running else .done, progress, w⟩ := by
  unfold stepOp
  split
  · rfl
  · unfold State.endOp
    rw [raise_op]

theorem endOp_same (s : State) (progress : Nat) (w : Work) (k : Link) : ((s.endOp progress w).link k).sameButPending (s.link k) := by
  unfold State.endOp
  exact raise_same _ _ k

theorem endOp_attn (s : State) (progress : Nat) (w : Work) :
    FlagSet.has (s.endOp progress w).attn.flags .operationEnded = true ∧ (s.endOp progress w).attn.links = s.attn.links ∧
    s.recordsKept (s.endOp progress w) := by
  unfold State.endOp State.recordsKept
  rw [raise_attn_links, raise_attn_miss, raise_attn_lastCorrupt]
  exact ⟨raise_flag_set _ _, rfl, rfl, rfl⟩

theorem stepOp_stepped (s : State) (goesOn : Bool) (progress : Nat) (w : Work) : s.operationStepped goesOn (stepOp s goesOn progress w) := by
  cases goesOn with
  | true => exact ⟨⟨rfl, rfl⟩, rfl, rfl, rfl, rfl, rfl, rfl, rfl, rfl, rfl⟩
  | false =>
    obtain ⟨flag, links, records⟩ := endOp_attn s progress w
    refine ⟨⟨flag, links, records, endOp_same s progress w⟩, ?_⟩
    simp [stepOp]

theorem writeEntry_writes {s : State} (wf : s.storesCanonical) (b : Bank) (i : Nat) (e : EntryFields) :
    s.writes e.table b i e (s.writeEntry b i e) := by
  unfold State.writeEntry
  refine ⟨?_, fun tb' b' i' other => ?_, by simp, by simp⟩
  · rw [entry_putEntry s wf, if_pos ⟨rfl, rfl, rfl⟩]
    rfl
  · rw [entry_putEntry s wf, if_neg]
    rintro ⟨rfl, rfl, rfl⟩
    exact other rfl

theorem writes_congr {s t t' : State} {tb : Table} {b : Bank} {i : Nat} {e : EntryFields} (h : s.writes tb b i e t) (tables : t'.tables = t.tables) :
    s.writes tb b i e t' := by
  unfold State.writes at h ⊢
  simp only [entry_congr tables, tables]
  exact h

/-- What a step of Fill or Copy does, the step that writes entry `e` at index `i` of bank `b` (R158, R159, R28). -/
theorem writeStep_spec {s : State} (wf : s.storesCanonical) (b : Bank) (i : Nat) (e : EntryFields) (goesOn : Bool) (progress : Nat) (w : Work) :
    s.writes e.table b i e (stepOp (s.writeEntry b i e) goesOn progress w) ∧
    (stepOp (s.writeEntry b i e) goesOn progress w).op = some ⟨if goesOn = true then .running else .done, progress, w⟩ ∧
    s.operationStepped goesOn (stepOp (s.writeEntry b i e) goesOn progress w) ∧
    (stepOp (s.writeEntry b i e) goesOn progress w).pool = s.pool := by
  refine ⟨writes_congr (writeEntry_writes wf b i e) (stepOp_tables ..), stepOp_op .., ?_, by simp⟩
  have written : s.writeEntry b i e = { s with tables := (s.writeEntry b i e).tables } := putEntry_frame s b i e _
  rw [written]
  exact stepOp_stepped { s with tables := (s.writeEntry b i e).tables } goesOn progress w

/-! ### The three steps -/

theorem exec_fillStep {s t : State} (hr : s.rstN = true) (h : s.fillStep = t) : exec .fillStep s = .next t :=
  congrArg Host.Outcome.next ((if_pos hr).trans h)
theorem exec_copyStep {s t : State} (hr : s.rstN = true) (h : s.copyStep = t) : exec .copyStep s = .next t :=
  congrArg Host.Outcome.next ((if_pos hr).trans h)
theorem exec_digestStep {s t : State} (hr : s.rstN = true) (h : s.digestStep = t) : exec .digestStep s = .next t :=
  congrArg Host.Outcome.next ((if_pos hr).trans h)

theorem fillStep_running {s : State} {b : Bank} {e : EntryFields} {first last n written : Nat}
    (h : s.op = some ⟨.running, n, .fill b e first last written⟩) :
    s.fillStep = stepOp (s.writeEntry b n e) (decide (n < last)) (n + 1) (.fill b e first last (written + 1)) := by
  unfold State.fillStep
  rw [h]
  exact stepOp_decide ..

theorem copyItem_at (tb : Table) (n : Nat) (h : n < tb.size) : copyItem (tableBase tb + n) = (tb, n) := by
  unfold copyItem
  cases tb <;> simp only [Table.size] at h
  · simp [tableBase, h]
  · simp [tableBase]

theorem initialEntry_table (tb : Table) : (initialEntry tb).table = tb := by cases tb <;> rfl

/-- R163: what a Copy writes for a source entry: the initial entry where its State is CORRUPT or names no state. -/
def copied (tb : Table) (e : EntryFields) : EntryFields := if EntryFields.copiedAsInitial e = true then initialEntry tb else e

theorem copied_table {tb : Table} {e : EntryFields} (h : e.table = tb) : (copied tb e).table = tb := by
  unfold copied
  split
  · exact initialEntry_table tb
  · exact h

theorem copiedAsInitial_iff (e : EntryFields) : EntryFields.copiedAsInitial e = true ↔ ¬ e.state.toNat < (corruptCode e.table).toNat := by
  unfold EntryFields.copiedAsInitial EntryFields.isCorrupt
  rw [state_below_corrupt, Bool.or_eq_true, beq_iff_eq, not_and_or, not_not, Bool.not_eq_false]

theorem copyStep_running {s : State} {source dest : Bank} {tb : Table} {n written asInitial : Nat} (inside : n < tb.size)
    (h : s.op = some ⟨.running, tableBase tb + n, .copy source dest written asInitial⟩) :
    s.copyStep = stepOp (s.writeEntry dest n (copied tb (s.entry tb source n).fields)) (decide (tableBase tb + n < 4127)) (tableBase tb + n + 1)
      (.copy source dest (written + 1) (if EntryFields.copiedAsInitial (s.entry tb source n).fields = true then asInitial + 1 else asInitial)) := by
  unfold State.copyStep
  rw [h]
  dsimp only
  rw [copyItem_at tb n inside]
  refine (stepOp_decide ..).trans ?_
  rw [decide_eq_decide.2 (show tableBase tb + n + 1 < Config.copyItems ↔ tableBase tb + n < 4127 from Nat.succ_lt_succ_iff)]
  rfl

theorem digestStep_running {s : State} {tb : Table} {b : Bank} {role : Role} {n digested : Nat} {register : BitVec 32} {value : Option (BitVec 32)}
    (h : s.op = some ⟨.running, n, .digest tb b role digested register value⟩) :
    s.digestStep = stepOp s (decide (n + 1 < tb.size)) (n + 1) (.digest tb b role (digested + 1)
      (digestFeed register (s.entry tb b n).fields.serialize)
      (if n + 1 < tb.size then none else some (digestValue (digestFeed register (s.entry tb b n).fields.serialize)))) := by
  unfold State.digestStep
  rw [h]
  dsimp only
  rw [← stepOp_decide]
  split <;> rfl

/-- R163: a source entry is written as stored where its State is a defined one other than CORRUPT, and as the initial entry otherwise. -/
theorem copied_eq {tb : Table} {e : EntryFields} (h : e.table = tb) :
    copied tb e = if e.state.toNat < (corruptCode tb).toNat then e else initialEntry tb := by
  subst h
  unfold copied
  simp only [copiedAsInitial_iff, ite_not]

theorem copyStep_spec {s : State} {source dest : Bank} {tb : Table} {n written asInitial : Nat} (hr : s.rstN = true) (wf : s.storesCanonical)
    (inside : n < tb.size) (running : s.op = some ⟨.running, tableBase tb + n, .copy source dest written asInitial⟩) :
    let e := (s.entry tb source n).fields
    let asIs := decide (e.state.toNat < (corruptCode tb).toNat)
    ∃ t, exec .copyStep s = .next t ∧ s.writes tb dest n (if asIs = true then e else initialEntry tb) t ∧
      t.op = some ⟨if tableBase tb + n < 4127 then .running else .done, tableBase tb + n + 1,
        .copy source dest (written + 1) (if asIs = true then asInitial else asInitial + 1)⟩ ∧
      s.operationStepped (decide (tableBase tb + n < 4127)) t ∧ t.pool = s.pool := by
  intro e asIs
  have table : e.table = tb := entry_table s tb source n
  have counted : (if EntryFields.copiedAsInitial e = true then asInitial + 1 else asInitial) =
      if e.state.toNat < (corruptCode tb).toNat then asInitial else asInitial + 1 := by
    simp only [copiedAsInitial_iff, table, ite_not]
  have stepped := copyStep_running inside running
  have spec := writeStep_spec wf dest n (copied tb e) (decide (tableBase tb + n < 4127)) (tableBase tb + n + 1)
    (.copy source dest (written + 1) (if EntryFields.copiedAsInitial e = true then asInitial + 1 else asInitial))
  rw [copied_table table, copied_eq table, counted] at spec
  rw [copied_eq table, counted] at stepped
  simp only [asIs, decide_eq_true_eq] at spec ⊢
  exact ⟨_, exec_copyStep hr stepped, spec⟩

/-- Settles O43: each step is its write, if any, followed by `stepOp`. -/
theorem fillCopyAndDigestSteps : Obligations.FillCopyAndDigestSteps := by
  refine ⟨fun s b e first last n written hr wf running => ?_, fun s source dest tb n written asInitial hr wf inside => ?_,
    fun s tb b role n digested register value hr running => ?_⟩
  · have spec := writeStep_spec wf b n e (decide (n < last)) (n + 1) (.fill b e first last (written + 1))
    simp only [decide_eq_true_eq] at spec
    exact ⟨_, exec_fillStep hr (fillStep_running running), spec⟩
  · cases tb with
    | group => exact copyStep_spec hr wf inside
    | destination => exact copyStep_spec hr wf inside
  · refine ⟨_, exec_digestStep hr (digestStep_running running), by simp, by simp, ?_, stepOp_stepped ..⟩
    rw [stepOp_op]
    simp only [decide_eq_true_eq]
    split <;> rfl

end Sys2Proof.ForwardingTables
end

section
/-! PROOFS. Admission: the cell served, the lookups that give no route, the unicast tests, and the group misses (R41 to R56). -/

namespace Sys2Proof.ForwardingTables

open Sys2Proof.Machine Sys2Proof.Laws

/-! ### The cell served (R41, R42, R45, R46) -/

/-- R42: the link that `serves` names is the first one after the pointer that holds a cell. -/
theorem servedLink_of_serves {s : State} {l : Link} {cell : Cell} {rest : List Cell} (h : s.serves l cell rest) : s.servedLink = some l := by
  obtain ⟨holds, before⟩ := h
  unfold State.servedLink State.serviceOrder
  rw [List.find?_eq_some_iff_getElem]
  refine ⟨by simp [holds], (l - s.rrPtr - 1).val, by simp, ?_, fun j earlier => ?_⟩
  · simp only [List.getElem_map, List.getElem_finRange, Fin.cast_mk, Fin.eta]
    abel
  · simp only [List.getElem_map, List.getElem_finRange, Fin.cast_mk]
    have empty := before (s.rrPtr + 1 + ⟨j, by omega⟩) (by
      rw [show s.rrPtr + 1 + (⟨j, by omega⟩ : Link) - s.rrPtr - 1 = ⟨j, by omega⟩ by abel]
      exact earlier)
    simp [empty]

theorem exec_admission {s : State} {l : Link} {cell : Cell} {rest : List Cell} (hr : s.rstN = true) (h : s.serves l cell rest) :
    exec .admission s = .next ((s.taking l rest).admitCell l cell) := by
  refine congrArg Host.Outcome.next ((if_pos hr).trans ?_)
  unfold State.admission
  rw [servedLink_of_serves h]
  dsimp only
  rw [h.1]
  rfl

theorem admitCell_testDrop {s : State} {l : Link} {cell : Cell} (h : s.memtestRunning = true) :
    s.admitCell l cell = s.countLink l fun k => { k with testDrops := min (k.testDrops + 1) 4294967295 } := if_pos h
theorem admitCell_unicast {s : State} {l : Link} {cell : Cell} (h : s.memtestRunning = false) (kind : cellKind cell = some .ucast) :
    s.admitCell l cell = s.unicast l cell := (if_neg (by simp [h])).trans (if_pos kind)
theorem admitCell_multicast {s : State} {l : Link} {cell : Cell} (h : s.memtestRunning = false) (kind : cellKind cell = some .mcast) :
    s.admitCell l cell = s.multicast l cell := (if_neg (by simp [h])).trans (if_neg (by simp [kind]))

/-! ### Counting and marking together -/

/-- Ports that agree but for pending flags still do after the same counting on both sides. -/
theorem countLink_same {s t : State} (h : ∀ k, (t.link k).sameButPending (s.link k)) (l : Link) (f : LinkCounters → LinkCounters) (k : Link) :
    ((t.countLink l f).link k).sameButPending ((s.countLink l f).link k) := by
  obtain ⟨items, flowst, attn⟩ := h k
  rw [link_countLink, link_countLink]
  split
  · have counters := congrArg LinkPort.counters items
    refine ⟨?_, flowst, attn⟩
    rw [show (t.link k).counters = (s.link k).counters from counters]
    exact congrArg (fun p : LinkPort => { p with counters := f (s.link k).counters }) items
  · exact ⟨items, flowst, attn⟩

/-- What follows a marking in the same event leaves it a marking while it writes no table, no global counter and no last-corrupt record. -/
theorem marks_after {s t t' : State} {tb : Table} {b : Bank} {i : Nat} (h : s.marks tb b i t) (tables : t'.tables = t.tables)
    (globals : t'.globals = t.globals) (lastCorrupt : t'.attn.lastCorrupt = t.attn.lastCorrupt) (links : t'.attn.links = t.attn.links)
    (flags : FlagSet.has t.attn.flags .entryCorrupt = true → FlagSet.has t'.attn.flags .entryCorrupt = true) : s.marks tb b i t' := by
  obtain ⟨marked, others, counted, recorded, kept, flag⟩ := h
  exact ⟨(entry_congr tables tb b i).trans marked, fun tb' b' i' other => (entry_congr tables tb' b' i').trans (others tb' b' i' other),
    globals.trans counted, lastCorrupt.trans recorded, links.trans kept, flags flag⟩

/-! ### Unicast lookups (R27, R47, R48) -/

theorem unicast_found {s t : State} {l : Link} {cell : Cell} (inside : cellDest cell < 32)
    (h : s.verify .destination s.tables.active (cellDest cell) = (true, t)) : s.unicast l cell = t.routeUnicast l cell ⟨cellDest cell, inside⟩ := by
  unfold State.unicast
  rw [dif_pos inside]
  dsimp only
  rw [h, if_pos rfl]

theorem unicast_corrupt {s t : State} {l : Link} {cell : Cell} (inside : cellDest cell < 32)
    (h : s.verify .destination s.tables.active (cellDest cell) = (false, t)) :
    s.unicast l cell = t.countLink l fun k => { k with corruptRoute := min (k.corruptRoute + 1) 4294967295 } := by
  unfold State.unicast
  rw [dif_pos inside]
  dsimp only
  rw [h, if_neg (by simp)]
  rfl

theorem routeUnicast_active {s : State} {l d : Link} {cell : Cell} (h : (s.activeDest d.val).state = 1) :
    s.routeUnicast l cell d = (s.routeLink d).2.admitUnicast l cell (s.routeLink d).1 := if_pos (by simp [DestFields.isActive, h])
theorem routeUnicast_isolated {s : State} {l d : Link} {cell : Cell} (h : (s.activeDest d.val).state = 2) :
    s.routeUnicast l cell d = s.countLink l fun k => { k with isolated := min (k.isolated + 1) 4294967295 } :=
  (if_neg (by simp [DestFields.isActive, h])).trans (if_pos h)
theorem routeUnicast_unassigned {s : State} {l d : Link} {cell : Cell} (h : (s.activeDest d.val).state = 0) :
    s.routeUnicast l cell d = s.countLink l fun k => { k with noRoute := min (k.noRoute + 1) 4294967295 } :=
  (if_neg (by simp [DestFields.isActive, h])).trans (if_neg (by simp [h]))

/-- A lookup that finds its entry bad marks it and drops the cell as a corrupt route (R29, R30, R48). -/
theorem unicast_bad {s : State} {l : Link} {cell : Cell} (inside : cellDest cell < 32)
    (bad : badEntry (s.entry .destination s.tables.active (cellDest cell))) :
    s.unicast l cell = (s.markCorrupt .destination s.tables.active (cellDest cell)).countLink l
      fun k => { k with corruptRoute := min (k.corruptRoute + 1) 4294967295 } := unicast_corrupt inside (verify_bad bad)

/-- Settles O31: the cell served, and the outcome of its lookup by the entry as it stands. -/
theorem cellsWithoutRouteAreDropped : Obligations.CellsWithoutRouteAreDropped := by
  refine ⟨fun l cell rest s hr serves testing => ?_, fun l cell rest s hr serves idle kind inside => ?_⟩
  · rw [exec_admission hr serves, admitCell_testDrop (s := s.taking l rest) testing]
  · rw [exec_admission hr serves, admitCell_unicast (s := s.taking l rest) idle kind]
    intro e
    refine ⟨fun corrupt => ?_, fun wf bad => ?_, fun good unassigned => ?_, fun good isolated => ?_⟩
    · rw [unicast_corrupt (s := s.taking l rest) inside (verify_corrupt corrupt)]
    · refine ⟨_, congrArg _ (unicast_bad (s := s.taking l rest) inside bad), ?_, fun k => ?_, ?_⟩
      · exact marks_after (markCorrupt_marks (s := s.taking l rest) wf .destination s.tables.active (cellDest cell)) rfl rfl rfl rfl id
      · exact countLink_same (markCorrupt_same (s.taking l rest) .destination s.tables.active (cellDest cell)) l _ k
      · simp [State.restKept, State.taking]
    · rw [unicast_found (s := s.taking l rest) inside (verify_good good),
        routeUnicast_unassigned (s := s.taking l rest) (d := ⟨cellDest cell, inside⟩) unassigned]
    · rw [unicast_found (s := s.taking l rest) inside (verify_good good),
        routeUnicast_isolated (s := s.taking l rest) (d := ⟨cellDest cell, inside⟩) isolated]

/-! ### Routes (R35) -/

/-- The link named by a number 0 to 31. -/
theorem routeLink_of_selected {s : State} {d k : Link}
    (h : selectedNumber (s.activeDest d.val) (slot s.tables.selectors d) = some k.val) : s.routeLink d = (k, s) := by
  unfold State.routeLink
  simp [h]

/-- A route that takes no free value is the same in every state with the same tables. -/
theorem routeLink_congr {s t : State} {d k : Link} (h : s.routeLink d = (k, s)) (tables : t.tables = s.tables) : t.routeLink d = (k, t) := by
  unfold State.routeLink at h ⊢
  rw [activeDest_congr tables, tables]
  split at h
  · have link := congrArg Prod.fst h
    exact Prod.ext link rfl
  · have counter : s.freeCtr + 1 = s.freeCtr := congrArg (fun r : Link × State => r.2.freeCtr) h
    omega

/-! ### Storing a cell (R53, R55, R59, R65, R68) -/

/-- A queue with one more entry at its tail, counted as enqueued (R53). -/
def appended (out : OutQueue) (e : QueueEntry) : OutQueue :=
  { out with entries := out.entries ++ [e], counters := { out.counters with enqueued := min (out.counters.enqueued + 1) 4294967295 } }

/-- One entry for each of several links is appended to the queue of its class on that link and to no other. -/
theorem foldl_enqueue_queue (k : Sys2Proof.Class) (e : QueueEntry) (members : List Link) (nd : members.Nodup) (s : State) (q : QueueId) :
    (members.foldl (fun acc l => acc.enqueue (queueId l k) e) s).queue q =
      if queueLink q ∈ members ∧ queueClass q = k then appended (s.queue q) e else s.queue q := by
  induction members generalizing s with
  | nil => simp
  | cons m ms ih =>
    obtain ⟨fresh, nd⟩ := List.nodup_cons.1 nd
    rw [List.foldl_cons, ih nd, queue_enqueue]
    by_cases hq : queueId m k = q
    · subst hq
      simp only [queueLink_queueId, queueClass_queueId, fresh, false_and, if_false, if_true, List.mem_cons, true_or, true_and]
      rfl
    · have other : ¬ (queueLink q = m ∧ queueClass q = k) := by
        rintro ⟨rfl, rfl⟩
        exact hq (queueId_link_class q)
      have member : (queueLink q ∈ m :: ms ∧ queueClass q = k) ↔ (queueLink q ∈ ms ∧ queueClass q = k) := by
        rw [List.mem_cons]
        tauto
      simp only [hq, if_false, member]

/-- R55, R65, R68: the pool after an allocation that takes `h` and leaves `rest` free. -/
def allocatedPool (s : State) (cell : Cell) (copies : Nat) (h : Handle) (rest : List Handle) : Pool :=
  { s.pool with free := rest, refs := Memory.write 0 s.pool.refs h copies, buffers := Memory.write none s.pool.buffers h (some cell),
                latch := decide (rest.length < s.params.poolLow) }

/-- The state after an allocation: PoolLow is raised where the latch went from CLEAR to SET. -/
def allocated (s : State) (cell : Cell) (copies : Nat) (h : Handle) (rest : List Handle) : State :=
  if s.pool.latch = false ∧ (allocatedPool s cell copies h rest).latch = true then
    ({ s with pool := allocatedPool s cell copies h rest } : State).raise .poolLow
  else { s with pool := allocatedPool s cell copies h rest }

theorem allocate_eq {s : State} {cell : Cell} {copies : Nat} {h : Handle} {rest : List Handle} (free : s.pool.free = h :: rest) :
    s.allocate cell copies = some (h, allocated s cell copies h rest) := by
  unfold State.allocate Pool.allocate
  rw [free]
  rfl

@[simp] theorem allocated_pool (s : State) (cell : Cell) (copies : Nat) (h : Handle) (rest : List Handle) :
    (allocated s cell copies h rest).pool = allocatedPool s cell copies h rest := by
  unfold allocated
  split <;> simp
@[simp] theorem allocated_queue (s : State) (cell : Cell) (copies : Nat) (h : Handle) (rest : List Handle) (q : QueueId) :
    (allocated s cell copies h rest).queue q = s.queue q := by
  unfold allocated
  split <;> simp
theorem allocated_same (s : State) (cell : Cell) (copies : Nat) (h : Handle) (rest : List Handle) (k : Link) :
    ((allocated s cell copies h rest).link k).sameButPending (s.link k) := by
  unfold allocated
  split
  · exact raise_same _ _ k
  · exact sameButPending_refl _
theorem allocated_records (s : State) (cell : Cell) (copies : Nat) (h : Handle) (rest : List Handle) :
    s.recordsKept (allocated s cell copies h rest) := by
  unfold allocated State.recordsKept
  split <;> simp
theorem allocated_poolLow {s : State} {cell : Cell} {copies : Nat} {h : Handle} {rest : List Handle} (clear : s.pool.latch = false)
    (low : rest.length < s.params.poolLow) : FlagSet.has (allocated s cell copies h rest).attn.flags .poolLow = true := by
  unfold allocated
  rw [if_pos ⟨clear, decide_eq_true low⟩]
  exact raise_flag_set _ _
theorem allocated_quiet {s : State} {cell : Cell} {copies : Nat} {h : Handle} {rest : List Handle}
    (kept : ¬ (s.pool.latch = false ∧ rest.length < s.params.poolLow)) :
    (allocated s cell copies h rest).attn = s.attn ∧ (allocated s cell copies h rest).links = s.links := by
  unfold allocated
  rw [if_neg fun set => kept ⟨set.1, of_decide_eq_true set.2⟩]
  exact ⟨rfl, rfl⟩

theorem storeCell_eq {s : State} {cell : Cell} {k : Sys2Proof.Class} {members : List Link} {h : Handle} {rest : List Handle}
    (free : s.pool.free = h :: rest) : s.storeCell cell k members =
      members.foldl (fun acc l => acc.enqueue (queueId l k) ⟨h, k, cellMark cell⟩) (allocated s cell members.length h rest) := by
  unfold State.storeCell
  rw [allocate_eq free]

/-- The cell is stored once, and one entry is appended for each link (R53, R55, R59, R65, R68). -/
theorem storeCell_stores {s : State} {cell : Cell} {k : Sys2Proof.Class} {members : List Link} {h : Handle} {rest : List Handle}
    (wf : s.storesCanonical) (nd : members.Nodup) (free : s.pool.free = h :: rest) :
    s.stores cell k members h rest (s.storeCell cell k members) := by
  obtain ⟨-, buffers, refs, -⟩ := wf
  rw [storeCell_eq free]
  unfold State.stores
  simp only [foldl_enqueue_pool, foldl_enqueue_attn, foldl_enqueue_links, allocated_pool]
  refine ⟨rfl, fun a => ?_, fun a => ?_, rfl, rfl, rfl, fun q => ?_, allocated_poolLow, allocated_quiet⟩
  · refine (read_write h a members.length refs).trans ?_
    simp only [eq_comm]
    rfl
  · refine (read_write h a (some cell) buffers).trans ?_
    simp only [eq_comm]
    rfl
  · rw [foldl_enqueue_queue k _ members nd, allocated_queue]
    rfl

theorem storeCell_same {s : State} {cell : Cell} {k : Sys2Proof.Class} {members : List Link} {h : Handle} {rest : List Handle}
    (free : s.pool.free = h :: rest) (n : Link) : ((s.storeCell cell k members).link n).sameButPending (s.link n) := by
  rw [storeCell_eq free, link_congr (foldl_enqueue_links ..)]
  exact allocated_same ..
theorem storeCell_records {s : State} {cell : Cell} {k : Sys2Proof.Class} {members : List Link} {h : Handle} {rest : List Handle}
    (free : s.pool.free = h :: rest) : s.recordsKept (s.storeCell cell k members) := by
  rw [storeCell_eq free]
  unfold State.recordsKept
  rw [foldl_enqueue_attn]
  exact allocated_records ..

/-! ### The unicast tests (R49 to R55) -/

theorem accepting_iff (s : State) (l : Link) : s.accepting l = true ↔ (s.link l).state = .up ∨ (s.link l).state = .disabled := by
  unfold State.accepting
  cases (s.link l).state <;> simp

theorem admitUnicast_floorDrop {s : State} {l k : Link} {cell : Cell} (accepting : s.accepting k = true)
    (low : s.pool.free.length ≤ slot s.params.floor (cellClass cell)) :
    s.admitUnicast l cell k = s.countLink l fun n => { n with floorDrops := min (n.floorDrops + 1) 4294967295 } :=
  (if_neg (by simp [accepting])).trans (if_pos (by simp [State.floorPasses, low]))
theorem admitUnicast_tailDrop {s : State} {l k : Link} {cell : Cell} (accepting : s.accepting k = true)
    (above : slot s.params.floor (cellClass cell) < s.pool.free.length)
    (full : slot s.params.limit (cellClass cell) ≤ (s.queue (queueId k (cellClass cell))).entries.length) :
    s.admitUnicast l cell k =
      s.countQueue (queueId k (cellClass cell)) fun n => { n with tailDrops := min (n.tailDrops + 1) 4294967295 } :=
  (if_neg (by simp [accepting])).trans ((if_neg (by simp [State.floorPasses, above])).trans (if_pos (by simp [State.limitPasses, full])))
theorem admitUnicast_stored {s : State} {l k : Link} {cell : Cell} (accepting : s.accepting k = true)
    (above : slot s.params.floor (cellClass cell) < s.pool.free.length)
    (room : (s.queue (queueId k (cellClass cell))).entries.length < slot s.params.limit (cellClass cell)) :
    s.admitUnicast l cell k = s.storeCell cell (cellClass cell) [k] :=
  (if_neg (by simp [accepting])).trans ((if_neg (by simp [State.floorPasses, above])).trans (if_neg (by simp [State.limitPasses, room])))

/-- R48, R49: a good ACTIVE entry takes the cell to the tests of its route. -/
theorem unicast_routed {s : State} {l d k : Link} {cell : Cell} (dest : cellDest cell = d.val)
    (good : goodEntry (s.entry .destination s.tables.active d.val)) (active : (s.activeDest d.val).state = 1) (route : s.routeLink d = (k, s)) :
    s.unicast l cell = s.admitUnicast l cell k := by
  have inside : cellDest cell < 32 := dest ▸ d.isLt
  obtain rfl : d = ⟨cellDest cell, inside⟩ := Fin.ext dest.symm
  rw [unicast_found inside (verify_good good), routeUnicast_active active, route]

/-- Settles O33: the route, and the three outcomes of `admitUnicast` on an accepting link. -/
theorem unicastAdmission : Obligations.UnicastAdmission := by
  refine ⟨fun s d k primary spare entry => ⟨fun sel number => ?_, fun sel number => ?_⟩,
    fun l d k cell rest s hr serves idle kind dest good active route state => ?_⟩
  · exact routeLink_of_selected (by rw [entry, sel]; exact congrArg some number)
  · exact routeLink_of_selected (by rw [entry, sel]; exact number)
  · intro u c
    have routed : u.routeLink d = (k, u) := routeLink_congr route rfl
    have kept : ∀ j, (u.link j).state = (s.link j).state := LinkPorts.modLink_statesKept s l (fun p => { p with rxBuf := rest }) fun _ => rfl
    have accepting : u.accepting k = true := (accepting_iff u k).2 (by rw [kept k]; exact state)
    have admitted : exec .admission s = .next (u.admitUnicast l cell k) := by
      rw [exec_admission hr serves, admitCell_unicast (s := u) idle kind, unicast_routed (s := u) dest good active routed]
    rw [admitted]
    refine ⟨fun low => congrArg _ (admitUnicast_floorDrop accepting low), fun above full => congrArg _ (admitUnicast_tailDrop accepting above full),
      fun h free wf above room list => ⟨_, congrArg _ (admitUnicast_stored accepting above room), storeCell_stores (s := u) wf (List.nodup_singleton k) list,
        storeCell_same (s := u) list, ?_, ?_, ?_, ?_, storeCell_records (s := u) list, ?_⟩⟩
    all_goals simp [State.restKept, u, State.taking]

/-! ### Group misses (R56, R181) -/

/-- R181: the miss record after an offer of a group missed on a link at an epoch. -/
def missAfter (group : Nat) (l : Link) (epoch : Epoch) : Option MissRecord → Option MissRecord
  | none => some ⟨group, l, epoch, 0⟩
  | some r => some { r with count := min 65535 (r.count + 1) }

theorem groupMiss_empty {s : State} (h : s.attn.miss = none) (l : Link) (group : Nat) : s.groupMiss l group =
    ({ s.countLink l fun c => { c with groupMisses := min (c.groupMisses + 1) 4294967295 } with
        attn := { s.attn with miss := missAfter group l s.epoch.number none } } : State).raise .groupMiss := by
  unfold State.groupMiss State.offerMiss
  simp only [countLink_attn, h]
  rfl

theorem groupMiss_full {s : State} {r : MissRecord} (h : s.attn.miss = some r) (l : Link) (group : Nat) : s.groupMiss l group =
    { s.countLink l fun c => { c with groupMisses := min (c.groupMisses + 1) 4294967295 } with
        attn := { s.attn with miss := missAfter group l s.epoch.number (some r) } } := by
  unfold State.groupMiss State.offerMiss
  simp only [countLink_attn, h]
  rfl

theorem groupMiss_miss (s : State) (l : Link) (group : Nat) :
    (s.groupMiss l group).attn.miss = missAfter group l s.epoch.number s.attn.miss := by
  cases h : s.attn.miss with
  | none => rw [groupMiss_empty h, raise_attn_miss]
  | some r => rw [groupMiss_full h]

theorem groupMiss_flags (s : State) (l : Link) (group : Nat) (f : AttnFlag) : FlagSet.has (s.groupMiss l group).attn.flags f =
    ((decide (f = .groupMiss) && s.attn.miss.isNone) || FlagSet.has s.attn.flags f) := by
  cases h : s.attn.miss with
  | none => simp [groupMiss_empty h, raise_flags]
  | some r => simp [groupMiss_full h]

theorem groupMiss_attn (s : State) (l : Link) (group : Nat) :
    (s.groupMiss l group).attn.links = s.attn.links ∧ (s.groupMiss l group).attn.lastCorrupt = s.attn.lastCorrupt := by
  cases h : s.attn.miss with
  | none => simp [groupMiss_empty h]
  | some r => simp [groupMiss_full h]

theorem groupMiss_same (s : State) (l : Link) (group : Nat) (k : Link) : ((s.groupMiss l group).link k).sameButPending
    ((s.countLink l fun c => { c with groupMisses := min (c.groupMisses + 1) 4294967295 }).link k) := by
  cases h : s.attn.miss with
  | none =>
    rw [groupMiss_empty h]
    exact raise_same _ _ k
  | some r =>
    rw [groupMiss_full h]
    exact sameButPending_refl _

/-- R56: a group whose entry may not be used, or is not VALID, is missed. -/
theorem multicast_missed {s t : State} {l : Link} {cell : Cell} {good : Bool} (h : s.verify .group s.tables.active (cellDest cell) = (good, t))
    (missed : ¬ (good = true ∧ (t.activeGroup (cellDest cell)).state = 1)) : s.multicast l cell = t.groupMiss l (cellDest cell) := by
  unfold State.multicast
  dsimp only
  rw [h]
  exact if_neg missed

/-- A group entry CORRUPT, or INVALID with a good check, is missed and left as it is. -/
theorem multicast_invalid {s : State} {l : Link} {cell : Cell}
    (h : (s.entry .group s.tables.active (cellDest cell)).fields.state = 2 ∨
      goodEntry (s.entry .group s.tables.active (cellDest cell)) ∧ (s.entry .group s.tables.active (cellDest cell)).fields.state = 0) :
    s.multicast l cell = s.groupMiss l (cellDest cell) := by
  obtain corrupt | ⟨good, invalid⟩ := h
  · exact multicast_missed (verify_corrupt corrupt) (by simp)
  · have state : (s.activeGroup (cellDest cell)).state = 0 := invalid
    exact multicast_missed (verify_good good) (by simp [state])

/-- Settles O34: a miss is `groupMiss`, on the state with the entry marked where it was found bad. -/
theorem multicastMisses : Obligations.MulticastMisses := by
  intro l cell rest s hr serves idle kind e missed
  have admitted : exec .admission s = .next ((s.taking l rest).multicast l cell) := by
    rw [exec_admission hr serves, admitCell_multicast (s := s.taking l rest) idle kind]
  rw [admitted]
  refine ⟨fun found => ?_, fun wf bad => ?_⟩
  · rw [multicast_invalid (s := s.taking l rest) found]
    obtain ⟨links, lastCorrupt⟩ := groupMiss_attn (s.taking l rest) l (cellDest cell)
    have miss := groupMiss_miss (s.taking l rest) l (cellDest cell)
    have flags := groupMiss_flags (s.taking l rest) l (cellDest cell) .groupMiss
    refine ⟨fun empty => ⟨_, rfl, ?_, ?_, groupMiss_same (s.taking l rest) l (cellDest cell), ?_, ?_, ?_, ?_, ?_, ?_, links, lastCorrupt, ?_⟩,
      fun r full => congrArg _ (groupMiss_full (s := s.taking l rest) full l (cellDest cell))⟩
    · rw [miss, show (s.taking l rest).attn.miss = none from empty]
      rfl
    · rw [flags, show (s.taking l rest).attn.miss = none from empty]
      rfl
    all_goals simp [State.restKept, State.taking]
  · have marked := verify_bad (s := s.taking l rest) (tb := .group) (b := s.tables.active) (i := cellDest cell) bad
    rw [multicast_missed (s := s.taking l rest) marked (by simp)]
    set m := (s.taking l rest).markCorrupt .group s.tables.active (cellDest cell) with hm
    have marks : s.marks .group s.tables.active (cellDest cell) m := markCorrupt_marks (s := s.taking l rest) wf .group s.tables.active (cellDest cell)
    obtain ⟨links, lastCorrupt⟩ := groupMiss_attn m l (cellDest cell)
    have kept : m.attn.miss = s.attn.miss := markCorrupt_attn_miss ..
    have epoch : m.epoch = s.epoch := markCorrupt_epoch ..
    refine ⟨_, rfl, marks_after marks (by simp) (by simp) lastCorrupt links fun flag => ?_, fun k => ?_, by simp [hm, State.taking],
      by simp [hm, State.taking], by simp [hm, State.taking], by simp [hm, State.taking], by simp [hm, State.restKept, State.taking],
      by simp [hm, State.taking], by simp [hm, State.taking], ?_, ?_⟩
    · rw [groupMiss_flags, flag, Bool.or_true]
    · exact sameButPending_trans (groupMiss_same m l (cellDest cell) k)
        (countLink_same (markCorrupt_same (s.taking l rest) .group s.tables.active (cellDest cell)) l _ k)
    · rw [groupMiss_miss, kept, epoch]
      cases s.attn.miss <;> rfl
    · rw [groupMiss_flags, kept, hm, markCorrupt_flags]
      rfl

end Sys2Proof.ForwardingTables
end

section
/-! PROOFS. The requests on single entries: Read Entries, Write Entries and Repair Entry, and how carried entries are read (R33, R39, R147 to R149,
R186). -/

namespace Sys2Proof.ForwardingTables

open Sys2Proof.Machine Sys2Proof.Laws Sys2Proof.LinkPorts

/-! ### Codes and ranges -/

theorem requestRow_readEntries {r : Payload} (h : recByte r 0 = 0x10) : requestRow r = .readEntries := by
  unfold requestRow
  rw [h]
  rfl
theorem requestRow_writeEntries {r : Payload} (h : recByte r 0 = 0x11) : requestRow r = .writeEntries := by
  unfold requestRow
  rw [h]
  rfl
theorem requestRow_repairEntry {r : Payload} (h : recByte r 0 = 0x12) : requestRow r = .repairEntry := by
  unfold requestRow
  rw [h]
  rfl

theorem rangeGood_iff (tb : Table) (first count : Nat) : rangeGood tb first count = true ↔ 1 ≤ count ∧ count ≤ 6 ∧ first + count ≤ tb.size := by
  unfold rangeGood
  simp only [Bool.and_eq_true, decide_eq_true_eq, and_assoc]

/-! ### Entries in a response -/

theorem serialize_length (e : EntryFields) : e.serialize.length = 8 := by cases e <;> rfl

/-- Blocks of eight bytes laid one after another. -/
theorem blocks_length (f : Nat → List Byte) (block : ∀ k, (f k).length = 8) (count : Nat) : ((List.range count).flatMap f).length = 8 * count := by
  simp [List.length_flatMap, block, Nat.mul_comm]

theorem blocks_getD (f : Nat → List Byte) (block : ∀ k, (f k).length = 8) {count k j : Nat} (hk : k < count) (hj : j < 8) :
    ((List.range count).flatMap f).getD (8 * k + j) 0 = (f k).getD j 0 := by
  induction count with
  | zero => omega
  | succ c ih =>
    have before := blocks_length f block c
    rw [List.range_succ, List.flatMap_append]
    obtain inner | rfl := Nat.lt_succ_iff_lt_or_eq.1 hk
    · rw [getD_append_left _ _ _ (by omega), ih inner]
    · rw [getD_append_right _ _ _ (by omega), before, Nat.add_sub_cancel_left]
      simp

/-! ### Read Entries (R147) -/

theorem answerReadEntries_badRange {r : Payload} (s : State) (h : 1 < (recByte r 4).toNat ∨ 1 < (recByte r 5).toNat ∨ (recByte r 8).toNat < 1 ∨
      6 < (recByte r 8).toNat ∨ (recByte r 4 = 0 ∧ 4096 < (recWord r 6).toNat + (recByte r 8).toNat) ∨
      (recByte r 4 = 1 ∧ 32 < (recWord r 6).toNat + (recByte r 8).toNat)) : answerReadEntries r s = (.refuse .badRange, s) := by
  unfold answerReadEntries
  split
  · next tb role table roleCode =>
    refine if_pos (eq_false_of_ne_true fun good => ?_)
    obtain ⟨low, high, inside⟩ := (rangeGood_iff _ _ _).1 good
    obtain noTable | noRole | none | many | ⟨group, long⟩ | ⟨dest, long⟩ := h
    · rw [tableOf_none _ noTable] at table
      cases table
    · rw [roleOf_none _ noRole] at roleCode
      cases roleCode
    · omega
    · omega
    · rw [group] at table
      cases table
      exact absurd inside (not_le.2 long)
    · rw [dest] at table
      cases table
      exact absurd inside (not_le.2 long)
  · rfl

theorem answerReadEntries_valid {r : Payload} (s : State) {tb : Table} {role : Role} (table : tableOf (recByte r 4) = some tb)
    (roleCode : roleOf (recByte r 5) = some role) (range : rangeGood tb (recWord r 6).toNat (recByte r 8).toNat = true) :
    answerReadEntries r s = if s.writerCovers tb (s.bankOf role) = true then (.refuse .busy, s) else
      (⟨.done, [num8 (s.bankOf role).val, 0, 0, 0] ++ s.entriesBytes tb (s.bankOf role) (recWord r 6).toNat (recByte r 8).toNat⟩, s) := by
  unfold answerReadEntries
  rw [table, roleCode]
  exact if_neg (by simp [range])

/-- R147, R187: the bytes of a response that carries entries. -/
theorem entriesReply (s : State) (r : Payload) (tb : Table) (b : Bank) (first : Nat) {count : Nat} (few : count ≤ 6) :
    let reply := replyBytes r 0 ([num8 b.val, 0, 0, 0] ++ s.entriesBytes tb b first count)
    recByte reply 1 = 0 ∧ (recByte reply 4).toNat = b.val ∧ recByte reply 5 = 0 ∧ recByte reply 6 = 0 ∧ recByte reply 7 = 0 ∧
    (∀ k j, k < count → j < 8 → recByte reply (8 + 8 * k + j) = (s.entry tb b (first + k)).fields.serialize.getD j 0) ∧
    ∀ n, 8 + 8 * count ≤ n → recByte reply n = 0 := by
  intro reply
  have block : ∀ k, (s.entry tb b (first + k)).fields.serialize.length = 8 := fun k => serialize_length _
  have length : (s.entriesBytes tb b first count).length = 8 * count := blocks_length _ block count
  refine ⟨recByte_reply_result .., ?_, recByte_reply _ _ _ 5 (by omega), recByte_reply _ _ _ 6 (by omega), recByte_reply _ _ _ 7 (by omega),
    fun k j hk hj => ?_, fun n hn => recByte_reply_beyond _ _ _ n ?_⟩
  · rw [show recByte reply 4 = num8 b.val from recByte_reply _ _ _ 4 (by omega), num8_toNat _ (by omega)]
  · rw [recByte_reply _ _ _ _ (by omega), if_pos (by omega), getD_append_right _ _ _ (by simp; omega),
      show 8 + 8 * k + j - 4 - [num8 b.val, 0, 0, 0].length = 8 * k + j by simp; omega]
    exact blocks_getD _ block hk hj
  · rw [List.length_append, length]
    simp
    omega

/-! ### Carried entries (R33, R186) -/

theorem presenceByte_read (v : Option (BitVec 7)) :
    (if (presenceByte v).getLsbD 7 = true then some ((presenceByte v).extractLsb' 0 7) else none) = v := by
  cases v with
  | none => rfl
  | some v =>
    have present : (presenceByte (some v)).getLsbD 7 = true := by
      unfold presenceByte
      rw [BitVec.getLsbD_append]
      rfl
    have value : (presenceByte (some v)).extractLsb' 0 7 = v := by
      apply BitVec.eq_of_getLsbD_eq
      intro i hi
      unfold presenceByte
      rw [BitVec.getLsbD_extractLsb', BitVec.getLsbD_append]
      simp [hi]
    rw [if_pos present, value]

/-- An entry is read back from its serialization. -/
theorem parseEntry_serialize (e : EntryFields) : parseEntry e.table e.serialize = e := by
  cases e with
  | group g =>
    have suppress : (flagByte g.sourceSuppress).getLsbD 0 = g.sourceSuppress := by cases g.sourceSuppress <;> rfl
    show EntryFields.group ⟨g.state, (flagByte g.sourceSuppress).getLsbD 0, (if (presenceByte g.classOverride).getLsbD 7 = true then
        some ((presenceByte g.classOverride).extractLsb' 0 7) else none), _⟩ = _
    rw [suppress, presenceByte_read]
    exact congrArg (fun m => EntryFields.group ⟨g.state, g.sourceSuppress, g.classOverride, m⟩) (be32_quad g.members)
  | destination d =>
    show EntryFields.destination ⟨d.state, d.primary, (if (presenceByte d.spare).getLsbD 7 = true then
        some ((presenceByte d.spare).extractLsb' 0 7) else none)⟩ = _
    rw [presenceByte_read]

theorem mayBeWritten_group (g : GroupFields) : mayBeWritten (.group g) ↔ g.state.toNat < 2 ∧ ∀ v ∈ g.classOverride, v.toNat ≤ 3 := by
  unfold mayBeWritten
  cases h : g.classOverride <;> simp [EntryFields.fieldOutOfRange, EntryFields.state, EntryFields.table, corruptCode, h]
theorem mayBeWritten_destination (d : DestFields) : mayBeWritten (.destination d) ↔
    d.state.toNat < 3 ∧ d.primary.toNat ≤ 31 ∧ ∀ v ∈ d.spare, v.toNat ≤ 31 ∧ v.toNat ≠ d.primary.toNat := by
  unfold mayBeWritten
  cases h : d.spare <;> simp [EntryFields.fieldOutOfRange, EntryFields.state, EntryFields.table, corruptCode, h]

/-- Settles O50: the three answers of Read Entries, and the reading of a carried entry. -/
theorem entriesAreReadAsStored : Obligations.EntriesAreReadAsStored := by
  refine ⟨fun s l r rest h kind => ?_, fun b => ⟨?_, ?_, fun tb => ?_, mayBeWritten_group, mayBeWritten_destination⟩⟩
  · have row := requestRow_readEntries kind
    refine ⟨fun out => answers_refused rfl .badRange h row (answerReadEntries_badRange _ out) rfl, fun tb role table roleCode low high inside => ?_⟩
    have valid := answerReadEntries_valid (requeued s rest) (tableOf_eq _ tb table) (roleOf_eq _ role roleCode)
      ((rangeGood_iff _ _ _).2 ⟨low, high, inside⟩)
    refine ⟨fun covered => answers_refused rfl .busy h row (valid.trans (if_pos covered)) rfl, fun free => ⟨_, ?_, entriesReply s r tb _ _ high⟩⟩
    exact answers_requeued (t := requeued s rest) rfl h row (valid.trans (if_neg (Bool.eq_false_iff.1 free)))
      rfl rfl rfl
  · simp [parseEntry]
  · simp [parseEntry]
  · have again := parseEntry_serialize (parseEntry tb b.toList)
    rwa [parseEntry_table] at again

/-! ### Write Entries (R31, R33, R148) -/

/-- R148: the range of a Write Entries lies in its table and every entry it carries may be written. -/
def writeFits (r : Payload) (tb : Table) : Prop :=
  1 ≤ (recByte r 8).toNat ∧ (recByte r 8).toNat ≤ 6 ∧ (recWord r 6).toNat + (recByte r 8).toNat ≤ tb.size ∧
  ∀ k, k < (recByte r 8).toNat → mayBeWritten (carriedEntry r tb k)

theorem writeFits_iff (r : Payload) (tb : Table) : writeFits r tb ↔ rangeGood tb (recWord r 6).toNat (recByte r 8).toNat = true ∧
    (List.range (recByte r 8).toNat).all (fun k => (carriedEntry r tb k).carriedGood) = true := by
  unfold writeFits
  simp only [rangeGood_iff, List.all_eq_true, List.mem_range, carriedGood_iff, and_assoc]

/-- R148: the answer of Write Entries for a table, judged in its order. -/
theorem answerWriteEntries_table {r : Payload} (s : State) {tb : Table} (table : tableOf (recByte r 4) = some tb) :
    (¬ writeFits r tb → answerWriteEntries r s = (.refuse .badRange, s)) ∧
    (writeFits r tb → s.epoch.swapPending = true → answerWriteEntries r s = (.refuse .badState, s)) ∧
    (writeFits r tb → s.epoch.swapPending = false → s.writerCovers tb (s.bankOf .standby) = true ∨ s.digestCovers tb (s.bankOf .standby) = true →
      answerWriteEntries r s = (.refuse .busy, s)) ∧
    (writeFits r tb → s.epoch.swapPending = false → ¬ (s.writerCovers tb (s.bankOf .standby) = true ∨ s.digestCovers tb (s.bankOf .standby) = true) →
      answerWriteEntries r s = (⟨.done, [num8 (s.bankOf .standby).val]⟩,
        s.writeRange (s.bankOf .standby) (recWord r 6).toNat (recByte r 8).toNat (carriedEntry r tb))) := by
  rw [writeFits_iff]
  unfold answerWriteEntries
  rw [table]
  dsimp only
  refine ⟨fun misfit => ?_, fun ⟨range, carried⟩ pending => ?_, fun ⟨range, carried⟩ settled owned => ?_, fun ⟨range, carried⟩ settled free => ?_⟩
  · cases range : rangeGood tb (recWord r 6).toNat (recByte r 8).toNat with
    | false => rfl
    | true => exact (if_neg (by simp)).trans (if_pos (eq_false_of_ne_true fun carried => misfit ⟨range, carried⟩))
  all_goals rw [range, carried, if_neg (by simp), if_neg (by simp)]
  · rw [if_pos pending]
  · rw [if_neg (by simp [settled]), if_pos owned]
  · rw [if_neg (by simp [settled]), if_neg free]

theorem writeRange_frame (s : State) (b : Bank) (first count : Nat) (e : Nat → EntryFields) :
    s.writeRange b first count e = { s with tables := (s.writeRange b first count e).tables } := by
  apply state_ext <;> simp

theorem writeRange_roles (s : State) (b : Bank) (first count : Nat) (e : Nat → EntryFields) :
    (s.writeRange b first count e).tables.active = s.tables.active ∧ (s.writeRange b first count e).tables.selectors = s.tables.selectors := by
  unfold State.writeRange
  induction count with
  | zero => exact ⟨rfl, rfl⟩
  | succ n ih =>
    rw [List.range_succ, List.foldl_append]
    exact ⟨(putEntry_active ..).trans ih.1, (putEntry_selectors ..).trans ih.2⟩

/-! ### Repair Entry (R31, R33, R39, R149) -/

/-- R149: the answer of Repair Entry for a table, judged in its order. -/
theorem answerRepairEntry_table {r : Payload} (s : State) {tb : Table} (table : tableOf (recByte r 4) = some tb) :
    (tb.size ≤ (recWord r 6).toNat ∨ ¬ mayBeWritten (carriedEntry r tb 0) → answerRepairEntry r s = (.refuse .badRange, s)) ∧
    ((recWord r 6).toNat < tb.size → mayBeWritten (carriedEntry r tb 0) →
      (s.digestCovers tb s.tables.active = true → answerRepairEntry r s = (.refuse .busy, s)) ∧
      (s.digestCovers tb s.tables.active = false → (s.entry tb s.tables.active (recWord r 6).toNat).fields.state ≠ corruptCode tb →
        answerRepairEntry r s = (.refuse .badState, s)) ∧
      (s.digestCovers tb s.tables.active = false → (s.entry tb s.tables.active (recWord r 6).toNat).fields.state = corruptCode tb →
        answerRepairEntry r s = (⟨.done, [num8 s.tables.active.val]⟩, s.repair tb (recWord r 6).toNat (carriedEntry r tb 0)))) := by
  unfold answerRepairEntry
  rw [table]
  dsimp only
  rw [← carriedGood_iff, Bool.not_eq_true]
  refine ⟨fun out => if_pos out, fun inside carried => ?_⟩
  rw [if_neg (by simp [inside, carried])]
  refine ⟨fun busy => if_pos busy, fun free live => ?_, fun free corrupt => ?_⟩
  all_goals rw [if_neg (by simp [free])]
  · exact if_pos (Bool.eq_false_iff.2 (mt (isCorrupt_iff s tb _ _).1 live))
  · rw [(isCorrupt_iff s tb _ _).2 corrupt]
    rfl

theorem repair_frame (s : State) (tb : Table) (i : Nat) (e : EntryFields) :
    s.repair tb i e = { s with tables := (s.repair tb i e).tables } := by
  apply state_ext <;> simp

theorem reselectOne_banks (s : State) (i : Nat) : (s.reselectOne i).tables.active = s.tables.active ∧ (s.reselectOne i).tables.banks = s.tables.banks := by
  unfold State.reselectOne
  split <;> exact ⟨rfl, rfl⟩

/-- A repair writes one entry of the active bank; only selectors change beside it. -/
theorem repair_banks (s : State) (tb : Table) (i : Nat) (e : EntryFields) :
    (s.repair tb i e).tables.active = s.tables.active ∧ (s.repair tb i e).tables.banks = (s.writeEntry s.tables.active i e).tables.banks := by
  cases tb with
  | group => exact ⟨putEntry_active .., rfl⟩
  | destination =>
    obtain ⟨active, banks⟩ := reselectOne_banks (s.writeEntry s.tables.active i e) i
    exact ⟨active.trans (putEntry_active ..), banks⟩

theorem activeDest_congr_banks {s t : State} (active : s.tables.active = t.tables.active) (banks : s.tables.banks = t.tables.banks) (d : Nat) :
    s.activeDest d = t.activeDest d := by
  unfold State.activeDest State.bank
  rw [active, banks]

theorem numberUp_congr {s t : State} (h : ∀ k, (s.link k).state = (t.link k).state) (n : Nat) : s.numberUp n = t.numberUp n := by
  unfold State.numberUp
  simp only [h]

/-- R36: the selector by the entry and the link states. -/
theorem reselected_eq (s : State) (d : Link) : s.reselected d =
    if (s.activeDest d.val).state = 1 ∧ s.numberUp (s.activeDest d.val).primary.toNat = false ∧
      ((s.activeDest d.val).spare.map BitVec.toNat).any s.numberUp = true then .spare else .primary := by
  unfold State.reselected DestFields.isActive
  simp only [beq_iff_eq]

/-- R39: a repaired Destination entry re-evaluates its own selector by the rule of R36 and no other. -/
theorem repair_selectors (s : State) (tb : Table) (i : Nat) (e : EntryFields) (d : Link) : slot (s.repair tb i e).tables.selectors d =
    if tb = .destination ∧ d.val = i then
      (if ((s.repair tb i e).activeDest i).state = 1 ∧ s.numberUp ((s.repair tb i e).activeDest i).primary.toNat = false ∧
        (((s.repair tb i e).activeDest i).spare.map BitVec.toNat).any s.numberUp = true then .spare else .primary)
    else slot s.tables.selectors d := by
  cases tb with
  | group =>
    rw [if_neg (by simp)]
    exact congrArg (slot · d) (putEntry_selectors ..)
  | destination =>
    set written := s.writeEntry s.tables.active i e with hw
    have links : written.numberUp = s.numberUp := funext (numberUp_congr fun k => congrArg LinkPort.state (link_congr (writeEntry_links ..) k))
    have kept : slot written.tables.selectors d = slot s.tables.selectors d := congrArg (slot · d) (putEntry_selectors ..)
    obtain ⟨active, banks⟩ := reselectOne_banks written i
    show slot (written.reselectOne i).tables.selectors d = _
    rw [show s.repair .destination i e = written.reselectOne i from rfl, activeDest_congr_banks active banks, ← links]
    unfold State.reselectOne
    by_cases inside : i < 32
    · rw [dif_pos inside]
      show slot (setSlot written.tables.selectors ⟨i, inside⟩ (written.reselected ⟨i, inside⟩)) d = _
      rw [slot_setSlot, kept]
      by_cases own : d.val = i
      · rw [if_pos (Fin.ext own.symm), if_pos ⟨rfl, own⟩, reselected_eq]
      · rw [if_neg fun same => own (congrArg Fin.val same.symm), if_neg fun same => own same.2]
    · rw [dif_neg inside, kept, if_neg (by omega)]

/-- Settles O51: the answers of both requests in the order of their refusals, and the tables they leave. -/
theorem entriesAreWrittenAndRepaired : Obligations.EntriesAreWrittenAndRepaired := by
  refine ⟨fun s l r rest tb h wf table => ?_, fun s l r rest h noTable => ⟨fun kind => ?_, fun kind => ?_⟩⟩
  · have code := tableOf_eq _ tb table
    intro first count standby active carried fits owned
    refine ⟨fun kind => ?_, fun kind => ?_⟩
    · have row := requestRow_writeEntries kind
      obtain ⟨badRange, badState, busy, done⟩ := answerWriteEntries_table (requeued s rest) code
      refine ⟨fun misfit => answers_refused rfl .badRange h row (badRange misfit) rfl,
        fun fit pending => answers_refused rfl .badState h row (badState fit pending) rfl,
        fun fit settled covered => answers_refused rfl .busy h row (busy fit settled covered) rfl, fun fit settled free => ?_⟩
      obtain ⟨active_eq, selectors_eq⟩ := writeRange_roles (requeued s rest) standby first count carried
      refine ⟨((requeued s rest).writeRange standby first count carried).tables, ?_, active_eq, selectors_eq, fun tb' b n => ?_⟩
      · have answered := (done fit settled free).trans (congrArg (Prod.mk _) (writeRange_frame ..))
        exact answers_requeued rfl h row answered rfl rfl rfl
      · exact entry_writeRange (requeued s rest) wf standby first count tb carried (fun k => parseEntry_table tb _) tb' b n
    · have row := requestRow_repairEntry kind
      obtain ⟨badRange, valid⟩ := answerRepairEntry_table (requeued s rest) code
      refine ⟨fun out => answers_refused rfl .badRange h row (badRange out) rfl, fun inside carried_ok => ?_⟩
      obtain ⟨busy, badState, done⟩ := valid inside carried_ok
      refine ⟨fun covered => answers_refused rfl .busy h row (busy covered) rfl,
        fun free live => answers_refused rfl .badState h row (badState free live) rfl, fun free corrupt => ?_⟩
      obtain ⟨active_eq, banks_eq⟩ := repair_banks (requeued s rest) tb first (carried 0)
      refine ⟨((requeued s rest).repair tb first (carried 0)).tables, ?_, active_eq, fun tb' b n => ?_,
        repair_selectors (requeued s rest) tb first (carried 0)⟩
      · have answered := (done free corrupt).trans (congrArg (Prod.mk _) (repair_frame ..))
        exact answers_requeued rfl h row answered rfl rfl rfl
      · refine (entry_congr_banks banks_eq tb' b n).trans ((entry_putEntry (requeued s rest) wf active first (carried 0) _ tb' b n).trans ?_)
        rw [show (carried 0).table = tb from parseEntry_table tb _]
        rfl
  · refine answers_refused rfl .badRange h (requestRow_writeEntries kind) ?_ rfl
    unfold answerWriteEntries
    rw [tableOf_none _ noTable]
  · refine answers_refused rfl .badRange h (requestRow_repairEntry kind) ?_ rfl
    unfold answerRepairEntry
    rw [tableOf_none _ noTable]

end Sys2Proof.ForwardingTables
end

section
/-! PROOFS. What every command but those of the tables leaves alone, and how Route Selectors follow link changes (R37, R38). -/

namespace Sys2Proof.ForwardingTables

open Sys2Proof.Machine Sys2Proof.Laws Sys2Proof.LinkPorts

/-! ### Events beside the tables and the operations -/

/-- From `s` to `t` no table, operation record, epoch item or fail-over count changes. -/
structure Aside (s t : State) : Prop where
  tables : t.tables = s.tables
  op : t.op = s.op
  epoch : t.epoch = s.epoch
  failOvers : t.globals.failOvers = s.globals.failOvers

theorem Aside.refl (s : State) : Aside s s := ⟨rfl, rfl, rfl, rfl⟩
theorem Aside.trans {s t u : State} (h : Aside s t) (k : Aside t u) : Aside s u :=
  ⟨k.tables.trans h.tables, k.op.trans h.op, k.epoch.trans h.epoch, k.failOvers.trans h.failOvers⟩

/-- From `s` to `t` the operation record is kept, and the roles are kept with the swap record's state, or a pending swap is done with (R127, R129). -/
structure RolesKept (s t : State) : Prop where
  op : t.op = s.op
  roles : (t.epoch.swapPending = s.epoch.swapPending ∧ t.tables.active = s.tables.active) ∨
    (s.epoch.swapPending = true ∧ t.epoch.swapPending = false)

/-- From `s` to `t` no stored entry changes either. -/
structure Bystander (s t : State) : Prop extends RolesKept s t where
  banks : t.tables.banks = s.tables.banks

theorem RolesKept.of_eq {s t : State} (op : t.op = s.op) (epoch : t.epoch = s.epoch) (active : t.tables.active = s.tables.active) : RolesKept s t :=
  ⟨op, .inl ⟨congrArg EpochUnit.swapPending epoch, active⟩⟩

theorem RolesKept.trans {s t u : State} (h : RolesKept s t) (k : RolesKept t u) : RolesKept s u := by
  refine ⟨k.op.trans h.op, ?_⟩
  obtain ⟨pending, active⟩ | ⟨was, done⟩ := h.roles
  · obtain ⟨pending', active'⟩ | ⟨was', done'⟩ := k.roles
    · exact .inl ⟨pending'.trans pending, active'.trans active⟩
    · exact .inr ⟨pending ▸ was', done'⟩
  · obtain ⟨pending', -⟩ | ⟨was', -⟩ := k.roles
    · exact .inr ⟨was, pending'.trans done⟩
    · rw [done] at was'
      cases was'

theorem Bystander.trans {s t u : State} (h : Bystander s t) (k : Bystander t u) : Bystander s u :=
  ⟨h.toRolesKept.trans k.toRolesKept, k.banks.trans h.banks⟩
theorem Bystander.of_banksKept {s t : State} (banks : s.banksKept t) (op : t.op = s.op) (epoch : t.epoch = s.epoch) : Bystander s t :=
  ⟨.of_eq op epoch banks.1, banks.2⟩
theorem Bystander.of_eq {s t : State} (tables : t.tables = s.tables) (op : t.op = s.op) (epoch : t.epoch = s.epoch) : Bystander s t :=
  .of_banksKept ⟨congrArg Tables.active tables, congrArg Tables.banks tables⟩ op epoch
theorem Aside.bystander {s t : State} (h : Aside s t) : Bystander s t := .of_eq h.tables h.op h.epoch

theorem linkChange_bystander (s : State) (l : Link) (old : LinkState) : Bystander s (s.linkChange l old) :=
  .of_banksKept (linkChange_banks s l old) (linkChange_op s l old) (linkChange_epoch s l old)

/-! ### The change of one link -/

theorem statesKept_of_links {s t : State} (h : t.links = s.links) : StatesKept s t := fun k => congrArg LinkPort.state (link_congr h k)

/-- From `s` to `t` link `l` may take another state and no other link does, and what follows for the selectors is what `State.linkChange` says of
a state with the tables and the fail-over count of `s` (R14, R37, R38). -/
def Follows (s t : State) (l : Link) : Prop :=
  ∃ u, Aside s u ∧ (∀ k, k ≠ l → (u.link k).state = (s.link k).state) ∧ Aside (u.linkChange l (s.link l).state) t ∧ StatesKept u t

/-- What an event that writes no stored entry does: it keeps the state of every link, or it changes one link and the selectors follow. -/
def LinkStep (s t : State) : Prop := (Bystander s t ∧ StatesKept s t) ∨ ∃ l, Follows s t l

theorem Follows.bystander {s t : State} {l : Link} (h : Follows s t l) : Bystander s t := by
  obtain ⟨u, before, -, after, -⟩ := h
  exact (before.bystander.trans (linkChange_bystander u l _)).trans after.bystander
theorem LinkStep.bystander {s t : State} (h : LinkStep s t) : Bystander s t := by
  obtain ⟨b, -⟩ | ⟨l, f⟩ := h
  · exact b
  · exact f.bystander

theorem linkChange_statesKept (s : State) (l : Link) (old : LinkState) : StatesKept s (s.linkChange l old) := fun k => linkChange_port_state s l old k

theorem Follows.of_linkChange {s u : State} {l : Link} (aside : Aside s u) (others : ∀ k, k ≠ l → (u.link k).state = (s.link k).state) :
    Follows s (u.linkChange l (s.link l).state) l := ⟨u, aside, others, .refl _, linkChange_statesKept u l _⟩

theorem Follows.step {s t : State} {l : Link} (h : Follows s t l) : LinkStep s t := .inr ⟨l, h⟩
theorem LinkStep.kept {s t : State} (h : Bystander s t) (k : StatesKept s t) : LinkStep s t := .inl ⟨h, k⟩
theorem LinkStep.refl (s : State) : LinkStep s s := .kept (Aside.refl s).bystander fun _ => rfl

theorem Follows.before {s u t : State} {l : Link} (f : Follows u t l) (h : Aside s u) (k : StatesKept s u) : Follows s t l := by
  obtain ⟨v, aside, others, after, states⟩ := f
  rw [k l] at after
  exact ⟨v, h.trans aside, fun n hn => (others n hn).trans (k n), after, states⟩

theorem LinkStep.before {s u t : State} (f : LinkStep u t) (h : Aside s u) (k : StatesKept s u) : LinkStep s t := by
  obtain ⟨b, kept⟩ | ⟨l, f⟩ := f
  · exact .kept (h.bystander.trans b) (k.trans kept)
  · exact (f.before h k).step

theorem LinkStep.after {s u t : State} (f : LinkStep s u) (h : Aside u t) (k : StatesKept u t) : LinkStep s t := by
  obtain ⟨b, kept⟩ | ⟨l, v, aside, others, after, states⟩ := f
  · exact .kept (b.trans h.bystander) (kept.trans k)
  · exact .inr ⟨l, v, aside, others, after.trans h, states.trans k⟩

/-- A port update that keeps the link's state, before a step. -/
theorem LinkStep.afterPort {s t : State} {l : Link} {f : LinkPort → LinkPort} (k : LinkStep (s.modLink l f) t) (h : ∀ p, (f p).state = p.state) :
    LinkStep s t := k.before ⟨rfl, rfl, rfl, rfl⟩ (modLink_statesKept s l f h)

/-- A port update that keeps the link's state. -/
theorem modLink_linkStep (s : State) (l : Link) (f : LinkPort → LinkPort) (h : ∀ p, (f p).state = p.state) : LinkStep s (s.modLink l f) :=
  (LinkStep.refl (s.modLink l f)).afterPort h
theorem countLink_linkStep (s : State) (l : Link) (f : LinkCounters → LinkCounters) : LinkStep s (s.countLink l f) :=
  modLink_linkStep s l _ fun _ => rfl
theorem calm_linkStep {s t : State} (h : Calm s t) (tables : t.tables = s.tables) (op : t.op = s.op) (epoch : t.epoch = s.epoch) : LinkStep s t :=
  .kept (.of_eq tables op epoch) h.statesKept

/-! ### The entries of a link into its states -/

theorem enterFaulted_follows (s : State) (l : Link) (cause : FaultCause) : Follows s (s.enterFaulted l cause) l := by
  rw [enterFaulted_eq]
  refine .of_linkChange ⟨by simp [faultedQuiet], by simp [faultedQuiet], by simp [faultedQuiet], ?_⟩ fun k hk => ?_
  · rw [flushQueues_globals]
    unfold faultedQuiet
    rw [quiet_globals]
    simp
  · rw [flushQueues_port_state, faultedQuiet_other s l k cause hk]

theorem enterDisabled_follows (s : State) (l : Link) : Follows s (s.enterDisabled l) l := by
  rw [enterDisabled_eq]
  exact .of_linkChange ⟨rfl, rfl, rfl, rfl⟩ fun k hk => congrArg LinkPort.state (disabledQuiet_other s l k hk)

/-- A change of one port and then its link change. -/
theorem modLink_follows (s : State) (l : Link) (f : LinkPort → LinkPort) : Follows s ((s.modLink l f).linkChange l (s.link l).state) l :=
  .of_linkChange ⟨rfl, rfl, rfl, rfl⟩ fun _ hk => congrArg LinkPort.state (link_modLink_ne _ _ _ _ hk.symm)

theorem enterTraining_follows {s : State} {l : Link} {old : LinkState} (h : (s.link l).state = old) : Follows s (s.enterTraining l old) l := by
  subst h
  exact modLink_follows s l _
theorem enterUp_follows (s : State) (l : Link) : Follows s (s.enterUp l) l := modLink_follows s l _

theorem retrainLink_follows (s : State) (l : Link) : Follows s (s.retrainLink l) l := by
  rw [retrainLink_eq]
  unfold State.enterTraining
  refine .of_linkChange (Aside.mk (by simp [retrainFlushed]) (by simp [retrainFlushed, retrainQuiet]) (by simp [retrainFlushed, retrainQuiet]) ?_)
    fun k hk => ?_
  · rw [modLink_globals]
    unfold retrainFlushed
    rw [flushQueues_globals, retrainQuiet_globals]
  · rw [link_modLink_ne _ _ _ _ hk.symm]
    unfold retrainFlushed
    rw [flushQueues_port_state, retrainQuiet_link, if_neg hk]

/-! ### Arriving cells -/

theorem badCell_linkStep (s : State) (l : Link) : LinkStep s (s.badCell l) := by
  unfold State.badCell
  dsimp only
  split
  · exact (enterFaulted_follows _ l _).step.afterPort fun _ => rfl
  · exact modLink_linkStep s l _ fun _ => rfl

theorem train_linkStep (s : State) (l : Link) (kind : CellKind) : LinkStep s (s.train l kind) := by
  unfold State.train
  dsimp only
  split
  · split
    · exact (enterUp_follows _ l).step.afterPort fun _ => rfl
    · exact modLink_linkStep s l _ fun _ => rfl
  · exact modLink_linkStep s l _ fun _ => rfl

theorem performSwap_bystander {s : State} (h : s.epoch.swapPending = true) : Bystander s s.performSwap := by
  unfold State.performSwap
  refine ⟨⟨by rw [raise_op], .inr ⟨h, by rw [raise_epoch]⟩⟩, by rw [raise_tables]⟩

theorem epochChange_bystander (s : State) : Bystander s s.epochChange := by
  have ticked : Bystander s s.tickRefresh := .of_eq (by simp) (by simp) (by simp)
  unfold State.epochChange
  dsimp only
  split
  · next reached =>
    unfold State.swapReached at reached
    exact ticked.trans (performSwap_bystander (Bool.and_eq_true_iff.1 reached).1)
  · exact ticked

/-- An epoch change after an update that leaves tables, operation record and swap record alone. -/
theorem epochChange_after {s u : State} (tables : u.tables = s.tables) (op : u.op = s.op) (pending : u.epoch.swapPending = s.epoch.swapPending) :
    Bystander s u.epochChange :=
  Bystander.trans ⟨⟨op, .inl ⟨pending, congrArg Tables.active tables⟩⟩, congrArg Tables.banks tables⟩ (epochChange_bystander u)

theorem epochChange_linkStep {s u : State} (tables : u.tables = s.tables) (op : u.op = s.op) (pending : u.epoch.swapPending = s.epoch.swapPending)
    (links : u.links = s.links) : LinkStep s u.epochChange :=
  .kept (epochChange_after tables op pending) ((statesKept_of_links links).trans (epochChange_calm u).statesKept)

theorem arriveSync_bystander (s : State) (l : Link) (n : Epoch) : Bystander s (s.arriveSync l n) := by
  unfold State.arriveSync
  dsimp only
  split
  · exact .of_eq (by simp) (by simp) (by simp)
  · split
    · exact ⟨⟨rfl, .inl ⟨rfl, rfl⟩⟩, rfl⟩
    · split
      · exact epochChange_after rfl rfl rfl
      · exact epochChange_after (by simp) (by simp) (by simp)

theorem deliver_bystander (s : State) (l : Link) (kind : CellKind) (cell : Cell) : Bystander s (s.deliver l kind cell) := by
  cases kind with
  | sync => exact arriveSync_bystander s l _
  | _ => exact .of_eq (by simp [State.deliver]) (by simp [State.deliver]) (by simp [State.deliver])

theorem arriveGood_linkStep (s : State) (l : Link) (kind : CellKind) (cell : Cell) (h : (s.link l).state = .up) (hk : cellKind cell = some kind) :
    LinkStep s (s.arriveGood l kind cell) := by
  unfold State.arriveGood
  exact LinkStep.afterPort (.kept (deliver_bystander _ l kind cell) (deliver_calm _ l kind cell (by simp [h]) hk).statesKept) fun _ => rfl

theorem arriveHeaderError_linkStep (s : State) (l : Link) : LinkStep s (s.arriveHeaderError l) := by
  unfold State.arriveHeaderError
  dsimp only
  split
  · exact (modLink_linkStep (s.countLink l _) l (fun p => { p with trainCount := 0 }) fun _ => rfl).afterPort fun _ => rfl
  · exact (badCell_linkStep _ l).afterPort fun _ => rfl
  · exact countLink_linkStep s l _
  · exact .refl s

theorem arriveGoodHeader_linkStep (s : State) (l : Link) (kind : CellKind) (cell : Cell) (hk : cellKind cell = some kind) :
    LinkStep s (s.arriveGoodHeader l kind cell) := by
  cases hs : (s.link l).state with
  | disabled => simpa only [State.arriveGoodHeader, hs] using LinkStep.refl s
  | training =>
    rw [arriveGoodHeader_training hs]
    exact (train_linkStep _ l kind).afterPort fun _ => rfl
  | up =>
    rw [arriveGoodHeader_up hs]
    split
    · exact (arriveGood_linkStep _ l kind cell (by simp [pacedPort, hs]) hk).afterPort fun _ => rfl
    · exact (badCell_linkStep _ l).afterPort fun _ => rfl
  | faulted =>
    rw [arriveGoodHeader_faulted hs]
    exact countLink_linkStep s l _

/-! ### The end of a cell -/

theorem chooseNext_statesKept {s t : State} {l : Link} (up : (s.link l).state = .up) (h : s.chooseNext l = .next t) : StatesKept s t := by
  have afterAttn : ∀ {u : State}, (u.link l).state = .up → u.chooseAfterAttn l = .next t → StatesKept u t := fun {u} hu hc => by
    unfold State.chooseAfterAttn at hc
    split at hc
    · exact next_inj hc ▸ (sendFlowst_calm u l).statesKept
    · split at hc
      · exact sendData_statesKept hu hc
      · exact next_inj hc ▸ (sendNonData_calm u l _ _).statesKept
  unfold State.chooseNext at h
  split at h
  · next record rest _ =>
    have queue := modLink_statesKept s l (fun p => { p with respQueue := rest }) fun _ => rfl
    exact next_inj h ▸ (queue.trans (placeHeld_statesKept _ l)).trans (sendNonData_calm _ l _ _).statesKept
  · split at h
    · split at h
      · exact next_inj h ▸ (sendAttn_calm s l).statesKept
      · exact (modLink_statesKept s l (fun p => { p with pendAttn := false }) fun _ => rfl).trans (afterAttn (by simpa using up) h)
    · exact afterAttn up h

theorem nextCell_linkStep {s t : State} {l : Link} (up : (s.link l).state = .up) (h : s.nextCell l = .next t) : LinkStep s t := by
  have chosen : ∀ {u : State}, (u.link l).state = .up → u.chooseNext l = .next t → LinkStep u t := fun {u} hu hc =>
    .kept (.of_eq (chooseNext_tables u t l hc) (chooseNext_op u t l hc) (chooseNext_epoch u t l hc)) (chooseNext_statesKept hu hc)
  unfold State.nextCell at h
  split at h
  · exact chosen up h
  · next b _ =>
    have states := (endData_calm s l b).statesKept
    have aside : Aside s (s.endData l b) := ⟨by simp, by simp, by simp, by simp⟩
    split at h
    · obtain rfl := next_inj h
      exact ((enterDisabled_follows _ l).before aside states).step
    · exact (chosen ((states l).trans up) h).before aside states

/-! ### Requests -/

theorem place_aside (s : State) (l : Link) (record : Payload) : Aside s (s.place l record) := by
  refine ⟨by simp, by simp, by simp, ?_⟩
  unfold State.place
  split
  · rfl
  · split <;> rfl

/-- A request served does what its execution does. -/
theorem serve_linkStep (s : State) (row : RequestRow) (execute : Payload → State → Answer × State) (h : ∀ r u, LinkStep u (execute r u).2) :
    LinkStep s (s.serve row execute) := by
  obtain same | ⟨r, -, served⟩ := serve_cases s row execute
  · rw [same]
    exact .refl s
  · rw [served]
    have executed := h r.record { s with agent := { s.agent with queue := s.agent.queue.tail } }
    refine LinkStep.after ?_ (place_aside _ _ _) (place_statesKept _ _ _)
    refine LinkStep.after (LinkStep.before executed ?dequeued fun _ => rfl) ?counted fun _ => rfl
    case dequeued => exact ⟨rfl, rfl, rfl, rfl⟩
    case counted => exact ⟨rfl, rfl, rfl, rfl⟩

/-- A request whose execution leaves tables, operation record, epoch items and links alone. -/
theorem serve_bystander (s : State) (row : RequestRow) (execute : Payload → State → Answer × State)
    (tables : ∀ r u, (execute r u).2.tables = u.tables) (op : ∀ r u, (execute r u).2.op = u.op)
    (epoch : ∀ r u, (execute r u).2.epoch = u.epoch) (links : ∀ r u, (execute r u).2.links = u.links) : LinkStep s (s.serve row execute) :=
  serve_linkStep s row execute fun r u =>
    .kept (.of_eq (tables r u) (op r u) (epoch r u)) (statesKept_of_links (links r u))

theorem enableLink_linkStep (s : State) (l : Link) : LinkStep s (s.enableLink l) := by
  unfold State.enableLink
  split
  · next h => exact (enterTraining_follows h).step
  · next h => exact (enterTraining_follows (by simp [h])).step.afterPort fun _ => rfl
  · exact .refl s
  · exact modLink_linkStep s l _ fun _ => rfl

theorem disableLink_linkStep (s : State) (l : Link) : LinkStep s (s.disableLink l) := by
  unfold State.disableLink
  split
  · exact .refl s
  · exact (enterDisabled_follows s l).step
  · exact (enterDisabled_follows s l).step
  · split
    · exact modLink_linkStep s l _ fun _ => rfl
    · exact (enterDisabled_follows s l).step

theorem answerEnable_linkStep (r : Payload) (s : State) : LinkStep s (answerEnable r s).2 := by
  unfold answerEnable
  split
  · exact .refl s
  · split
    · exact .refl s
    · split
      · exact .refl s
      · exact enableLink_linkStep s _
theorem answerDisable_linkStep (r : Payload) (s : State) : LinkStep s (answerDisable r s).2 := by
  unfold answerDisable
  split
  · exact .refl s
  · exact disableLink_linkStep s _
theorem answerFlush_linkStep (r : Payload) (s : State) : LinkStep s (answerFlush r s).2 := by
  refine .kept (.of_eq (answerFlush_tables r s) (answerFlush_op r s) (answerFlush_epoch r s)) ?_
  unfold answerFlush
  split
  · exact fun _ => rfl
  · exact (flushQueues_calm s _ (linkQueues_nodup _)).statesKept
theorem answerRetrain_linkStep (r : Payload) (s : State) : LinkStep s (answerRetrain r s).2 := by
  unfold answerRetrain
  split
  · exact .refl s
  · split
    · exact .refl s
    · exact (retrainLink_follows s _).step

theorem answerReadCounters_statesKept (r : Payload) (s : State) : StatesKept s (answerReadCounters r s).2 := by
  unfold answerReadCounters
  split
  · split
    · exact fun _ => rfl
    · split
      · exact (countLink_calm s _ _).statesKept
      · exact fun _ => rfl
  · split
    · split
      · exact (countQueue_calm s _ _).statesKept
      · exact fun _ => rfl
    · exact fun _ => rfl
  · split <;> exact fun _ => rfl
  · exact fun _ => rfl

/-- R127: a Cancel Swap ends a pending swap and changes nothing else. -/
theorem answerCancelSwap_linkStep (r : Payload) (s : State) : LinkStep s (answerCancelSwap r s).2 := by
  unfold answerCancelSwap
  split
  · next pending => exact .kept ⟨⟨rfl, .inr ⟨pending, rfl⟩⟩, rfl⟩ fun _ => rfl
  · exact .refl s

/-! ### Every command beside those of the tables -/

/-- The commands that write stored entries or the operation record, or set a swap PENDING. -/
def writesTablesOrRecord : Instr → Bool
  | .admission | .scrubStep | .tableDisturbance .. | .fillStep | .copyStep | .digestStep | .memtestStep _ | .writeEntries | .repairEntry
  | .fillEntries | .copyBank | .digestBank | .startMemoryTest | .scheduleSwap | .datapathReset => true
  | _ => false

theorem LinkStep.ite {s t : State} {c : Prop} [Decidable c] (h : c → LinkStep s t) : LinkStep s (if c then t else s) := by
  split
  · next hc => exact h hc
  · exact .refl s
theorem LinkStep.of_next {s t u : State} (h : (Host.Outcome.next u : Host.Outcome State Fault Refusal) = .next t) (k : LinkStep s u) : LinkStep s t :=
  next_inj h ▸ k

theorem execCellArrival_linkStep {s t : State} {l : Link} {cell : Cell} (h : execCellArrival l cell s = .next t) : LinkStep s t := by
  refine .of_next h ?_
  split
  · exact .refl s
  · split
    · exact arriveHeaderError_linkStep s l
    · next hk => exact arriveGoodHeader_linkStep s l _ cell (goodHeaderKind_kind hk)

theorem execHoldOffExpiry_linkStep {s t : State} {l : Link} (h : execHoldOffExpiry l s = .next t) : LinkStep s t := by
  refine .of_next h (.ite fun hc => ?_)
  split
  · exact (enterTraining_follows hc.2.1).step
  · exact modLink_linkStep s l _ fun _ => rfl

theorem execNextCellEvent_linkStep {s t : State} {l : Link} (h : execNextCellEvent l s = .next t) : LinkStep s t := by
  unfold execNextCellEvent at h
  split at h
  · next hc => exact nextCell_linkStep hc.2 h
  · exact .of_next h (.refl s)

theorem exec_linkStep {i : Instr} {s t : State} (notReset : i.isReset = false) (beside : writesTablesOrRecord i = false) (h : exec i s = .next t) :
    LinkStep s t := by
  cases i with
  | rstNRise | rstNFall => cases notReset
  | cellArrival l cell => exact execCellArrival_linkStep h
  | trainingWindowExpiry l => exact .of_next h (.ite fun _ => (enterFaulted_follows s l _).step)
  | keepaliveExpiry l => exact .of_next h (.ite fun _ => (enterFaulted_follows s l _).step)
  | holdOffExpiry l => exact execHoldOffExpiry_linkStep h
  | nextCellEvent l => exact execNextCellEvent_linkStep h
  | monitorStep => exact .of_next h (.ite fun _ => calm_linkStep (monitorStep_calm s) (by simp) (by simp) (by simp))
  | coalescingTimerExpiry =>
    exact .of_next h (.ite fun _ => .kept (.of_eq (by simp) (by simp) (by simp))
      (oweFlowst_calm { s with flow := { s.flow with coalescing := .idle } }).statesKept)
  | epochTimerExpiry =>
    exact .of_next h (.ite fun _ => epochChange_linkStep (s := s) rfl rfl rfl rfl)
  | attentionHoldOffExpiry => exact .of_next h (.ite fun _ => calm_linkStep (attentionExpiry_calm s) (by simp) (by simp) (by simp))
  | readIdentity =>
    exact .of_next h (serve_bystander s _ _ answerReadIdentity_tables answerReadIdentity_op answerReadIdentity_epoch answerReadIdentity_links)
  | readStatus => exact .of_next h (serve_bystander s _ _ answerReadStatus_tables answerReadStatus_op answerReadStatus_epoch answerReadStatus_links)
  | readQueueSnapshot =>
    exact .of_next h (serve_bystander s _ _ answerReadQueueSnapshot_tables answerReadQueueSnapshot_op answerReadQueueSnapshot_epoch
      answerReadQueueSnapshot_links)
  | readCounters =>
    exact .of_next h (serve_linkStep s _ _ fun r u => .kept (.of_eq (answerReadCounters_tables r u) (answerReadCounters_op r u)
      (answerReadCounters_epoch r u)) (answerReadCounters_statesKept r u))
  | readAttention =>
    exact .of_next h (serve_bystander s _ _ answerReadAttention_tables answerReadAttention_op answerReadAttention_epoch answerReadAttention_links)
  | readMissRecord =>
    exact .of_next h (serve_bystander s _ _ answerReadMissRecord_tables answerReadMissRecord_op answerReadMissRecord_epoch answerReadMissRecord_links)
  | readEntries =>
    exact .of_next h (serve_bystander s _ _ answerReadEntries_tables answerReadEntries_op answerReadEntries_epoch answerReadEntries_links)
  | enable => exact .of_next h (serve_linkStep s _ _ answerEnable_linkStep)
  | disable => exact .of_next h (serve_linkStep s _ _ answerDisable_linkStep)
  | flush => exact .of_next h (serve_linkStep s _ _ answerFlush_linkStep)
  | retrain => exact .of_next h (serve_linkStep s _ _ answerRetrain_linkStep)
  | cancelSwap => exact .of_next h (serve_linkStep s _ _ answerCancelSwap_linkStep)
  | sendFlowStatusNow =>
    exact .of_next h (serve_linkStep s _ _ fun _ u => calm_linkStep (oweFlowst_calm u) (by simp) (by simp) (by simp))
  | setManagementLinks =>
    exact .of_next h (serve_bystander s _ _ answerSetManagementLinks_tables answerSetManagementLinks_op answerSetManagementLinks_epoch
      answerSetManagementLinks_links)
  | setParameter =>
    exact .of_next h (serve_bystander s _ _ answerSetParameter_tables answerSetParameter_op answerSetParameter_epoch answerSetParameter_links)
  | readParameter =>
    exact .of_next h (serve_bystander s _ _ answerReadParameter_tables answerReadParameter_op answerReadParameter_epoch answerReadParameter_links)
  | undefinedRequest =>
    exact .of_next h (serve_bystander s _ _ answerUndefined_tables answerUndefined_op answerUndefined_epoch answerUndefined_links)
  | _ => cases beside

/-! ### The commands of the tables change no link's state -/

theorem serve_statesKept (s : State) (row : RequestRow) (execute : Payload → State → Answer × State)
    (h : ∀ r u, StatesKept u (execute r u).2) :
    StatesKept s (s.serve row execute) := by
  obtain same | ⟨r, -, served⟩ := serve_cases s row execute
  · rw [same]
    exact fun _ => rfl
  · rw [served]
    exact StatesKept.trans (h r.record { s with agent := { s.agent with queue := s.agent.queue.tail } }) (place_statesKept _ _ _)

theorem statesKept_of_next {s t u : State} (h : (Host.Outcome.next u : Host.Outcome State Fault Refusal) = .next t) (k : StatesKept s u) :
    StatesKept s t := next_inj h ▸ k
theorem statesKept_ite {s t : State} {c : Prop} [Decidable c] (h : StatesKept s t) : StatesKept s (if c then t else s) := by
  split
  · exact h
  · exact fun _ => rfl

theorem resetDatapath_statesKept (s : State) : StatesKept s s.resetDatapath := by
  unfold State.resetDatapath
  exact (((abortOp_calm s).trans (flushQueues_calm _ _ (List.nodup_finRange _))).trans (emptyReceiveBuffers_calm _)).statesKept.trans
    (resetSchedulers_statesKept _)

theorem exec_statesKept {i : Instr} {s t : State} (tables : writesTablesOrRecord i = true) (h : exec i s = .next t) : StatesKept s t := by
  cases i with
  | admission => exact statesKept_of_next h (statesKept_ite (admission_calm s).statesKept)
  | scrubStep => exact statesKept_of_next h (statesKept_ite (scrubVisit_calm s).statesKept)
  | tableDisturbance b n e code => exact statesKept_of_next h (statesKept_ite (putEntry_calm s b n e code).statesKept)
  | fillStep => exact statesKept_of_next h (statesKept_ite (fillStep_calm s).statesKept)
  | copyStep => exact statesKept_of_next h (statesKept_ite (copyStep_calm s).statesKept)
  | digestStep => exact statesKept_of_next h (statesKept_ite (digestStep_calm s).statesKept)
  | memtestStep passes => exact statesKept_of_next h (statesKept_ite (memtestStep_calm s passes).statesKept)
  | writeEntries => exact statesKept_of_next h (serve_statesKept s _ _ fun r u => statesKept_of_links (answerWriteEntries_links r u))
  | repairEntry => exact statesKept_of_next h (serve_statesKept s _ _ fun r u => statesKept_of_links (answerRepairEntry_links r u))
  | fillEntries => exact statesKept_of_next h (serve_statesKept s _ _ fun r u => statesKept_of_links (answerFillEntries_links r u))
  | copyBank => exact statesKept_of_next h (serve_statesKept s _ _ fun r u => statesKept_of_links (answerCopyBank_links r u))
  | digestBank => exact statesKept_of_next h (serve_statesKept s _ _ fun r u => statesKept_of_links (answerDigestBank_links r u))
  | startMemoryTest => exact statesKept_of_next h (serve_statesKept s _ _ fun r u => statesKept_of_links (answerStartMemoryTest_links r u))
  | scheduleSwap => exact statesKept_of_next h (serve_statesKept s _ _ fun r u => statesKept_of_links (answerScheduleSwap_links r u))
  | datapathReset => exact statesKept_of_next h (serve_statesKept s _ _ fun _ u => resetDatapath_statesKept u)
  | _ => cases tables

/-! ### Fail-overs (R37, R38) -/

/-- Exactly the destinations of a rule move from `s` to `t`, each counted. -/
def FailsOver (s t : State) (moved : Link → Bool) : Prop :=
  (∀ d, slot t.tables.selectors d = if moved d = true then (slot s.tables.selectors d).flip else slot s.tables.selectors d) ∧
  t.globals.failOvers = min (s.globals.failOvers + (List.finRange 32).countP moved) 4294967295

theorem failOver_failsOver (s : State) (moves : Link → Bool) : FailsOver s (s.failOver moves) moves := ⟨fun d => slot_ofFn _ d, rfl⟩

/-- R37: the link change of a link that has left UP. -/
theorem linkChange_leaving {s : State} {l : Link} (h : (s.link l).state ≠ .up) : FailsOver s (s.linkChange l .up) (s.movesOnLeaving l) := by
  unfold State.linkChange FailsOver
  dsimp only
  rw [if_pos ⟨rfl, h⟩, raise_tables, raise_globals]
  exact failOver_failsOver s (s.movesOnLeaving l)

/-- R38: the link change of a link that has entered UP. -/
theorem linkChange_entering {s : State} {l : Link} {old : LinkState} (was : old ≠ .up) (h : (s.link l).state = .up) :
    FailsOver s (s.linkChange l old) (s.movesOnEntering l) := by
  unfold State.linkChange FailsOver
  dsimp only
  rw [if_neg (fun left => was left.1), if_pos ⟨was, h⟩, raise_tables, raise_globals]
  exact failOver_failsOver s (s.movesOnEntering l)

/-- A fail-over reads tables and fail-over count only. -/
theorem FailsOver.congr {s u v t : State} {moved : Link → Bool} (h : FailsOver u v moved) (before : Aside s u) (after : Aside v t) :
    FailsOver s t moved := by
  unfold FailsOver at h ⊢
  rw [after.tables, after.failOvers, ← before.tables, ← before.failOvers]
  exact h

theorem Follows.changed {s t : State} {l k : Link} (h : Follows s t l) (changed : (t.link k).state ≠ (s.link k).state) : k = l := by
  obtain ⟨u, -, others, -, states⟩ := h
  by_contra other
  exact changed ((states k).trans (others k other))

/-- The destinations of R37 and R38 as the state before the event and the link states after it give them. -/
theorem moves_congr {s u t : State} (tables : u.tables = s.tables) (states : StatesKept u t) (l : Link) :
    u.movesOnLeaving l = (fun d : Link =>
      (s.activeDest d.val).isActive && decide (selectedNumber (s.activeDest d.val) (slot s.tables.selectors d) = some l.val) &&
        (otherNumber (s.activeDest d.val) (slot s.tables.selectors d)).any t.numberUp) ∧
    u.movesOnEntering l = (fun d : Link =>
      (s.activeDest d.val).isActive && decide (otherNumber (s.activeDest d.val) (slot s.tables.selectors d) = some l.val) &&
        !(selectedNumber (s.activeDest d.val) (slot s.tables.selectors d)).any t.numberUp) := by
  have numbers : t.numberUp = u.numberUp := funext (numberUp_congr states)
  have dests : u.activeDest = s.activeDest := funext (activeDest_congr tables)
  rw [numbers, ← dests, ← tables]
  exact ⟨rfl, rfl⟩

/-- Settles O28: an event that changes a link's state does so by one link change (`Follows`), whose fail-overs are those of R37 or R38. -/
theorem selectorsFollowLinkChanges : Obligations.SelectorsFollowLinkChanges := by
  intro i s t l notReset h
  have changes : (t.link l).state ≠ (s.link l).state → Follows s t l := fun changed => by
    cases beside : writesTablesOrRecord i with
    | true => exact absurd (exec_statesKept beside h l) changed
    | false =>
      obtain ⟨-, kept⟩ | ⟨k, follows⟩ := exec_linkStep notReset beside h
      · exact absurd (kept l) changed
      · obtain rfl := follows.changed changed
        exact follows
  refine ⟨fun was left => ?_, fun was entered => ?_⟩
  · obtain ⟨u, before, -, after, states⟩ := changes (by rwa [was])
    rw [was] at after
    have moved := (linkChange_leaving (by rwa [← states l])).congr before after
    rwa [(moves_congr before.tables states l).1] at moved
  · obtain ⟨u, before, -, after, states⟩ := changes (by rw [entered]; exact was.symm)
    have moved := (linkChange_entering was ((states l).symm.trans entered)).congr before after
    rwa [(moves_congr before.tables states l).2] at moved

end Sys2Proof.ForwardingTables
end

section
/-! PROOFS. The entries of the active bank: only marking, repairs and disturbances reach them (R31, R34). -/

namespace Sys2Proof.ForwardingTables

open Sys2Proof.Machine Sys2Proof.Laws

/-! ### Events that write at most one mark -/

theorem putEntry_tables_congr {s t : State} (h : s.tables = t.tables) (b : Bank) (i : Nat) (e : EntryFields) (code : Byte) :
    (s.putEntry b i e code).tables = (t.putEntry b i e code).tables := by
  cases e <;> simp only [State.putEntry, State.setBank, State.bank, h]

/-- Marking looks at the tables only. -/
theorem markCorrupt_tables_congr {s t : State} (h : s.tables = t.tables) (tb : Table) (b : Bank) (i : Nat) :
    (s.markCorrupt tb b i).tables = (t.markCorrupt tb b i).tables := by
  rw [markCorrupt_tables, markCorrupt_tables, entry_congr h]
  exact putEntry_tables_congr h ..

/-- The tables of `t` are those of `s`, at most with one entry marked CORRUPT (R30). -/
def MarksAtMostOne (s t : State) : Prop := t.tables = s.tables ∨ ∃ tb b i, t.tables = (s.markCorrupt tb b i).tables

theorem MarksAtMostOne.congr {s s' t t' : State} (h : MarksAtMostOne s' t') (before : s'.tables = s.tables) (after : t.tables = t'.tables) :
    MarksAtMostOne s t := by
  obtain kept | ⟨tb, b, i, marked⟩ := h
  · exact .inl ((after.trans kept).trans before)
  · exact .inr ⟨tb, b, i, (after.trans marked).trans (markCorrupt_tables_congr before tb b i)⟩

theorem verify_marksAtMostOne (s : State) (tb : Table) (b : Bank) (i : Nat) : MarksAtMostOne s (s.verify tb b i).2 := by
  obtain kept | marked := verify_cases s tb b i
  · exact .inl (congrArg State.tables kept)
  · exact .inr ⟨tb, b, i, congrArg State.tables marked⟩

theorem MarksAtMostOne.active {s t : State} (h : MarksAtMostOne s t) : t.tables.active = s.tables.active := by
  obtain kept | ⟨tb, b, i, marked⟩ := h
  · exact congrArg Tables.active kept
  · rw [marked, markCorrupt_active]

theorem unicast_marksAtMostOne (s : State) (ingress : Link) (cell : Cell) : MarksAtMostOne s (s.unicast ingress cell) := by
  unfold State.unicast
  split
  · next inside =>
    have read := verify_marksAtMostOne s .destination s.tables.active (cellDest cell)
    dsimp only
    split
    · exact read.congr rfl (routeUnicast_tables ..)
    · exact read.congr rfl rfl
  · exact .inl rfl

theorem multicast_marksAtMostOne (s : State) (ingress : Link) (cell : Cell) : MarksAtMostOne s (s.multicast ingress cell) := by
  have read := verify_marksAtMostOne s .group s.tables.active (cellDest cell)
  unfold State.multicast
  dsimp only
  split
  · split
    · exact read.congr rfl rfl
    · exact read.congr rfl (walkMembers_tables ..)
  · exact read.congr rfl (groupMiss_tables ..)

theorem admitCell_marksAtMostOne (s : State) (ingress : Link) (cell : Cell) : MarksAtMostOne s (s.admitCell ingress cell) := by
  unfold State.admitCell
  split
  · exact .inl rfl
  · split
    · exact unicast_marksAtMostOne s ingress cell
    · exact multicast_marksAtMostOne s ingress cell

theorem admission_marksAtMostOne (s : State) : MarksAtMostOne s s.admission := by
  unfold State.admission
  split
  · exact .inl rfl
  · next l _ =>
    split
    · exact .inl rfl
    · next cell rest _ =>
      exact (admitCell_marksAtMostOne { s.modLink l (fun p => { p with rxBuf := rest }) with rrPtr := l } l cell).congr rfl rfl

theorem scrubVisit_marksAtMostOne (s : State) : MarksAtMostOne s s.scrubVisit := by
  unfold State.scrubVisit
  exact (verify_marksAtMostOne { s with scrub := ⟨s.scrub.cursor + 1, scrubTimer s.params.scrubStep⟩ } _ _ _).congr rfl rfl

/-! ### Writers of the standby bank -/

theorem otherBank_ne (b : Bank) : b ≠ otherBank b := by
  revert b
  decide

/-- The bank that an operation writes. -/
def writtenBank : Work → Option Bank
  | .fill bank _ _ _ _ => some bank
  | .copy _ dest _ _ => some dest
  | .digest _ _ _ _ _ _ => none
  | .memtest _ _ _ _ => none

theorem runningWork_iff (s : State) (w : Work) : s.runningWork = some w ↔ ∃ n, s.op = some ⟨.running, n, w⟩ := by
  unfold State.runningWork
  constructor
  · intro h
    obtain ⟨⟨st, n, w'⟩, kept, rfl⟩ := Option.map_eq_some_iff.1 h
    obtain ⟨record, running⟩ := Option.filter_eq_some_iff.1 kept
    cases of_decide_eq_true running
    exact ⟨n, record⟩
  · rintro ⟨n, record⟩
    rw [record]
    rfl

/-- R34, R126, R130, by the bank that the running operation writes. -/
theorem standbyWriterLawful_iff (s : State) : s.standbyWriterLawful ↔ ∀ n w b, s.op = some ⟨.running, n, w⟩ → writtenBank w = some b →
    s.epoch.swapPending = false ∧ b = otherBank s.tables.active := by
  have byWork : s.standbyWriterLawful ↔ ∀ w b, s.runningWork = some w → writtenBank w = some b →
      s.epoch.swapPending = false ∧ b = otherBank s.tables.active := by
    unfold State.standbyWriterLawful State.standbyWriterRunning State.writerCovers
    cases s.runningWork with
    | none => simp
    | some w =>
      cases w with
      | fill bank e =>
        refine ⟨fun h w b same written => ?_, fun h _ => ?_⟩
        · cases same
          cases written
          exact ⟨(h rfl).1, (h rfl).2 e.table bank (decide_eq_true ⟨rfl, rfl⟩)⟩
        · obtain ⟨settled, standby⟩ := h _ bank rfl rfl
          exact ⟨settled, fun t b covered => (of_decide_eq_true covered).1 ▸ standby⟩
      | copy source dest =>
        refine ⟨fun h w b same written => ?_, fun h _ => ?_⟩
        · cases same
          cases written
          exact ⟨(h rfl).1, (h rfl).2 .group dest (decide_eq_true rfl)⟩
        · obtain ⟨settled, standby⟩ := h _ dest rfl rfl
          exact ⟨settled, fun t b covered => of_decide_eq_true covered ▸ standby⟩
      | digest | memtest =>
        refine ⟨fun _ w b same written => ?_, fun _ running => nomatch running⟩
        cases same
        cases written
  simp only [byWork, runningWork_iff]
  exact ⟨fun h n w b record => h w b ⟨n, record⟩, fun h w b ⟨n, record⟩ => h n w b record⟩

/-- A Fill step does nothing unless a Fill runs. -/
theorem fillStep_cases (s : State) :
    s.fillStep = s ∨ ∃ n bank e first last written, s.op = some ⟨.running, n, .fill bank e first last written⟩ := by
  unfold State.fillStep
  split
  · next running => exact .inr ⟨_, _, _, _, _, _, running⟩
  · exact .inl rfl

/-- A Copy step does nothing unless a Copy runs. -/
theorem copyStep_cases (s : State) :
    s.copyStep = s ∨ ∃ n source dest written asInitial, s.op = some ⟨.running, n, .copy source dest written asInitial⟩ := by
  unfold State.copyStep
  split
  · next running => exact .inr ⟨_, _, _, _, _, running⟩
  · exact .inl rfl

/-- The one step of a Copy, at any position. -/
theorem copyStep_at {s : State} {source dest : Bank} {n written asInitial : Nat}
    (h : s.op = some ⟨.running, n, .copy source dest written asInitial⟩) :
    s.copyStep = stepOp (s.writeEntry dest (copyItem n).2 (copied (copyItem n).1 (s.entry (copyItem n).1 source (copyItem n).2).fields))
      (decide (n + 1 < 4128)) (n + 1) (.copy source dest (written + 1)
        (if EntryFields.copiedAsInitial (s.entry (copyItem n).1 source (copyItem n).2).fields = true then asInitial + 1 else asInitial)) := by
  unfold State.copyStep
  rw [h]
  exact stepOp_decide ..

/-- A Write Entries either leaves the state or writes a range of the standby bank (R148). -/
theorem answerWriteEntries_cases (r : Payload) (s : State) : (answerWriteEntries r s).2 = s ∨ ∃ tb, (answerWriteEntries r s).2 =
    s.writeRange (s.bankOf .standby) (recWord r 6).toNat (recByte r 8).toNat (carriedEntry r tb) := by
  cases code : tableOf (recByte r 4) with
  | none =>
    unfold answerWriteEntries
    rw [code]
    exact .inl rfl
  | some tb =>
    obtain ⟨badRange, badState, busy, done⟩ := answerWriteEntries_table s code
    by_cases fit : writeFits r tb
    · by_cases pending : s.epoch.swapPending = true
      · exact .inl (congrArg Prod.snd (badState fit pending))
      · rw [Bool.not_eq_true] at pending
        by_cases owned : s.writerCovers tb (s.bankOf .standby) = true ∨ s.digestCovers tb (s.bankOf .standby) = true
        · exact .inl (congrArg Prod.snd (busy fit pending owned))
        · exact .inr ⟨tb, congrArg Prod.snd (done fit pending owned)⟩
    · exact .inl (congrArg Prod.snd (badRange fit))

/-! ### What becomes of the active bank -/

/-- Each entry of the bank that is active in `s` is in `t` what it was, or that marked CORRUPT. -/
def ActiveMarked (s t : State) : Prop := ∀ tb n,
  t.entry tb s.tables.active n = s.entry tb s.tables.active n ∨
  t.entry tb s.tables.active n = ⟨(s.entry tb s.tables.active n).fields.withState (corruptCode tb), (s.entry tb s.tables.active n).code⟩

theorem ActiveMarked.of_tables {s t : State} (h : t.tables = s.tables) : ActiveMarked s t := fun tb n => .inl (entry_congr h tb _ n)

theorem Bystander.activeMarked {s t : State} (h : Bystander s t) : ActiveMarked s t := fun tb n => .inl (entry_congr_banks h.banks tb _ n)

theorem MarksAtMostOne.activeMarked {s t : State} (h : MarksAtMostOne s t) (wf : s.storesCanonical) : ActiveMarked s t := by
  intro tb n
  obtain kept | ⟨tb', b, i, marked⟩ := h
  · exact .inl (entry_congr kept tb _ n)
  · rw [entry_congr marked, markCorrupt_entry wf]
    split
    · next same =>
      obtain ⟨rfl, rfl, rfl⟩ := same
      exact .inr rfl
    · exact .inl rfl

theorem activeMarked_writeEntry {s t : State} {b : Bank} {i : Nat} {e : EntryFields} (wf : s.storesCanonical)
    (standby : b = otherBank s.tables.active) (tables : t.tables = (s.writeEntry b i e).tables) : ActiveMarked s t := by
  intro tb n
  left
  rw [entry_congr tables]
  refine (entry_putEntry s wf b i e _ tb _ n).trans (if_neg ?_)
  rintro ⟨-, same, -⟩
  exact otherBank_ne _ (same.trans standby)

theorem activeMarked_writeRange {s t : State} {r : Payload} {tb' : Table} {first count : Nat} (wf : s.storesCanonical)
    (tables : t.tables = (s.writeRange (s.bankOf .standby) first count (carriedEntry r tb')).tables) : ActiveMarked s t := by
  intro tb n
  left
  rw [entry_congr tables]
  refine (entry_writeRange s wf _ first count tb' (carriedEntry r tb') (fun k => parseEntry_table tb' _) tb _ n).trans (if_neg ?_)
  rintro ⟨-, same, -⟩
  exact otherBank_ne _ same

theorem fillStep_activeMarked {s : State} (wf : s.storesCanonical) (lawful : s.standbyWriterLawful) : ActiveMarked s s.fillStep := by
  obtain idle | ⟨n, bank, e, first, last, written, running⟩ := fillStep_cases s
  · rw [idle]
    exact .of_tables rfl
  · rw [fillStep_running running]
    exact activeMarked_writeEntry wf ((standbyWriterLawful_iff s).1 lawful n _ bank running rfl).2 (stepOp_tables ..)

theorem copyStep_activeMarked {s : State} (wf : s.storesCanonical) (lawful : s.standbyWriterLawful) : ActiveMarked s s.copyStep := by
  obtain idle | ⟨n, source, dest, written, asInitial, running⟩ := copyStep_cases s
  · rw [idle]
    exact .of_tables rfl
  · rw [copyStep_at running]
    exact activeMarked_writeEntry wf ((standbyWriterLawful_iff s).1 lawful n _ dest running rfl).2 (stepOp_tables ..)

theorem serve_writeEntries_activeMarked {s : State} (wf : s.storesCanonical) : ActiveMarked s (s.serve .writeEntries answerWriteEntries) := by
  obtain same | ⟨r, -, served⟩ := serve_cases s .writeEntries answerWriteEntries
  · rw [same]
    exact .of_tables rfl
  · have tables : (s.serve .writeEntries answerWriteEntries).tables =
        (answerWriteEntries r.record { s with agent := { s.agent with queue := s.agent.queue.tail } }).2.tables := by
      rw [served, place_tables]
    obtain kept | ⟨tb, written⟩ := answerWriteEntries_cases r.record { s with agent := { s.agent with queue := s.agent.queue.tail } }
    · exact .of_tables (tables.trans ((congrArg State.tables kept).trans rfl))
    · exact activeMarked_writeRange (s := { s with agent := { s.agent with queue := s.agent.queue.tail } }) wf
        (tables.trans (congrArg State.tables written))

/-! ### Every command -/

theorem ActiveMarked.of_next {s t u : State} (h : (Host.Outcome.next u : Host.Outcome State Fault Refusal) = .next t) (k : ActiveMarked s u) :
    ActiveMarked s t := next_inj h ▸ k
theorem ActiveMarked.ite {s t : State} {c : Prop} [Decidable c] (h : ActiveMarked s t) : ActiveMarked s (if c then t else s) := by
  split
  · exact h
  · exact .of_tables rfl

theorem exec_activeMarked {i : Instr} {s t : State} (wf : s.storesCanonical) (lawful : s.standbyWriterLawful) (notRepair : i ≠ .repairEntry)
    (notDisturbance : ∀ b n e code, i ≠ .tableDisturbance b n e code) (writes : writesTablesOrRecord i = true) (h : exec i s = .next t) :
    ActiveMarked s t := by
  cases i with
  | admission => exact .of_next h (.ite ((admission_marksAtMostOne s).activeMarked wf))
  | scrubStep => exact .of_next h (.ite ((scrubVisit_marksAtMostOne s).activeMarked wf))
  | tableDisturbance b n e code => exact absurd rfl (notDisturbance b n e code)
  | fillStep => exact .of_next h (.ite (fillStep_activeMarked wf lawful))
  | copyStep => exact .of_next h (.ite (copyStep_activeMarked wf lawful))
  | digestStep => exact .of_next h (.ite (.of_tables (digestStep_tables s)))
  | memtestStep passes => exact .of_next h (.ite (.of_tables (memtestStep_tables s passes)))
  | writeEntries => exact .of_next h (serve_writeEntries_activeMarked wf)
  | repairEntry => exact absurd rfl notRepair
  | fillEntries => exact .of_next h (.of_tables (serve_tables s _ _ answerFillEntries_tables))
  | copyBank => exact .of_next h (.of_tables (serve_tables s _ _ answerCopyBank_tables))
  | digestBank => exact .of_next h (.of_tables (serve_tables s _ _ answerDigestBank_tables))
  | startMemoryTest => exact .of_next h (.of_tables (serve_tables s _ _ answerStartMemoryTest_tables))
  | scheduleSwap => exact .of_next h (.of_tables (serve_tables s _ _ answerScheduleSwap_tables))
  | datapathReset => exact .of_next h (.of_tables (serve_tables s _ _ answerDatapathReset_tables))
  | _ => cases writes

/-- Settles O20: a command that writes no table changes no stored entry (`Bystander`); the others mark one or write the standby bank. -/
theorem activeBankChangesOnlyByMarking : Obligations.ActiveBankChangesOnlyByMarking := by
  intro i s t tb n wf lawful notReset notRepair notDisturbance h
  cases writes : writesTablesOrRecord i with
  | true => exact exec_activeMarked wf lawful notRepair notDisturbance writes h tb n
  | false => exact (exec_linkStep notReset writes h).bystander.activeMarked tb n

end Sys2Proof.ForwardingTables
end

section
/-! PROOFS. The operation record stays lawful, and a Fill or a Copy writes the standby bank while no swap is pending (R34, R126, R130, R157 to
R168). -/

namespace Sys2Proof.ForwardingTables

open Sys2Proof.Machine Sys2Proof.Laws

/-! ### What keeps both laws -/

/-- From `s` to `t` the law of the operation record is kept, and so is the one of the standby writer. -/
structure OperationsKept (s t : State) : Prop where
  record : s.opLawful → t.opLawful
  writer : s.standbyWriterLawful → t.standbyWriterLawful

theorem OperationsKept.trans {s t u : State} (h : OperationsKept s t) (k : OperationsKept t u) : OperationsKept s u :=
  ⟨fun lawful => k.record (h.record lawful), fun lawful => k.writer (h.writer lawful)⟩

theorem opLawful_of_op {s t : State} (op : t.op = s.op) (h : s.opLawful) : t.opLawful := by
  unfold State.opLawful
  rw [op]
  exact h

/-- A swap that was pending means that no Fill or Copy ran, so its end disturbs none (R126, R129). -/
theorem RolesKept.operationsKept {s t : State} (h : RolesKept s t) : OperationsKept s t := by
  refine ⟨opLawful_of_op h.op, fun lawful => ?_⟩
  rw [standbyWriterLawful_iff] at lawful ⊢
  intro n w b running written
  rw [h.op] at running
  obtain ⟨settled, standby⟩ := lawful n w b running written
  obtain ⟨pending, active⟩ | ⟨was, -⟩ := h.roles
  · exact ⟨pending.trans settled, standby.trans (congrArg otherBank active.symm)⟩
  · exact absurd settled (by simp [was])

theorem OperationsKept.refl (s : State) : OperationsKept s s := ⟨id, id⟩
theorem OperationsKept.of_eq {s t : State} (op : t.op = s.op) (epoch : t.epoch = s.epoch) (active : t.tables.active = s.tables.active) :
    OperationsKept s t := (RolesKept.of_eq op epoch active).operationsKept

theorem opLawful_some {s : State} {st : OpState} {n : Nat} {w : Work} (h : s.op = some ⟨st, n, w⟩) : s.opLawful ↔ w.lawful st n := by
  unfold State.opLawful
  rw [h]
  exact ⟨fun lawful => lawful _ rfl, fun lawful r same => Option.some.inj same ▸ lawful⟩

/-- The running operation goes on, ends or is aborted: its work keeps its law and its bank. -/
theorem OperationsKept.of_progress {s t : State} {n m : Nat} {w w' : Work} {st : OpState} (before : s.op = some ⟨.running, n, w⟩)
    (after : t.op = some ⟨st, m, w'⟩) (epoch : t.epoch = s.epoch) (active : t.tables.active = s.tables.active)
    (lawful : w.lawful .running n → w'.lawful st m) (written : writtenBank w' = writtenBank w) : OperationsKept s t := by
  refine ⟨fun h => (opLawful_some after).2 (lawful ((opLawful_some before).1 h)), fun h => ?_⟩
  rw [standbyWriterLawful_iff] at h ⊢
  intro k v b running bank
  rw [after] at running
  cases running
  rw [epoch, active]
  exact h n w b before (written ▸ bank)

/-- An operation starts: whatever the record was, the new one is lawful and writes no bank but the standby one (R150). -/
theorem OperationsKept.of_start {s t : State} {n : Nat} {w : Work} (after : t.op = some ⟨.running, n, w⟩) (lawful : w.lawful .running n)
    (written : ∀ b, writtenBank w = some b → t.epoch.swapPending = false ∧ b = otherBank t.tables.active) : OperationsKept s t := by
  refine ⟨fun _ => (opLawful_some after).2 lawful, fun _ => ?_⟩
  rw [standbyWriterLawful_iff]
  intro k v b running bank
  rw [after] at running
  cases running
  exact written b bank

theorem OperationsKept.of_idle {s t : State} (h : t.op = none) : OperationsKept s t := by
  refine ⟨fun _ r same => ?_, fun _ => ?_⟩
  · rw [h] at same
    cases same
  · rw [standbyWriterLawful_iff, h]
    intro n w b running
    cases running

/-! ### The laws of the work -/

/-- The state of the record after a step (R158, R159). -/
def stateAfter (goesOn : Bool) : OpState := if goesOn = true then .running else .done

theorem fill_lawful_step {b : Bank} {e : EntryFields} {first last written n : Nat} (h : (Work.fill b e first last written).lawful .running n) :
    (Work.fill b e first last (written + 1)).lawful (stateAfter (decide (n < last))) (n + 1) := by
  obtain ⟨low, -, inside, count, runs, -⟩ := h
  have high := runs rfl
  unfold stateAfter
  by_cases more : n < last
  · simp only [Work.lawful, more, decide_true, if_true]
    exact ⟨by omega, by omega, inside, by omega, fun _ => more, nofun⟩
  · simp only [Work.lawful, more, decide_false, Bool.false_eq_true, if_false]
    exact ⟨by omega, by omega, inside, by omega, nofun, fun _ => by omega⟩

theorem copy_lawful_step {source dest : Bank} {written asInitial n : Nat} (c : Prop) [Decidable c]
    (h : (Work.copy source dest written asInitial).lawful .running n) :
    (Work.copy source dest (written + 1) (if c then asInitial + 1 else asInitial)).lawful (stateAfter (decide (n + 1 < 4128))) (n + 1) := by
  obtain ⟨-, count, few, other, runs, -⟩ := h
  have high := runs rfl
  have counted : (if c then asInitial + 1 else asInitial) ≤ written + 1 := by split <;> omega
  unfold stateAfter
  by_cases more : n + 1 < 4128
  · simp only [Work.lawful, more, decide_true, if_true]
    exact ⟨by omega, by omega, counted, other, fun _ => trivial, nofun⟩
  · simp only [Work.lawful, more, decide_false, Bool.false_eq_true, if_false]
    exact ⟨by omega, by omega, counted, other, nofun, fun _ => by omega⟩

theorem digest_lawful_step {tb : Table} {b : Bank} {role : Role} {digested n : Nat} {register register' result : BitVec 32}
    {value : Option (BitVec 32)} (h : (Work.digest tb b role digested register value).lawful .running n) :
    (Work.digest tb b role (digested + 1) register' (if n + 1 < tb.size then none else some result)).lawful
      (stateAfter (decide (n + 1 < tb.size))) (n + 1) := by
  obtain ⟨-, count, runs, -⟩ := h
  have high := runs rfl
  unfold stateAfter
  by_cases more : n + 1 < tb.size
  · simp only [Work.lawful, more, decide_true, if_true]
    exact ⟨by omega, by omega, fun _ => trivial, nofun, by simp⟩
  · simp only [Work.lawful, more, decide_false, Bool.false_eq_true, if_false]
    exact ⟨by omega, by omega, nofun, fun _ => by omega, by simp⟩

theorem memtest_lawful_step {tested failed n : Nat} {first retired : Option Nat} (passes : Bool) (count : Nat)
    (h : (Work.memtest tested failed first retired).lawful .running n) :
    (Work.memtest (tested + 1) (if passes = true then failed else failed + 1) (if passes = true then first else some (first.getD n))
      (if n + 1 < 16384 then none else some count)).lawful (stateAfter (decide (n + 1 < 16384))) (n + 1) := by
  obtain ⟨-, total, few, named, handles, runs, -, -⟩ := h
  have high := runs rfl
  have counted : (if passes = true then failed else failed + 1) ≤ tested + 1 := by split <;> omega
  have named' : (if passes = true then first else some (first.getD n)).isSome = true ↔ 1 ≤ (if passes = true then failed else failed + 1) := by
    cases passes with
    | true => exact named
    | false => simp
  have handles' : ∀ k ∈ (if passes = true then first else some (first.getD n)), k < 16384 := by
    cases passes with
    | true => exact handles
    | false =>
      rintro k ⟨⟩
      cases first with
      | none => exact high
      | some k => exact handles k rfl
  unfold stateAfter
  by_cases more : n + 1 < 16384
  · simp only [Work.lawful, more, decide_true, if_true]
    exact ⟨by omega, by omega, counted, named', handles', fun _ => trivial, nofun, by simp⟩
  · simp only [Work.lawful, more, decide_false, Bool.false_eq_true, if_false]
    exact ⟨by omega, by omega, counted, named', handles', nofun, fun _ => by omega, by simp⟩

/-- R168: the law of an aborted operation. -/
theorem lawful_aborted {w : Work} {n : Nat} (h : w.lawful .running n)
    (notMemtest : ∀ tested failed first retired, w ≠ .memtest tested failed first retired) :
    w.lawful .aborted n := by
  cases w with
  | fill b e first last written =>
    obtain ⟨low, high, inside, count, -, -⟩ := h
    exact ⟨low, high, inside, count, nofun, nofun⟩
  | copy source dest written asInitial =>
    obtain ⟨high, count, few, other, -, -⟩ := h
    exact ⟨high, count, few, other, nofun, nofun⟩
  | digest tb b role digested register value =>
    obtain ⟨high, count, -, -, result⟩ := h
    refine ⟨high, count, nofun, nofun, fun some => ?_, nofun⟩
    cases result.1 some
  | memtest tested failed first retired => exact absurd rfl (notMemtest tested failed first retired)

theorem memtest_lawful_aborted {tested failed n : Nat} {first retired : Option Nat} (count : Nat)
    (h : (Work.memtest tested failed first retired).lawful .running n) : (Work.memtest tested failed first (some count)).lawful .aborted n := by
  obtain ⟨high, total, few, named, handles, -⟩ := h
  exact ⟨high, total, few, named, handles, nofun, nofun, by simp⟩

/-! ### Steps and the abort -/

/-- A step after an update that leaves the epoch items and the roles alone. -/
theorem stepOp_operationsKept {s u : State} {n : Nat} {w w' : Work} {goesOn : Bool} (before : s.op = some ⟨.running, n, w⟩)
    (epoch : u.epoch = s.epoch) (active : u.tables.active = s.tables.active)
    (lawful : w.lawful .running n → w'.lawful (stateAfter goesOn) (n + 1)) (written : writtenBank w' = writtenBank w) :
    OperationsKept s (stepOp u goesOn (n + 1) w') :=
  .of_progress before (stepOp_op u goesOn (n + 1) w') ((stepOp_epoch ..).trans epoch)
    ((congrArg Tables.active (stepOp_tables ..)).trans active) lawful written

theorem fillStep_operationsKept (s : State) : OperationsKept s s.fillStep := by
  obtain idle | ⟨n, bank, e, first, last, written, running⟩ := fillStep_cases s
  · rw [idle]
    exact .refl s
  · rw [fillStep_running running]
    exact stepOp_operationsKept running (writeEntry_epoch ..) (putEntry_active ..) fill_lawful_step rfl

theorem copyStep_operationsKept (s : State) : OperationsKept s s.copyStep := by
  obtain idle | ⟨n, source, dest, written, asInitial, running⟩ := copyStep_cases s
  · rw [idle]
    exact .refl s
  · rw [copyStep_at running]
    exact stepOp_operationsKept running (writeEntry_epoch ..) (putEntry_active ..) (copy_lawful_step _) rfl

/-- A Digest step does nothing unless a Digest runs. -/
theorem digestStep_cases (s : State) :
    s.digestStep = s ∨ ∃ n tb b role digested register value, s.op = some ⟨.running, n, .digest tb b role digested register value⟩ := by
  unfold State.digestStep
  split
  · next running => exact .inr ⟨_, _, _, _, _, _, _, running⟩
  · exact .inl rfl

theorem digestStep_operationsKept (s : State) : OperationsKept s s.digestStep := by
  obtain idle | ⟨n, tb, b, role, digested, register, value, running⟩ := digestStep_cases s
  · rw [idle]
    exact .refl s
  · rw [digestStep_running running]
    exact stepOp_operationsKept running rfl rfl digest_lawful_step rfl

/-- A memory test step does nothing unless a memory test runs. -/
theorem memtestStep_cases (s : State) (passes : Bool) :
    s.memtestStep passes = s ∨ ∃ n tested failed first retired, s.op = some ⟨.running, n, .memtest tested failed first retired⟩ := by
  unfold State.memtestStep
  split
  · next running => exact .inr ⟨_, _, _, _, _, running⟩
  · exact .inl rfl

/-- R166, R167: the record after a memory test step. -/
theorem memtestStep_op {s : State} {n tested failed : Nat} {first retired : Option Nat} (passes : Bool)
    (h : s.op = some ⟨.running, n, .memtest tested failed first retired⟩) :
    (s.memtestStep passes).op = some ⟨stateAfter (decide (n + 1 < 16384)), n + 1, .memtest (tested + 1)
      (if passes = true then failed else failed + 1) (if passes = true then first else some (first.getD n))
      (if n + 1 < 16384 then none else some (s.pool.verdict n passes).retired.length)⟩ := by
  unfold State.memtestStep stateAfter
  rw [h]
  by_cases more : n + 1 < 16384
  · rw [if_pos (decide_eq_true more), if_pos more]
    exact congrArg State.op (if_pos more)
  · rw [if_neg (by simp [more]), if_neg more]
    exact (congrArg State.op (if_neg more)).trans (raise_op ..)

theorem memtestStep_operationsKept (s : State) (passes : Bool) : OperationsKept s (s.memtestStep passes) := by
  obtain idle | ⟨n, tested, failed, first, retired, running⟩ := memtestStep_cases s passes
  · rw [idle]
    exact .refl s
  · exact .of_progress running (memtestStep_op passes running) (memtestStep_epoch s passes) (congrArg Tables.active (memtestStep_tables s passes))
      (memtest_lawful_step passes _) rfl

theorem abortOp_operationsKept (s : State) : OperationsKept s s.abortOp := by
  unfold State.abortOp
  split
  · next running =>
    exact .of_progress running (raise_op ..) (raise_epoch ..) (congrArg Tables.active (raise_tables ..)) (memtest_lawful_aborted _) rfl
  · next notMemtest running =>
    refine .of_progress running (raise_op ..) (raise_epoch ..) (congrArg Tables.active (raise_tables ..)) (fun lawful => ?_) rfl
    exact lawful_aborted lawful notMemtest
  · exact .refl s

theorem resetDatapath_operationsKept (s : State) : OperationsKept s s.resetDatapath :=
  (abortOp_operationsKept s).trans (.of_eq (by simp [State.resetDatapath]) (by simp) (by simp))

/-! ### Requests -/

theorem serve_operationsKept (s : State) (row : RequestRow) (execute : Payload → State → Answer × State)
    (h : ∀ r u, OperationsKept u (execute r u).2) : OperationsKept s (s.serve row execute) := by
  obtain same | ⟨r, -, served⟩ := serve_cases s row execute
  · rw [same]
    exact .refl s
  · have dequeued : OperationsKept s { s with agent := { s.agent with queue := s.agent.queue.tail } } := .of_eq rfl rfl rfl
    rw [served]
    exact (dequeued.trans (h r.record _)).trans (.of_eq (place_op ..) (place_epoch ..) (congrArg Tables.active (place_tables ..)))

theorem answerWriteEntries_operationsKept (r : Payload) (s : State) : OperationsKept s (answerWriteEntries r s).2 := by
  obtain same | ⟨tb, written⟩ := answerWriteEntries_cases r s
  · rw [same]
    exact .refl s
  · rw [written]
    exact .of_eq (writeRange_op ..) (writeRange_epoch ..) (writeRange_roles ..).1

theorem answerRepairEntry_operationsKept (r : Payload) (s : State) : OperationsKept s (answerRepairEntry r s).2 := by
  refine .of_eq (answerRepairEntry_op r s) (answerRepairEntry_epoch r s) ?_
  unfold answerRepairEntry
  split
  · rfl
  · dsimp only
    split
    · rfl
    · split
      · rfl
      · split
        · rfl
        · exact (repair_banks ..).1

theorem answerFillEntries_operationsKept (r : Payload) (s : State) : OperationsKept s (answerFillEntries r s).2 := by
  unfold answerFillEntries
  split
  · exact .refl s
  · next tb _ =>
    dsimp only
    split
    · exact .refl s
    · next valid =>
      split
      · exact .refl s
      · next settled =>
        split
        · exact .refl s
        · rw [Bool.not_eq_true] at settled
          have range : (recWord r 6).toNat ≤ (recWord r 8).toNat ∧ (recWord r 8).toNat < tb.size := by omega
          have table : (carriedEntry r tb 0).table = tb := parseEntry_table tb _
          refine .of_start rfl ⟨le_rfl, by omega, table.symm ▸ range.2, by omega, fun _ => range.1, nofun⟩ ?_
          rintro b ⟨⟩
          exact ⟨settled, rfl⟩

theorem answerCopyBank_operationsKept (r : Payload) (s : State) : OperationsKept s (answerCopyBank r s).2 := by
  unfold answerCopyBank
  split
  · exact .refl s
  · next settled =>
    split
    · exact .refl s
    · rw [Bool.not_eq_true] at settled
      refine .of_start rfl ⟨by omega, rfl, le_rfl, rfl, fun _ => by omega, nofun⟩ ?_
      rintro b ⟨⟩
      exact ⟨settled, rfl⟩

theorem answerDigestBank_operationsKept (r : Payload) (s : State) : OperationsKept s (answerDigestBank r s).2 := by
  unfold answerDigestBank
  split
  · next tb role _ _ =>
    split
    · exact .refl s
    · have entries : 0 < tb.size := by cases tb <;> decide
      exact .of_start rfl ⟨Nat.zero_le _, rfl, fun _ => entries, nofun, by simp⟩ nofun
  · exact .refl s

theorem answerStartMemoryTest_operationsKept (r : Payload) (s : State) : OperationsKept s (answerStartMemoryTest r s).2 := by
  unfold answerStartMemoryTest
  split
  · exact .refl s
  · split
    · exact .refl s
    · exact .of_start rfl ⟨by omega, rfl, le_rfl, by simp, nofun, fun _ => by omega, nofun, by simp⟩ nofun

/-- A swap becomes pending only while no Fill or Copy runs (R126). -/
theorem answerScheduleSwap_operationsKept (r : Payload) (s : State) : OperationsKept s (answerScheduleSwap r s).2 := by
  unfold answerScheduleSwap
  dsimp only
  split
  · exact .refl s
  · split
    · exact .refl s
    · next idle =>
      split
      · exact .refl s
      · exact ⟨id, fun _ running => absurd running idle⟩

/-! ### Every command -/

theorem OperationsKept.of_next {s t u : State} (h : (Host.Outcome.next u : Host.Outcome State Fault Refusal) = .next t) (k : OperationsKept s u) :
    OperationsKept s t := next_inj h ▸ k
theorem OperationsKept.ite {s t : State} {c : Prop} [Decidable c] (h : OperationsKept s t) : OperationsKept s (if c then t else s) := by
  split
  · exact h
  · exact .refl s

theorem exec_writes_operationsKept {i : Instr} {s t : State} (writes : writesTablesOrRecord i = true) (h : exec i s = .next t) :
    OperationsKept s t := by
  cases i with
  | admission => exact .of_next h (.ite (.of_eq (admission_op s) (admission_epoch s) (admission_marksAtMostOne s).active))
  | scrubStep => exact .of_next h (.ite (.of_eq (scrubVisit_op s) (scrubVisit_epoch s) (scrubVisit_marksAtMostOne s).active))
  | tableDisturbance b n e code => exact .of_next h (.ite (.of_eq (putEntry_op ..) (putEntry_epoch ..) (putEntry_active ..)))
  | fillStep => exact .of_next h (.ite (fillStep_operationsKept s))
  | copyStep => exact .of_next h (.ite (copyStep_operationsKept s))
  | digestStep => exact .of_next h (.ite (digestStep_operationsKept s))
  | memtestStep passes => exact .of_next h (.ite (memtestStep_operationsKept s passes))
  | writeEntries => exact .of_next h (serve_operationsKept s _ _ answerWriteEntries_operationsKept)
  | repairEntry => exact .of_next h (serve_operationsKept s _ _ answerRepairEntry_operationsKept)
  | fillEntries => exact .of_next h (serve_operationsKept s _ _ answerFillEntries_operationsKept)
  | copyBank => exact .of_next h (serve_operationsKept s _ _ answerCopyBank_operationsKept)
  | digestBank => exact .of_next h (serve_operationsKept s _ _ answerDigestBank_operationsKept)
  | startMemoryTest => exact .of_next h (serve_operationsKept s _ _ answerStartMemoryTest_operationsKept)
  | scheduleSwap => exact .of_next h (serve_operationsKept s _ _ answerScheduleSwap_operationsKept)
  | datapathReset => exact .of_next h (serve_operationsKept s _ _ fun _ u => resetDatapath_operationsKept u)
  | _ => cases writes

theorem exec_operationsKept {i : Instr} {s t : State} (h : exec i s = .next t) : OperationsKept s t := by
  cases reset : i.isReset with
  | true =>
    cases i with
    | rstNRise plane mgp mgs =>
      refine .of_next h ?_
      split
      · exact .refl s
      · exact .of_idle rfl
    | rstNFall => exact .of_next h (.ite (.of_idle rfl))
    | _ => cases reset
  | false =>
    cases writes : writesTablesOrRecord i with
    | true => exact exec_writes_operationsKept writes h
    | false => exact (exec_linkStep reset writes h).bystander.toRolesKept.operationsKept

theorem step_operationsKept {s t : State} (h : step s = .next t) : OperationsKept s t := by
  unfold step at h
  split at h
  · exact .of_next h (.refl s)
  · next c rest _ =>
    have popped : OperationsKept s { s with pending := rest } := .of_eq rfl rfl rfl
    exact popped.trans (exec_operationsKept h)

/-- Settles O13: both laws are kept by every command, the second by what R126 refuses and by the end of a pending swap. -/
theorem operationsStayLawful : Obligations.OperationsStayLawful :=
  ⟨fun _ _ lawful h => (step_operationsKept h).record lawful, fun _ _ ⟨_, writer⟩ h => (step_operationsKept h).writer writer⟩

end Sys2Proof.ForwardingTables
end

section
/-! PROOFS. The family of admission and replication: unicast cells without a route or a reachable link, and the member walk of a multicast cell
(R47, R50, R57 to R59). -/

namespace Sys2Proof.Replication

open Sys2Proof.Machine Sys2Proof.Laws Sys2Proof.ForwardingTables

/-! ### Unicast cells (R47, R50) -/

theorem unicast_beyondMap {s : State} {l : Link} {cell : Cell} (beyond : 32 ≤ cellDest cell) :
    s.unicast l cell = s.countLink l fun k => { k with noRoute := min (k.noRoute + 1) 4294967295 } := dif_neg (Nat.not_lt.2 beyond)

theorem admitUnicast_unreachable {s : State} {l k : Link} {cell : Cell} (closed : s.accepting k = false) :
    s.admitUnicast l cell k = s.countLink l fun n => { n with unreachable := min (n.unreachable + 1) 4294967295 } := if_pos closed

/-- R49: a link is closed to new entries in TRAINING and in FAULTED. -/
theorem accepting_eq_false_iff (s : State) (l : Link) : s.accepting l = false ↔ (s.link l).state = .training ∨ (s.link l).state = .faulted := by
  unfold State.accepting
  cases (s.link l).state <;> simp

/-- R49: taking a cell out of a receive buffer opens or closes no link. -/
theorem taking_accepting (s : State) (l : Link) (rest : List Cell) (k : Link) : (s.taking l rest).accepting k = s.accepting k := by
  have kept : ((s.taking l rest).link k).state = (s.link k).state :=
    LinkPorts.modLink_statesKept s l (fun p => { p with rxBuf := rest }) (fun _ => rfl) k
  unfold State.accepting
  rw [kept]

/-- Settles O30: the bound of the map is the first test of the unicast path. -/
theorem unicastBeyondMapIsNoRoute : Obligations.UnicastBeyondMapIsNoRoute := by
  intro l cell rest s hr serves idle kind beyond
  rw [exec_admission hr serves, admitCell_unicast (s := s.taking l rest) idle kind, unicast_beyondMap beyond]

/-- Settles O32: with the route found, the state of its link is the first test. -/
theorem unicastUnreachable : Obligations.UnicastUnreachable := by
  intro l d k cell rest s hr serves idle kind dest good active route state
  have routed : (s.taking l rest).routeLink d = (k, s.taking l rest) := routeLink_congr route rfl
  have closed : (s.taking l rest).accepting k = false := (taking_accepting s l rest k).trans ((accepting_eq_false_iff s k).2 state)
  rw [exec_admission hr serves, admitCell_unicast (s := s.taking l rest) idle kind,
    unicast_routed (s := s.taking l rest) dest good active routed, admitUnicast_unreachable closed]

/-! ### The decisions of the walk (R58) -/

/-- R58: the tests by which a member that is not suppressed gets a decision. -/
def decidedBy (s : State) (k : Sys2Proof.Class) (m : Link) : Decision → Bool
  | .suppressed => false
  | .unreachable => !s.accepting m
  | .tailDrop => s.accepting m && !s.limitPasses m k
  | .admitted => s.accepting m && s.limitPasses m k

theorem decideMember_eq_iff (s : State) (l : Link) (suppress : Bool) (k : Sys2Proof.Class) (m : Link) {d : Decision} (h : d ≠ .suppressed) :
    s.decideMember l suppress k m = d ↔ ¬ (suppress = true ∧ m = l) ∧ decidedBy s k m d = true := by
  unfold State.decideMember
  by_cases own : suppress = true ∧ m = l
  · simp [own, h.symm]
  · rw [if_neg own]
    cases opened : s.accepting m with
    | false => cases d <;> simp [decidedBy, own, opened]
    | true =>
      cases room : s.limitPasses m k with
      | false => cases d <;> simp [decidedBy, own, opened, room]
      | true => cases d <;> simp [decidedBy, own, opened, room]

/-- R24, R58: the members of a group that are not suppressed, in ascending link order. -/
def walked (l : Link) (g : GroupFields) : List Link :=
  (List.finRange 32).filter fun m => LinkSet.has g.members m && !(g.sourceSuppress && decide (m = l))

theorem walked_nodup (l : Link) (g : GroupFields) : (walked l g).Nodup := (List.nodup_finRange 32).filter _

/-- The members with a decision are the unsuppressed ones that pass the tests the decision stands for. -/
theorem filter_decided (s : State) (l : Link) (g : GroupFields) (k : Sys2Proof.Class) {d : Decision} (h : d ≠ .suppressed) :
    (LinkSet.members g.members).filter (fun m => decide (s.decideMember l g.sourceSuppress k m = d)) =
      (walked l g).filter fun m => decidedBy s k m d := by
  unfold LinkSet.members walked
  rw [List.filter_filter, List.filter_filter]
  refine List.filter_congr fun m _ => ?_
  rw [Bool.eq_iff_iff]
  simp only [decideMember_eq_iff s l g.sourceSuppress k m h, Bool.and_eq_true, decide_eq_true_eq, Bool.not_eq_true', ← Bool.not_eq_true]
  tauto

/-! ### What the walk counts (R58, R59) -/

/-- A queue with one more tail drop counted (R52). -/
def tailDropped (out : OutQueue) : OutQueue :=
  { out with counters := { out.counters with tailDrops := min (out.counters.tailDrops + 1) 4294967295 } }

theorem queue_countTailDrop (s : State) (m : Link) (k : Sys2Proof.Class) (q : QueueId) :
    (s.countTailDrop m k).queue q = if queueLink q = m ∧ queueClass q = k then tailDropped (s.queue q) else s.queue q := by
  have named : queueId m k = q ↔ queueLink q = m ∧ queueClass q = k :=
    ⟨fun e => e ▸ ⟨queueLink_queueId m k, queueClass_queueId m k⟩, fun ⟨link, cls⟩ => link ▸ cls ▸ queueId_link_class q⟩
  unfold State.countTailDrop
  simp only [queue_countQueue, named]
  rfl

/-- One tail drop is counted on the queue of the class on each of several links, and none on any other queue. -/
theorem foldl_countTailDrop_queue (k : Sys2Proof.Class) (members : List Link) (nd : members.Nodup) (s : State) (q : QueueId) :
    (members.foldl (fun acc m => acc.countTailDrop m k) s).queue q =
      if queueLink q ∈ members ∧ queueClass q = k then tailDropped (s.queue q) else s.queue q := by
  induction members generalizing s with
  | nil => simp
  | cons m ms ih =>
    obtain ⟨fresh, nd⟩ := List.nodup_cons.1 nd
    rw [List.foldl_cons, ih nd, queue_countTailDrop]
    by_cases first : queueLink q = m
    · simp [first, fresh]
    · simp [first]

theorem foldl_countTailDrop_eq (k : Sys2Proof.Class) (members : List Link) (s : State) :
    members.foldl (fun acc m => acc.countTailDrop m k) s =
      { s with queues := (members.foldl (fun acc m => acc.countTailDrop m k) s).queues } := by
  induction members generalizing s with
  | nil => rfl
  | cons m ms ih => exact ih (s.countTailDrop m k)

/-- R58, R59: the members admitted. -/
def admittedMembers (s : State) (l : Link) (g : GroupFields) (k : Sys2Proof.Class) : List Link :=
  (walked l g).filter fun m => s.accepting m && s.limitPasses m k

/-- R58: the state with the unreachable members and the tail drops counted. -/
def lossesCounted (s : State) (l : Link) (g : GroupFields) (k : Sys2Proof.Class) : State :=
  ((walked l g).filter fun m => s.accepting m && !s.limitPasses m k).foldl (fun acc m => acc.countTailDrop m k)
    (s.countLink l fun n => { n with unreachable := min (n.unreachable + (walked l g).countP fun m => !s.accepting m) 4294967295 })

/-- R58, R59: the state with everything counted that the walk counts. -/
def walkCounted (s : State) (l : Link) (g : GroupFields) (k : Sys2Proof.Class) : State :=
  if admittedMembers s l g k = [] then
    (lossesCounted s l g k).countLink l fun n => { n with noCopies := min (n.noCopies + 1) 4294967295 }
  else lossesCounted s l g k

theorem walkMembers_eq (s : State) (l : Link) (cell : Cell) (g : GroupFields) (k : Sys2Proof.Class) : s.walkMembers l cell g k =
    if admittedMembers s l g k = [] then walkCounted s l g k
    else (walkCounted s l g k).storeCell cell k (admittedMembers s l g k) := by
  unfold State.walkMembers
  simp only [filter_decided s l g k (d := .unreachable) (by decide), filter_decided s l g k (d := .tailDrop) (by decide),
    filter_decided s l g k (d := .admitted) (by decide), ← List.countP_eq_length_filter]
  by_cases nobody : admittedMembers s l g k = []
  · rw [walkCounted, if_pos nobody, if_pos nobody]
    exact if_pos nobody
  · rw [walkCounted, if_neg nobody, if_neg nobody]
    exact if_neg nobody

theorem lossesCounted_link (s : State) (l : Link) (g : GroupFields) (k : Sys2Proof.Class) (j : Link) :
    (lossesCounted s l g k).link j = (s.countLink l fun n =>
      { n with unreachable := min (n.unreachable + (walked l g).countP fun m => !s.accepting m) 4294967295 }).link j :=
  link_congr (foldl_countTailDrop_links ..) j

/-- R58, R59: on the ingress link the walk counts the unreachable members and, with none admitted, the cell; on no other link anything. -/
theorem walkCounted_link (s : State) (l : Link) (g : GroupFields) (k : Sys2Proof.Class) (j : Link) :
    (walkCounted s l g k).link j = if j = l then
      { s.link l with counters := { (s.link l).counters with
          unreachable := min ((s.link l).counters.unreachable + (walked l g).countP fun m => !s.accepting m) 4294967295,
          noCopies := if admittedMembers s l g k = [] then min ((s.link l).counters.noCopies + 1) 4294967295 else (s.link l).counters.noCopies } }
      else s.link j := by
  unfold walkCounted
  by_cases ingress : j = l
  · subst ingress
    split <;> simp [*, link_countLink, lossesCounted_link]
  · have other : l ≠ j := Ne.symm ingress
    split <;> simp [other, link_countLink, lossesCounted_link]

/-- R52, R58: a tail drop is counted on the queue of each accepting member whose queue is at its limit, and on no other queue. -/
theorem walkCounted_queue (s : State) (l : Link) (g : GroupFields) (k : Sys2Proof.Class) (q : QueueId) :
    (walkCounted s l g k).queue q =
      if queueClass q = k ∧ queueLink q ∈ walked l g ∧ s.accepting (queueLink q) = true ∧ s.limitPasses (queueLink q) k = false then
        tailDropped (s.queue q)
      else s.queue q := by
  have losses : (walkCounted s l g k).queue q = (lossesCounted s l g k).queue q := by
    unfold walkCounted
    split
    · exact countLink_queue ..
    · rfl
  have member : (queueLink q ∈ (walked l g).filter (fun m => s.accepting m && !s.limitPasses m k) ∧ queueClass q = k) ↔
      (queueClass q = k ∧ queueLink q ∈ walked l g ∧ s.accepting (queueLink q) = true ∧ s.limitPasses (queueLink q) k = false) := by
    simp only [List.mem_filter, Bool.and_eq_true, Bool.not_eq_true']
    exact and_comm
  rw [losses, lossesCounted, foldl_countTailDrop_queue k _ ((walked_nodup l g).filter _), countLink_queue]
  simp only [member]

theorem lossesCounted_eq (s : State) (l : Link) (g : GroupFields) (k : Sys2Proof.Class) :
    lossesCounted s l g k = { s with links := (lossesCounted s l g k).links, queues := (lossesCounted s l g k).queues } := by
  have tails := foldl_countTailDrop_eq k ((walked l g).filter fun m => s.accepting m && !s.limitPasses m k)
    (s.countLink l fun n => { n with unreachable := min (n.unreachable + (walked l g).countP fun m => !s.accepting m) 4294967295 })
  have links : (lossesCounted s l g k).links = _ := foldl_countTailDrop_links ..
  rw [links]
  exact tails

/-- The walk counts on links and queues and changes nothing else. -/
theorem walkCounted_eq (s : State) (l : Link) (g : GroupFields) (k : Sys2Proof.Class) :
    walkCounted s l g k = { s with links := (walkCounted s l g k).links, queues := (walkCounted s l g k).queues } := by
  unfold walkCounted
  split
  · exact congrArg (fun v : State => v.countLink l fun n => { n with noCopies := min (n.noCopies + 1) 4294967295 }) (lossesCounted_eq s l g k)
  · exact lossesCounted_eq s l g k

/-! ### Multicast cells (R57 to R59) -/

/-- R57: the copy class is the override where there is one, and the class of the cell otherwise. -/
theorem copyClass_eq {g : GroupFields} {cell : Cell} {k : Sys2Proof.Class}
    (h : match g.classOverride with | some v => v.toNat = k.val | none => k = cellClass cell) : copyClass g cell = k := by
  unfold copyClass
  cases override : g.classOverride with
  | none =>
    rw [override] at h
    exact h.symm
  | some v =>
    rw [override] at h
    have value : v.toNat = k.val := h
    refine Fin.ext ?_
    change v.toNat % 4 = k.val
    rw [value, Nat.mod_eq_of_lt k.isLt]

/-- R56: a good VALID group takes the cell to the floor test and, where that passes, to the walk. -/
theorem multicast_valid {s : State} {l : Link} {cell : Cell} {g : GroupFields} {k : Sys2Proof.Class}
    (group : (s.entry .group s.tables.active (cellDest cell)).fields = .group g)
    (good : goodEntry (s.entry .group s.tables.active (cellDest cell))) (valid : g.state = 1) (cls : copyClass g cell = k) :
    s.multicast l cell = if s.floorPasses k = false then s.countLink l fun n => { n with floorDrops := min (n.floorDrops + 1) 4294967295 }
      else s.walkMembers l cell g k := by
  obtain rfl : s.activeGroup (cellDest cell) = g := EntryFields.group.inj group
  subst cls
  unfold State.multicast
  dsimp only
  rw [verify_good good]
  exact if_pos ⟨rfl, valid⟩

/-- R59, R65: with some member admitted, the cell is stored for the members admitted, on top of what the walk counts. -/
theorem walk_stores {s : State} (cell : Cell) {l : Link} {g : GroupFields} {k : Sys2Proof.Class} {h : Handle} {free : List Handle}
    (wf : s.storesCanonical) (list : s.pool.free = h :: free) :
    (walkCounted s l g k).stores cell k (admittedMembers s l g k) h free
        ((walkCounted s l g k).storeCell cell k (admittedMembers s l g k)) ∧
      (∀ j, (((walkCounted s l g k).storeCell cell k (admittedMembers s l g k)).link j).sameButPending ((walkCounted s l g k).link j)) ∧
      s.recordsKept ((walkCounted s l g k).storeCell cell k (admittedMembers s l g k)) := by
  have frame := walkCounted_eq s l g k
  have list' : (walkCounted s l g k).pool.free = h :: free := by rw [frame]; exact list
  have wf' : (walkCounted s l g k).storesCanonical := by rw [frame]; exact wf
  obtain ⟨miss, lastCorrupt⟩ := storeCell_records (cell := cell) (k := k) (members := admittedMembers s l g k) list'
  have attn : (walkCounted s l g k).attn = s.attn := by rw [frame]
  rw [attn] at miss lastCorrupt
  exact ⟨storeCell_stores wf' ((walked_nodup l g).filter _) list', storeCell_same list', miss, lastCorrupt⟩

/-- Settles O35: the floor test, then `walkCounted` for what is counted and `walk_stores` for the cell. -/
theorem multicastWalk : Obligations.MulticastWalk := by
  intro l cell rest s g c hr serves idle kind group good valid cls members accepting room admitted u
  have executed : exec .admission s = .next (if u.floorPasses c = false then
      u.countLink l fun n => { n with floorDrops := min (n.floorDrops + 1) 4294967295 } else u.walkMembers l cell g c) := by
    rw [exec_admission hr serves, admitCell_multicast (s := u) idle kind, multicast_valid (s := u) group good valid (copyClass_eq cls)]
  have accepts : accepting = u.accepting := funext fun m => by
    rw [taking_accepting, Bool.eq_iff_iff, accepting_iff]
    exact decide_eq_true_iff
  have taken : admitted = admittedMembers u l g c := by
    unfold admittedMembers
    rw [← accepts]
    rfl
  refine ⟨fun low => executed.trans (congrArg _ (if_pos (decide_eq_false (Nat.not_lt.2 low)))), fun above wf => ?_⟩
  have passes : u.floorPasses c = true := decide_eq_true above
  have walks : exec .admission s = .next (u.walkMembers l cell g c) := executed.trans (congrArg _ (if_neg (by simp [passes])))
  rw [walks, walkMembers_eq, taken, accepts]
  refine ⟨walkCounted u l g c, walkCounted_link u l g c, walkCounted_queue u l g c, walkCounted_eq u l g c,
    fun nobody => congrArg _ (if_pos nobody), fun h free somebody list => ?_⟩
  obtain ⟨stored, same, records⟩ := walk_stores (s := u) cell (l := l) (g := g) (k := c) wf list
  refine ⟨_, congrArg _ (if_neg somebody), stored, same, ?_, ?_, ?_, ?_, records, ?_⟩
  all_goals
    rw [walkCounted_eq]
    simp [State.restKept, u, State.taking]

end Sys2Proof.Replication
end

section
/-! PROOFS. The data path: the basic moves of queues, buffers and cells in flight (R63 to R76), and the events that make none of them. -/

namespace Sys2Proof.DataPath

open Sys2Proof.Machine Sys2Proof.Laws Sys2Proof.LinkPorts Sys2Proof.ForwardingTables

/-! ### Memory tests by the operation record -/

/-- Whether an operation is a memory test. -/
def isMemtest : Work → Bool
  | .memtest _ _ _ _ => true
  | _ => false

theorem memtestRunning_eq (s : State) : s.memtestRunning = s.op.any fun r => decide (r.state = .running) && isMemtest r.work := by
  unfold State.memtestRunning State.runningWork
  rcases s.op with _ | ⟨st, n, w⟩
  · rfl
  · cases st <;> cases w <;> rfl

/-- A memory test runs only where the record says so. -/
theorem memtestRunning_true {s : State} (h : s.memtestRunning = true) :
    ∃ n tested failed first retired, s.op = some ⟨.running, n, .memtest tested failed first retired⟩ := by
  rw [memtestRunning_eq, Option.any_eq_true] at h
  obtain ⟨⟨st, n, w⟩, record, h⟩ := h
  obtain ⟨running, test⟩ := Bool.and_eq_true_iff.1 h
  obtain rfl : st = .running := of_decide_eq_true running
  cases w with
  | memtest => exact ⟨_, _, _, _, _, record⟩
  | _ => cases test

theorem memtestRunning_of_idle {s : State} (h : s.opRunning = false) : s.memtestRunning = false := by
  cases running : s.memtestRunning with
  | false => rfl
  | true =>
    obtain ⟨n, tested, failed, first, retired, record⟩ := memtestRunning_true running
    simp [State.opRunning, record] at h

/-! ### Events that make no basic move -/

/-- From queue `p` to queue `q` the entries, the average and the mark counter stay. -/
def QueueStill (p q : OutQueue) : Prop := q.entries = p.entries ∧ q.average = p.average ∧ q.markCount = p.markCount

/-- From `s` to `t` the law of the operation record is kept, and a memory test runs in `t` exactly if it does in `s`. -/
structure RecordStill (s t : State) : Prop where
  lawful : s.opLawful → t.opLawful
  testing : t.memtestRunning = s.memtestRunning

theorem RecordStill.of_op {s t : State} (h : t.op = s.op) : RecordStill s t :=
  ⟨opLawful_of_op h, by rw [memtestRunning_eq, memtestRunning_eq, h]⟩
theorem RecordStill.trans {s t u : State} (h : RecordStill s t) (k : RecordStill t u) : RecordStill s u :=
  ⟨fun lawful => k.lawful (h.lawful lawful), k.testing.trans h.testing⟩

/-- From `s` to `t` nothing moves in the data path: no entry, no buffer, no cell in flight, and no item that its laws read. -/
structure Still (s t : State) : Prop where
  queues : ∀ q, QueueStill (s.queue q) (t.queue q)
  inFlight : ∀ l, (t.link l).inFlight = (s.link l).inFlight
  pool : t.pool = s.pool
  params : t.params = s.params
  record : RecordStill s t

theorem Still.refl (s : State) : Still s s := ⟨fun _ => ⟨rfl, rfl, rfl⟩, fun _ => rfl, rfl, rfl, .of_op rfl⟩

theorem Still.trans {s t u : State} (h : Still s t) (k : Still t u) : Still s u where
  queues q := by
    obtain ⟨e, a, m⟩ := h.queues q
    obtain ⟨e', a', m'⟩ := k.queues q
    exact ⟨e'.trans e, a'.trans a, m'.trans m⟩
  inFlight l := (k.inFlight l).trans (h.inFlight l)
  pool := k.pool.trans h.pool
  params := k.params.trans h.params
  record := h.record.trans k.record

theorem Still.entries {s t : State} (h : Still s t) (q : QueueId) : (t.queue q).entries = (s.queue q).entries := (h.queues q).1

/-- An event that leaves queues, pool, parameters and operation record alone, and of the ports the cells in flight. -/
theorem Still.of_inFlight {s t : State} (inFlight : ∀ l, (t.link l).inFlight = (s.link l).inFlight) (queues : t.queues = s.queues := by simp)
    (pool : t.pool = s.pool := by simp) (params : t.params = s.params := by simp) (op : t.op = s.op := by simp) : Still s t :=
  ⟨fun q => by rw [queue_congr queues]; exact ⟨rfl, rfl, rfl⟩, inFlight, pool, params, .of_op op⟩

/-- An event that leaves links, queues, pool and parameters alone. -/
theorem Still.of_record {s t : State} (record : RecordStill s t) (links : t.links = s.links := by simp) (queues : t.queues = s.queues := by simp)
    (pool : t.pool = s.pool := by simp) (params : t.params = s.params := by simp) : Still s t :=
  ⟨fun q => by rw [queue_congr queues]; exact ⟨rfl, rfl, rfl⟩, fun l => congrArg LinkPort.inFlight (link_congr links l), pool, params, record⟩

/-- An event that leaves links, queues, pool, parameters and operation record alone. -/
theorem Still.of_links {s t : State} (links : t.links = s.links := by simp) (queues : t.queues = s.queues := by simp)
    (pool : t.pool = s.pool := by simp) (params : t.params = s.params := by simp) (op : t.op = s.op := by simp) : Still s t :=
  .of_record (.of_op op) links queues pool params

/-- A still event after an update of items that the laws of the data path do not read. -/
theorem Still.after {s t u : State} (k : Still t u) (links : t.links = s.links := by rfl) (queues : t.queues = s.queues := by rfl)
    (pool : t.pool = s.pool := by rfl) (params : t.params = s.params := by rfl) (op : t.op = s.op := by rfl) : Still s u :=
  (Still.of_links links queues pool params op).trans k

theorem modLink_still (s : State) (l : Link) (f : LinkPort → LinkPort) (h : ∀ p, (f p).inFlight = p.inFlight) : Still s (s.modLink l f) := by
  refine .of_inFlight fun k => ?_
  rw [link_modLink']
  split
  · next e => rw [e, h]
  · rfl
/-- A still event after a port update that leaves the cell in flight alone. -/
theorem Still.afterPort {s t : State} {l : Link} {f : LinkPort → LinkPort} (k : Still (s.modLink l f) t) (h : ∀ p, (f p).inFlight = p.inFlight) :
    Still s t := (modLink_still s l f h).trans k
theorem mapLinks_still (s : State) (f : Link → LinkPort → LinkPort) (h : ∀ l p, (f l p).inFlight = p.inFlight) : Still s (s.mapLinks f) :=
  .of_inFlight fun k => by rw [link_mapLinks, h]
theorem countLink_still (s : State) (l : Link) (f : LinkCounters → LinkCounters) : Still s (s.countLink l f) := modLink_still s l _ fun _ => rfl

theorem countQueue_still (s : State) (q : QueueId) (f : QueueCounters → QueueCounters) : Still s (s.countQueue q f) := by
  refine ⟨fun k => ?_, fun l => by simp, by simp, by simp, .of_op (by simp)⟩
  rw [queue_countQueue]
  split <;> exact ⟨rfl, rfl, rfl⟩

theorem raise_still (s : State) (f : AttnFlag) : Still s (s.raise f) := .of_inFlight fun l => by simp
theorem oweFlowst_still (s : State) : Still s s.oweFlowst := .of_inFlight fun l => by simp
theorem reportPause_still (s : State) : Still s s.reportPause := .of_inFlight fun l => by simp
theorem linkChange_still (s : State) (l : Link) (old : LinkState) : Still s (s.linkChange l old) := .of_inFlight fun k => by simp
theorem verify_still (s : State) (t : Table) (b : Bank) (i : Nat) : Still s (s.verify t b i).2 := .of_inFlight fun l => by simp
theorem epochChange_still (s : State) : Still s s.epochChange := .of_inFlight fun l => by simp

theorem scrubVisit_still (s : State) : Still s s.scrubVisit := by
  unfold State.scrubVisit
  exact (verify_still _ _ _ _).after

theorem attentionExpiry_still (s : State) : Still s s.attentionExpiry := by
  unfold State.attentionExpiry
  split
  · exact (Still.of_inFlight (t := s.pendAttention) fun l => by simp).trans .of_links
  · exact .of_links

/-! ### Links that change their state without a flush -/

theorem quiet_still (s : State) (l : Link) (next : Sending) : Still s (s.quiet l next) := by
  refine .of_inFlight fun k => ?_
  rw [quiet_link]
  split
  · next e => rw [e]
  · rfl

theorem enterTraining_still (s : State) (l : Link) (old : LinkState) : Still s (s.enterTraining l old) := by
  unfold State.enterTraining
  exact (linkChange_still _ l old).afterPort fun _ => rfl
theorem enterUp_still (s : State) (l : Link) : Still s (s.enterUp l) := by
  unfold State.enterUp
  exact (linkChange_still _ l _).afterPort fun _ => rfl
theorem enterDisabled_still (s : State) (l : Link) : Still s (s.enterDisabled l) := by
  unfold State.enterDisabled
  exact ((quiet_still _ l _).trans (linkChange_still _ l _)).afterPort fun _ => rfl

theorem enableLink_still (s : State) (l : Link) : Still s (s.enableLink l) := by
  unfold State.enableLink
  split
  · exact enterTraining_still s l _
  · exact (enterTraining_still _ l _).afterPort fun _ => rfl
  · exact .refl s
  · exact modLink_still s l _ fun _ => rfl

theorem disableLink_still (s : State) (l : Link) : Still s (s.disableLink l) := by
  unfold State.disableLink
  split
  · exact .refl s
  · exact enterDisabled_still s l
  · exact enterDisabled_still s l
  · split
    · exact modLink_still s l _ fun _ => rfl
    · exact enterDisabled_still s l

/-! ### Cells that arrive -/

theorem arriveRequest_still (s : State) (l : Link) (cell : Cell) : Still s (s.arriveRequest l cell) := by
  unfold State.arriveRequest
  split
  · exact .of_links
  · split
    · exact (raise_still _ _).after
    · exact .of_links

theorem arriveSync_still (s : State) (l : Link) (n : Epoch) : Still s (s.arriveSync l n) := by
  unfold State.arriveSync
  dsimp only
  split
  · exact .of_links
  · split
    · exact .of_links
    · split
      · exact (epochChange_still _).after
      · exact (raise_still _ _).after.trans (epochChange_still _)

theorem receiveData_still (s : State) (l : Link) (cell : Cell) : Still s (s.receiveData l cell) := by
  unfold State.receiveData
  split
  · exact modLink_still s l _ fun _ => rfl
  · exact countLink_still s l _

theorem deliver_still (s : State) (l : Link) (kind : CellKind) (cell : Cell) : Still s (s.deliver l kind cell) := by
  cases kind with
  | ucast | mcast => exact receiveData_still s l cell
  | mreq => exact arriveRequest_still s l cell
  | sync => exact arriveSync_still s l _
  | idle => exact .refl s
  | flowst | mrsp | attn => exact .of_links rfl rfl rfl rfl rfl

theorem train_still (s : State) (l : Link) (kind : CellKind) : Still s (s.train l kind) := by
  unfold State.train
  dsimp only
  split
  · split
    · exact (enterUp_still _ l).afterPort fun _ => rfl
    · exact modLink_still s l _ fun _ => rfl
  · exact modLink_still s l _ fun _ => rfl

/-! ### Operations -/

/-- A step of an operation other than a memory test. -/
theorem recordStill_of_step {s t : State} {st : OpState} {n m : Nat} {w w' : Work} (before : s.op = some ⟨.running, n, w⟩)
    (after : t.op = some ⟨st, m, w'⟩) (kept : s.opLawful → t.opLawful) (other : isMemtest w = false) (other' : isMemtest w' = false) :
    RecordStill s t := ⟨kept, by simp [memtestRunning_eq, before, after, other, other']⟩

theorem stepOp_inFlight (s : State) (goesOn : Bool) (progress : Nat) (w : Work) (l : Link) :
    ((stepOp s goesOn progress w).link l).inFlight = (s.link l).inFlight := by
  unfold stepOp
  split <;> simp
theorem stepOp_queues (s : State) (goesOn : Bool) (progress : Nat) (w : Work) : (stepOp s goesOn progress w).queues = s.queues := by
  unfold stepOp
  split <;> simp
theorem stepOp_params (s : State) (goesOn : Bool) (progress : Nat) (w : Work) : (stepOp s goesOn progress w).params = s.params := by
  unfold stepOp
  split <;> simp

/-- What a step of Fill, Copy or Digest leaves of the data path, after the write `u` of an entry, if any. -/
theorem Still.of_stepOp {s u t : State} {goesOn : Bool} {n m : Nat} {w w' : Work} (step : t = stepOp u goesOn m w') (written : Still s u)
    (before : s.op = some ⟨.running, n, w⟩) (kept : s.opLawful → t.opLawful) (other : isMemtest w = false) (other' : isMemtest w' = false) :
    Still s t := by
  subst step
  have stepped : Still s { u with op := (stepOp u goesOn m w').op } :=
    { written with record := recordStill_of_step before (stepOp_op ..) kept other other' }
  refine stepped.trans (.of_inFlight (fun l => stepOp_inFlight u goesOn m w' l) (stepOp_queues ..) (stepOp_pool ..) (stepOp_params ..) rfl)

theorem writeEntry_still (s : State) (b : Bank) (i : Nat) (e : EntryFields) : Still s (s.writeEntry b i e) := .of_links

theorem fillStep_still (s : State) : Still s s.fillStep := by
  obtain idle | ⟨n, bank, e, first, last, written, running⟩ := fillStep_cases s
  · rw [idle]
    exact .refl s
  · exact .of_stepOp (fillStep_running running) (writeEntry_still s bank n e) running (fillStep_operationsKept s).record rfl rfl
theorem copyStep_still (s : State) : Still s s.copyStep := by
  obtain idle | ⟨n, source, dest, written, asInitial, running⟩ := copyStep_cases s
  · rw [idle]
    exact .refl s
  · exact .of_stepOp (copyStep_at running) (writeEntry_still s dest _ _) running (copyStep_operationsKept s).record rfl rfl
theorem digestStep_still (s : State) : Still s s.digestStep := by
  obtain idle | ⟨n, tb, b, role, digested, register, value, running⟩ := digestStep_cases s
  · rw [idle]
    exact .refl s
  · exact .of_stepOp (digestStep_running running) (.refl s) running (digestStep_operationsKept s).record rfl rfl

/-- A request that leaves the operation record, or starts a long operation other than a memory test where none runs (R150). -/
structure StartsOther (s t : State) : Prop where
  op : t.op = s.op ∨ s.opRunning = false ∧ ∃ n w, t.op = some ⟨.running, n, w⟩ ∧ isMemtest w = false

theorem StartsOther.same {s t : State} (h : t = s) : StartsOther s t := ⟨.inl (congrArg State.op h)⟩
theorem StartsOther.start {s : State} {n : Nat} {w : Work} (idle : ¬ s.opRunning = true) (other : isMemtest w = false) :
    StartsOther s (startOp s n w).2 := ⟨.inr ⟨Bool.not_eq_true _ ▸ idle, n, w, rfl, other⟩⟩

theorem StartsOther.still {s t : State} (h : StartsOther s t) (kept : s.opLawful → t.opLawful) (links : t.links = s.links)
    (queues : t.queues = s.queues) (pool : t.pool = s.pool) (params : t.params = s.params) : Still s t := by
  refine .of_record ⟨kept, ?_⟩ links queues pool params
  obtain same | ⟨idle, n, w, started, other⟩ := h.op
  · rw [memtestRunning_eq, memtestRunning_eq, same]
  · rw [memtestRunning_of_idle idle, memtestRunning_eq, started]
    simp [other]

theorem answerFillEntries_startsOther (r : Payload) (s : State) : StartsOther s (answerFillEntries r s).2 := by
  unfold answerFillEntries
  split
  · exact .same rfl
  · dsimp only
    split
    · exact .same rfl
    · split
      · exact .same rfl
      · split
        · exact .same rfl
        · next idle => exact .start idle rfl
theorem answerCopyBank_startsOther (r : Payload) (s : State) : StartsOther s (answerCopyBank r s).2 := by
  unfold answerCopyBank
  split
  · exact .same rfl
  · split
    · exact .same rfl
    · next idle => exact .start idle rfl
theorem answerDigestBank_startsOther (r : Payload) (s : State) : StartsOther s (answerDigestBank r s).2 := by
  unfold answerDigestBank
  split
  · split
    · exact .same rfl
    · next idle => exact .start idle rfl
  · exact .same rfl

theorem answerFillEntries_still (r : Payload) (s : State) : Still s (answerFillEntries r s).2 :=
  (answerFillEntries_startsOther r s).still (answerFillEntries_operationsKept r s).record (by simp) (by simp) (by simp) (by simp)
theorem answerCopyBank_still (r : Payload) (s : State) : Still s (answerCopyBank r s).2 :=
  (answerCopyBank_startsOther r s).still (answerCopyBank_operationsKept r s).record (by simp) (by simp) (by simp) (by simp)
theorem answerDigestBank_still (r : Payload) (s : State) : Still s (answerDigestBank r s).2 :=
  (answerDigestBank_startsOther r s).still (answerDigestBank_operationsKept r s).record (by simp) (by simp) (by simp) (by simp)

/-! ### Requests -/

theorem place_still (s : State) (l : Link) (record : Payload) : Still s (s.place l record) := by
  unfold State.place
  split
  · exact .of_links
  · split
    · exact modLink_still s l _ fun _ => rfl
    · exact .of_links rfl rfl rfl rfl rfl

/-- The state in which a request is executed: the head of the queue has left it (R137). -/
def dequeued (s : State) : State := { s with agent := { s.agent with queue := s.agent.queue.tail } }

theorem dequeued_still (s : State) : Still s (dequeued s) := .of_links rfl rfl rfl rfl rfl

/-- A request served is taken, executed and answered; the last is still. -/
theorem serve_executed (s : State) (row : RequestRow) (execute : Payload → State → Answer × State) :
    s.serve row execute = s ∨
      ∃ r, s.headRequest row = some r ∧ Still (execute r.record (dequeued s)).2 (s.serve row execute) ∧
        (s.serve row execute).queues = (execute r.record (dequeued s)).2.queues ∧
        StatesKept (execute r.record (dequeued s)).2 (s.serve row execute) := by
  obtain same | ⟨r, head, served⟩ := serve_cases s row execute
  · exact .inl same
  · refine .inr ⟨r, head, ?_⟩
    rw [served]
    refine ⟨(place_still _ _ _).after, place_queues .., ?_⟩
    exact fun l => place_statesKept _ _ _ l

theorem serve_still (s : State) (row : RequestRow) (execute : Payload → State → Answer × State) (h : ∀ r u, Still u (execute r u).2) :
    Still s (s.serve row execute) := by
  obtain same | ⟨r, -, after, -⟩ := serve_executed s row execute
  · rw [same]
    exact .refl s
  · exact ((dequeued_still s).trans (h r.record _)).trans after

/-- A request whose execution leaves links, queues, pool, parameters and operation record alone. -/
theorem serve_aside (s : State) (row : RequestRow) (execute : Payload → State → Answer × State)
    (links : ∀ r u, (execute r u).2.links = u.links := by simp)
    (queues : ∀ r u, (execute r u).2.queues = u.queues := by simp) (pool : ∀ r u, (execute r u).2.pool = u.pool := by simp)
    (params : ∀ r u, (execute r u).2.params = u.params := by simp) (op : ∀ r u, (execute r u).2.op = u.op := by simp) :
    Still s (s.serve row execute) :=
  serve_still s row execute fun r u => .of_links (links r u) (queues r u) (pool r u) (params r u) (op r u)

theorem answerReadCounters_still (r : Payload) (s : State) : Still s (answerReadCounters r s).2 := by
  have ite : ∀ {t : State}, Still s t → Still s (if recClear r = true then t else s) := by
    intro t h
    split
    · exact h
    · exact .refl s
  unfold answerReadCounters
  split
  · split
    · exact .refl s
    · exact ite (countLink_still s _ _)
  · split
    · exact ite (countQueue_still s _ _)
    · exact .refl s
  · exact ite .of_links
  · exact .refl s

theorem answerEnable_still (r : Payload) (s : State) : Still s (answerEnable r s).2 := by
  unfold answerEnable
  split
  · exact .refl s
  · split
    · exact .refl s
    · split
      · exact .refl s
      · exact enableLink_still s _
theorem answerDisable_still (r : Payload) (s : State) : Still s (answerDisable r s).2 := by
  unfold answerDisable
  split
  · exact .refl s
  · exact disableLink_still s _

/-! ### The commands that make no basic move -/

/-- The commands that can move a cell, a buffer, a parameter or an item of the monitor. -/
def movesCells : Instr → Bool
  | .rstNRise .. | .rstNFall | .cellArrival .. | .trainingWindowExpiry _ | .keepaliveExpiry _ | .admission | .nextCellEvent _ | .monitorStep
  | .memtestStep _ | .startMemoryTest | .flush | .retrain | .datapathReset | .setParameter => true
  | _ => false

theorem Still.ite {s t : State} {c : Prop} [Decidable c] (h : Still s t) : Still s (if c then t else s) := by
  split
  · exact h
  · exact .refl s
theorem Still.of_next {s t u : State} (h : (Host.Outcome.next u : Host.Outcome State Fault Refusal) = .next t) (k : Still s u) : Still s t :=
  next_inj h ▸ k

theorem execHoldOffExpiry_still {s t : State} {l : Link} (h : execHoldOffExpiry l s = .next t) : Still s t := by
  refine .of_next h (.ite ?_)
  split
  · exact enterTraining_still s l _
  · exact modLink_still s l _ fun _ => rfl

theorem exec_still {i : Instr} {s t : State} (still : movesCells i = false) (h : exec i s = .next t) : Still s t := by
  cases i with
  | holdOffExpiry l => exact execHoldOffExpiry_still h
  | coalescingTimerExpiry => exact .of_next h (.ite (oweFlowst_still _).after)
  | epochTimerExpiry => exact .of_next h (.ite (epochChange_still _).after)
  | attentionHoldOffExpiry => exact .of_next h (.ite (attentionExpiry_still s))
  | scrubStep => exact .of_next h (.ite (scrubVisit_still s))
  | tableDisturbance b n e code => exact .of_next h (.ite .of_links)
  | fillStep => exact .of_next h (.ite (fillStep_still s))
  | copyStep => exact .of_next h (.ite (copyStep_still s))
  | digestStep => exact .of_next h (.ite (digestStep_still s))
  | readIdentity => exact .of_next h (serve_aside s _ _)
  | readStatus => exact .of_next h (serve_aside s _ _)
  | readQueueSnapshot => exact .of_next h (serve_aside s _ _)
  | readCounters => exact .of_next h (serve_still s _ _ answerReadCounters_still)
  | readAttention => exact .of_next h (serve_aside s _ _)
  | readMissRecord => exact .of_next h (serve_aside s _ _)
  | readEntries => exact .of_next h (serve_aside s _ _)
  | writeEntries => exact .of_next h (serve_aside s _ _)
  | repairEntry => exact .of_next h (serve_aside s _ _)
  | fillEntries => exact .of_next h (serve_still s _ _ answerFillEntries_still)
  | copyBank => exact .of_next h (serve_still s _ _ answerCopyBank_still)
  | digestBank => exact .of_next h (serve_still s _ _ answerDigestBank_still)
  | enable => exact .of_next h (serve_still s _ _ answerEnable_still)
  | disable => exact .of_next h (serve_still s _ _ answerDisable_still)
  | scheduleSwap => exact .of_next h (serve_aside s _ _)
  | cancelSwap => exact .of_next h (serve_aside s _ _)
  | sendFlowStatusNow => exact .of_next h (serve_still s _ _ fun _ u => oweFlowst_still u)
  | setManagementLinks => exact .of_next h (serve_aside s _ _)
  | readParameter => exact .of_next h (serve_aside s _ _)
  | undefinedRequest => exact .of_next h (serve_aside s _ _)
  | _ => cases still

end Sys2Proof.DataPath
end

section
/-! PROOFS. What the other commands are made of: the basic moves of the data path. -/

namespace Sys2Proof.DataPath

open Sys2Proof.Machine Sys2Proof.Laws Sys2Proof.LinkPorts Sys2Proof.ForwardingTables

/-- What the events of the data path are made of: events that move nothing, the monitor's visit of a queue (R102), a cell stored for links that have
room for it (R53, R59), the end of a cell in flight (R16, R97), the selection of a head entry (R93), the flush of a queue (R74), the parts of a memory
test (R70), an abort (R168), and the write of a parameter (R154). -/
inductive Traffic : State → State → Prop
  | still {s t : State} (h : Still s t) : Traffic s t
  | trans {s t u : State} (h : Traffic s t) (k : Traffic t u) : Traffic s u
  | visit (s : State) (q : QueueId) : Traffic s (s.setQueue q ((s.queue q).visited s.params (queueClass q)))
  | store {s : State} {cell : Cell} {cc : Sys2Proof.Class} {members : List Link} (idle : s.memtestRunning = false) (free : s.pool.free ≠ [])
      (some : members ≠ []) (nodup : members.Nodup) (room : ∀ l ∈ members, s.limitPasses l cc = true) : Traffic s (s.storeCell cell cc members)
  | drop {s : State} {l : Link} {h : Handle} (sent : (s.link l).inFlight = some h) :
      Traffic s ((s.release h).modLink l fun p => { p with inFlight := none })
  | select {s t : State} {l : Link} {c : Sys2Proof.Class} (idle : (s.link l).inFlight = none) (h : s.selectFrom l c = .next t) : Traffic s t
  | flush (s : State) (q : QueueId) : Traffic s (s.flushQueue q)
  | startTest {s : State} (idle : s.opRunning = false) (whole : s.pool.free.length + s.pool.retired.length = Config.bufferCount) :
      Traffic s { s with pool := s.pool.startTest s.params.poolLow, op := some ⟨.running, 0, .memtest 0 0 none none⟩ }
  | test (s : State) (passes : Bool) : Traffic s (s.memtestStep passes)
  | abort (s : State) : Traffic s s.abortOp
  | setParameter {s : State} {p : Param} {r : Payload} {params : Params} (h : s.params.store p r = some params) :
      Traffic s (({ s with params := params } : State).afterWrite p)

theorem Traffic.refl (s : State) : Traffic s s := .still (.refl s)
theorem Traffic.afterStill {s t u : State} (k : Traffic t u) (h : Still s t) : Traffic s u := .trans (.still h) k
theorem Traffic.thenStill {s t u : State} (h : Traffic s t) (k : Still t u) : Traffic s u := .trans h (.still k)

/-! ### Flushes and fault entries -/

theorem flushQueues_traffic (s : State) (qs : List QueueId) : Traffic s (s.flushQueues qs) := by
  have emptied : ∀ u, Traffic u (qs.foldl State.flushQueue u) := by
    induction qs with
    | nil => exact .refl
    | cons q qs ih => exact fun u => .trans (.flush u q) (ih _)
  unfold State.flushQueues
  dsimp only
  split
  · exact (emptied s).thenStill (reportPause_still _)
  · exact emptied s

/-- The end of a cell in flight, counted in some way. -/
theorem drop_counted {s : State} {l : Link} {h : Handle} (sent : (s.link l).inFlight = some h) (f : LinkCounters → LinkCounters) :
    Traffic s ((s.release h).modLink l fun p => { p with inFlight := none, counters := f p.counters }) := by
  have counted := countLink_still ((s.release h).modLink l fun p => { p with inFlight := none }) l f
  rw [countLink_eq, modLink_modLink] at counted
  exact (Traffic.drop sent).thenStill counted

theorem endData_traffic {s : State} {l : Link} {h : Handle} (sent : (s.link l).inFlight = some h) : Traffic s (s.endData l h) :=
  drop_counted sent fun k => { k with dataCellsTransmitted := bump k.dataCellsTransmitted 1 }

theorem abortInFlight_traffic (s : State) (l : Link) : Traffic s (s.abortInFlight l) := by
  unfold State.abortInFlight
  split
  · exact .refl s
  · next sent => exact drop_counted sent fun k => { k with aborted := bump k.aborted 1 }

theorem enterFaulted_traffic (s : State) (l : Link) (cause : FaultCause) : Traffic s (s.enterFaulted l cause) := by
  rw [enterFaulted_eq]
  have quieted : Traffic s (faultedQuiet s l cause) :=
    .trans (abortInFlight_traffic s l) (.still ((quiet_still _ l _).afterPort fun _ => rfl))
  exact (quieted.trans (flushQueues_traffic _ _)).thenStill (linkChange_still _ l _)

theorem retrainLink_traffic (s : State) (l : Link) : Traffic s (s.retrainLink l) := by
  rw [retrainLink_eq]
  have quieted : Traffic s (retrainQuiet s l) :=
    .trans (abortInFlight_traffic s l) (.still ((quiet_still _ l _).afterPort fun _ => rfl))
  exact (quieted.trans (flushQueues_traffic _ _)).thenStill (enterTraining_still _ l _)

/-- What an arriving cell does to the data path: nothing, or its link enters FAULTED by a bad cell (R11, R12). -/
def ArrivalEnds (s t : State) (l : Link) : Prop :=
  Still s t ∨ ∃ u cause, Still s u ∧ u.queues = s.queues ∧ (u.link l).state = (s.link l).state ∧ (s.link l).state = .up ∧ t = u.enterFaulted l cause

/-- An arrival after an update of its port. -/
theorem ArrivalEnds.afterPort {s t : State} {l : Link} {f : LinkPort → LinkPort} (k : ArrivalEnds (s.modLink l f) t l)
    (h : ∀ p, (f p).inFlight = p.inFlight ∧ (f p).state = p.state) : ArrivalEnds s t l := by
  have same := modLink_statesKept s l f fun p => (h p).2
  have port := modLink_still s l f fun p => (h p).1
  obtain still | ⟨u, cause, before, queues, state, up, entered⟩ := k
  · exact .inl (port.trans still)
  · exact .inr ⟨u, cause, port.trans before, queues, state.trans (same l), (same l).symm.trans up, entered⟩

theorem badCell_arrivalEnds (s : State) (l : Link) (up : (s.link l).state = .up) : ArrivalEnds s (s.badCell l) l := by
  unfold State.badCell
  dsimp only
  split
  · refine .inr ⟨_, .errors, ?_, ?_, ?_, up, rfl⟩
    · exact modLink_still s l _ fun _ => rfl
    · rfl
    · rw [link_modLink_same]
  · exact .inl (modLink_still s l _ fun _ => rfl)

theorem arriveHeaderError_arrivalEnds (s : State) (l : Link) : ArrivalEnds s (s.arriveHeaderError l) l := by
  unfold State.arriveHeaderError
  dsimp only
  split
  · exact .inl ((modLink_still (s.countLink l _) l (fun p => { p with trainCount := 0 }) fun _ => rfl).afterPort fun _ => rfl)
  · next up => exact (badCell_arrivalEnds (s.countLink l _) l (by simp [link_countLink, up])).afterPort fun _ => ⟨rfl, rfl⟩
  · exact .inl (countLink_still s l _)
  · exact .inl (.refl s)

theorem arriveGoodHeader_arrivalEnds (s : State) (l : Link) (kind : CellKind) (cell : Cell) :
    ArrivalEnds s (s.arriveGoodHeader l kind cell) l := by
  cases state : (s.link l).state with
  | disabled => simpa only [State.arriveGoodHeader, state] using .inl (.refl s)
  | training =>
    rw [arriveGoodHeader_training state]
    exact .inl ((train_still _ l kind).afterPort fun _ => rfl)
  | up =>
    rw [arriveGoodHeader_up state]
    split
    · have paced := modLink_still s l (pacedPort s cell) fun _ => rfl
      unfold State.arriveGood
      exact .inl (paced.trans ((deliver_still _ l kind cell).afterPort fun _ => rfl))
    · exact (badCell_arrivalEnds _ l (by simp [pacedPort, state])).afterPort fun _ => ⟨rfl, rfl⟩
  | faulted =>
    rw [arriveGoodHeader_faulted state]
    exact .inl (countLink_still s l _)

theorem execCellArrival_arrivalEnds {s t : State} {l : Link} {cell : Cell} (h : execCellArrival l cell s = .next t) : ArrivalEnds s t l := by
  obtain rfl := next_inj h
  split
  · exact .inl (.refl s)
  · split
    · exact arriveHeaderError_arrivalEnds s l
    · exact arriveGoodHeader_arrivalEnds s l _ cell

theorem ArrivalEnds.traffic {s t : State} {l : Link} (h : ArrivalEnds s t l) : Traffic s t := by
  obtain still | ⟨u, cause, before, -, -, -, rfl⟩ := h
  · exact .still still
  · exact (enterFaulted_traffic u l cause).afterStill before

/-! ### Admission -/

/-- What an admission does to the data path: nothing, or the cell is stored, with one entry for each of some links that have room, after a part that
is still (R53, R59). -/
def AdmissionEnds (s t : State) : Prop :=
  Still s t ∨ ∃ u cell cc members, Still s u ∧ s.memtestRunning = false ∧ u.pool.free ≠ [] ∧ members ≠ [] ∧ members.Nodup ∧
    (∀ l ∈ members, u.limitPasses l cc = true) ∧ t = u.storeCell cell cc members

theorem AdmissionEnds.after {s t u : State} (k : AdmissionEnds t u) (h : Still s t) : AdmissionEnds s u := by
  obtain still | ⟨v, cell, cc, members, before, idle, rest⟩ := k
  · exact .inl (h.trans still)
  · exact .inr ⟨v, cell, cc, members, h.trans before, h.record.testing.symm.trans idle, rest⟩

theorem free_ne_nil {s : State} {c : Sys2Proof.Class} (h : s.floorPasses c = true) : s.pool.free ≠ [] := by
  intro none
  simp [State.floorPasses, none] at h

theorem admitUnicast_admissionEnds (s : State) (ingress : Link) (cell : Cell) (l : Link) (idle : s.memtestRunning = false) :
    AdmissionEnds s (s.admitUnicast ingress cell l) := by
  unfold State.admitUnicast
  dsimp only
  split
  · exact .inl (countLink_still s ingress _)
  · split
    · exact .inl (countLink_still s ingress _)
    · next floor =>
      split
      · exact .inl (countQueue_still s _ _)
      · next limit =>
        exact .inr ⟨s, cell, _, [l], .refl s, idle, free_ne_nil (Bool.not_eq_false _ ▸ floor), by simp, List.nodup_singleton l,
          fun k hk => by rw [List.mem_singleton.1 hk]; simpa using limit, rfl⟩

theorem routeUnicast_admissionEnds (s : State) (ingress : Link) (cell : Cell) (d : Link) (idle : s.memtestRunning = false) :
    AdmissionEnds s (s.routeUnicast ingress cell d) := by
  have routed : Still s (s.routeLink d).2 := .of_links
  unfold State.routeUnicast
  dsimp only
  split
  · exact (admitUnicast_admissionEnds _ ingress cell _ (routed.record.testing.trans idle)).after routed
  · split <;> exact .inl (countLink_still s ingress _)

theorem unicast_admissionEnds (s : State) (ingress : Link) (cell : Cell) (idle : s.memtestRunning = false) :
    AdmissionEnds s (s.unicast ingress cell) := by
  unfold State.unicast
  split
  · have read := verify_still s .destination s.tables.active (cellDest cell)
    dsimp only
    split
    · exact (routeUnicast_admissionEnds _ ingress cell _ (read.record.testing.trans idle)).after read
    · exact .inl (read.trans (countLink_still _ ingress _))
  · exact .inl (countLink_still s ingress _)

theorem countTailDrops_still (s : State) (cc : Sys2Proof.Class) (members : List Link) :
    Still s (members.foldl (fun acc mem => acc.countTailDrop mem cc) s) := by
  induction members generalizing s with
  | nil => exact .refl s
  | cons m ms ih => exact (countQueue_still s (queueId m cc) _).trans (ih _)

theorem decideMember_limit {s : State} {ingress : Link} {suppress : Bool} {cc : Sys2Proof.Class} {m : Link}
    (h : s.decideMember ingress suppress cc m = .admitted) : s.limitPasses m cc = true := by
  have tests := ((Replication.decideMember_eq_iff s ingress suppress cc m (by simp)).1 h).2
  exact (Bool.and_eq_true_iff.1 tests).2

/-- The limit test reads the depth of the queue and the parameters. -/
theorem limitPasses_congr {s t : State} (h : Still s t) (l : Link) (cc : Sys2Proof.Class) : t.limitPasses l cc = s.limitPasses l cc := by
  unfold State.limitPasses
  rw [h.entries, h.params]

theorem walkMembers_admissionEnds (s : State) (ingress : Link) (cell : Cell) (g : GroupFields) (cc : Sys2Proof.Class)
    (idle : s.memtestRunning = false) (floor : s.floorPasses cc = true) : AdmissionEnds s (s.walkMembers ingress cell g cc) := by
  have counted := fun f mems => (countLink_still s ingress f).trans (countTailDrops_still _ cc mems)
  unfold State.walkMembers
  dsimp only
  split
  · exact .inl ((counted _ _).trans (countLink_still _ ingress _))
  · next some =>
    refine .inr ⟨_, cell, cc, _, counted _ _, idle, (counted _ _).pool.symm ▸ free_ne_nil floor, some,
      ((List.nodup_finRange 32).filter _).filter _, fun l hl => ?_, rfl⟩
    rw [limitPasses_congr (counted _ _)]
    exact decideMember_limit (of_decide_eq_true (List.mem_filter.1 hl).2)

theorem offerMiss_still (s : State) (group : Nat) (l : Link) : Still s (s.offerMiss group l) := by
  unfold State.offerMiss
  split
  · exact (raise_still _ _).after
  · exact .of_links rfl rfl rfl rfl rfl
theorem groupMiss_still (s : State) (ingress : Link) (group : Nat) : Still s (s.groupMiss ingress group) := by
  unfold State.groupMiss
  exact (countLink_still s ingress _).trans (offerMiss_still _ _ _)

theorem multicast_admissionEnds (s : State) (ingress : Link) (cell : Cell) (idle : s.memtestRunning = false) :
    AdmissionEnds s (s.multicast ingress cell) := by
  have read := verify_still s .group s.tables.active (cellDest cell)
  unfold State.multicast
  dsimp only
  split
  · split
    · exact .inl (read.trans (countLink_still _ ingress _))
    · next floor =>
      exact (walkMembers_admissionEnds _ ingress cell _ _ (read.record.testing.trans idle) (Bool.not_eq_false _ ▸ floor)).after read
  · exact .inl (read.trans (groupMiss_still _ ingress _))

theorem admission_admissionEnds (s : State) : AdmissionEnds s s.admission := by
  unfold State.admission
  split
  · exact .inl (.refl s)
  · next l _ =>
    split
    · exact .inl (.refl s)
    · next cell rest _ =>
      have taken : Still s (s.taking l rest) :=
        (modLink_still s l (fun p => { p with rxBuf := rest }) fun _ => rfl).trans (.of_links rfl rfl rfl rfl rfl)
      refine AdmissionEnds.after (t := s.taking l rest) ?_ taken
      show AdmissionEnds _ ((s.taking l rest).admitCell l cell)
      unfold State.admitCell
      split
      · exact .inl (countLink_still _ l _)
      · next idle =>
        rw [Bool.not_eq_true] at idle
        split
        · exact unicast_admissionEnds _ l cell idle
        · exact multicast_admissionEnds _ l cell idle

theorem AdmissionEnds.traffic {s t : State} (h : AdmissionEnds s t) : Traffic s t := by
  obtain still | ⟨u, cell, cc, members, before, idle, free, some, nodup, room, rfl⟩ := h
  · exact .still still
  · exact (Traffic.store (before.record.testing.trans idle) free some nodup room).afterStill before

/-! ### The next cell -/

/-- What a choice does to the data path of a link with no cell in flight: nothing, or a head entry of the link is selected after a part that is
still and leaves the queues (R93). -/
def ChoiceEnds (s t : State) (l : Link) : Prop := Still s t ∨ ∃ u c, Still s u ∧ u.queues = s.queues ∧ u.selectFrom l c = .next t

theorem ChoiceEnds.afterPort {s t : State} {l : Link} {f : LinkPort → LinkPort} (k : ChoiceEnds (s.modLink l f) t l)
    (h : ∀ p, (f p).inFlight = p.inFlight) : ChoiceEnds s t l := by
  obtain still | ⟨u, c, before, queues, selected⟩ := k
  · exact .inl (still.afterPort h)
  · exact .inr ⟨u, c, before.afterPort h, queues, selected⟩

theorem sendNonData_still (s : State) (l : Link) (kind : SentKind) (bytes : Cell) : Still s (s.sendNonData l kind bytes) :=
  modLink_still s l _ fun _ => rfl

theorem placeHeld_still (s : State) (l : Link) : Still s (s.placeHeld l) := by
  unfold State.placeHeld
  split
  · exact .refl s
  · next c _ =>
    split
    · have placed := modLink_still s l (fun p => { p with respQueue := p.respQueue ++ [c.record] }) fun _ => rfl
      exact placed.trans (.of_links rfl rfl rfl rfl rfl)
    · exact .refl s

theorem sendData_choiceEnds {s t : State} {l : Link} (h : s.sendData l = .next t) : ChoiceEnds s t l := by
  unfold State.sendData at h
  split at h
  · exact .inr ⟨s, 0, .refl s, rfl, h⟩
  · split at h
    · cases h
    · next k r _ =>
      have walked := modLink_still s l (fun p => { p with wrrClass := k, wrrCount := r }) fun _ => rfl
      exact .inr ⟨_, k.toClass, walked, rfl, h⟩

theorem chooseAfterAttn_choiceEnds {s t : State} {l : Link} (h : s.chooseAfterAttn l = .next t) : ChoiceEnds s t l := by
  unfold State.chooseAfterAttn at h
  split at h
  · exact .inl (next_inj h ▸ (sendNonData_still _ l _ _).afterPort fun _ => rfl)
  · split at h
    · exact sendData_choiceEnds h
    · exact .inl (next_inj h ▸ sendNonData_still s l _ _)

theorem chooseNext_choiceEnds {s t : State} {l : Link} (h : s.chooseNext l = .next t) : ChoiceEnds s t l := by
  unfold State.chooseNext at h
  split at h
  · exact .inl (next_inj h ▸ ((placeHeld_still _ l).trans (sendNonData_still _ l _ _)).afterPort fun _ => rfl)
  · split at h
    · split at h
      · exact .inl (next_inj h ▸ (sendNonData_still _ l _ _).afterPort fun _ => rfl)
      · exact (chooseAfterAttn_choiceEnds h).afterPort fun _ => rfl
    · exact chooseAfterAttn_choiceEnds h

theorem ChoiceEnds.traffic {s t : State} {l : Link} (h : ChoiceEnds s t l) (idle : (s.link l).inFlight = none) : Traffic s t := by
  obtain still | ⟨u, c, before, -, selected⟩ := h
  · exact .still still
  · exact (Traffic.select ((before.inFlight l).trans idle) selected).afterStill before

theorem endData_inFlight (s : State) (l : Link) (h : Handle) : ((s.endData l h).link l).inFlight = none := by rw [endData_link]

theorem nextCell_traffic {s t : State} {l : Link} (h : s.nextCell l = .next t) : Traffic s t := by
  unfold State.nextCell at h
  split at h
  · next idle => exact (chooseNext_choiceEnds h).traffic idle
  · next b sent =>
    have ended := endData_traffic sent
    split at h
    · exact next_inj h ▸ ended.thenStill (enterDisabled_still _ l)
    · exact ended.trans ((chooseNext_choiceEnds h).traffic (endData_inFlight s l b))

/-! ### The monitor and the requests -/

theorem monitorStep_traffic (s : State) : Traffic s s.monitorStep := by
  have visited : ∀ (u : State) q, Traffic u (u.visit q) := fun u q => by
    unfold State.visit
    dsimp only
    split
    · exact (Traffic.visit u q).thenStill (reportPause_still _)
    · exact .visit u q
  unfold State.monitorStep
  split
  · exact .still .of_links
  · exact (visited _ _).afterStill (.of_links rfl rfl rfl rfl rfl)

theorem serve_traffic (s : State) (row : RequestRow) (execute : Payload → State → Answer × State) (h : ∀ r u, Traffic u (execute r u).2) :
    Traffic s (s.serve row execute) := by
  obtain same | ⟨r, -, after, -⟩ := serve_executed s row execute
  · rw [same]
    exact .refl s
  · exact ((h r.record _).afterStill (dequeued_still s)).thenStill after

theorem answerStartMemoryTest_traffic (r : Payload) (s : State) : Traffic s (answerStartMemoryTest r s).2 := by
  unfold answerStartMemoryTest
  split
  · exact .refl s
  · next idle =>
    split
    · exact .refl s
    · next whole => exact .startTest (Bool.not_eq_true _ ▸ idle) (not_not.1 whole)

theorem answerFlush_traffic (r : Payload) (s : State) : Traffic s (answerFlush r s).2 := by
  unfold answerFlush
  split
  · exact .refl s
  · exact flushQueues_traffic s _
theorem answerRetrain_traffic (r : Payload) (s : State) : Traffic s (answerRetrain r s).2 := by
  unfold answerRetrain
  split
  · exact .refl s
  · split
    · exact .refl s
    · exact retrainLink_traffic s _

theorem emptyReceiveBuffers_still (s : State) : Still s s.emptyReceiveBuffers := mapLinks_still s _ fun _ _ => rfl
theorem resetSchedulers_still (s : State) : Still s s.resetSchedulers := mapLinks_still s _ fun _ _ => rfl

theorem resetDatapath_traffic (s : State) : Traffic s s.resetDatapath := by
  have emptied := (Traffic.abort s).trans (flushQueues_traffic s.abortOp allQueues)
  exact emptied.thenStill ((emptyReceiveBuffers_still _).trans (resetSchedulers_still _))

theorem answerSetParameter_traffic (r : Payload) (s : State) : Traffic s (answerSetParameter r s).2 := by
  unfold answerSetParameter
  split
  · exact .refl s
  · split
    · exact .refl s
    · next stored => exact .setParameter stored

/-! ### Every command -/

theorem Traffic.ite {s t : State} {c : Prop} [Decidable c] (h : Traffic s t) : Traffic s (if c then t else s) := by
  split
  · exact h
  · exact .refl s
theorem Traffic.of_next {s t u : State} (h : (Host.Outcome.next u : Host.Outcome State Fault Refusal) = .next t) (k : Traffic s u) : Traffic s t :=
  next_inj h ▸ k

theorem exec_traffic {i : Instr} {s t : State} (notReset : i.isReset = false) (h : exec i s = .next t) : Traffic s t := by
  cases moves : movesCells i with
  | false => exact .still (exec_still moves h)
  | true =>
    cases i with
    | rstNRise | rstNFall => cases notReset
    | cellArrival l cell => exact (execCellArrival_arrivalEnds h).traffic
    | trainingWindowExpiry l => exact .of_next h (.ite (enterFaulted_traffic s l _))
    | keepaliveExpiry l => exact .of_next h (.ite (enterFaulted_traffic s l _))
    | admission => exact .of_next h (.ite (admission_admissionEnds s).traffic)
    | nextCellEvent l =>
      change execNextCellEvent l s = .next t at h
      unfold execNextCellEvent at h
      split at h
      · exact nextCell_traffic h
      · exact .of_next h (.refl s)
    | monitorStep => exact .of_next h (.ite (monitorStep_traffic s))
    | memtestStep passes => exact .of_next h (.ite (.test s passes))
    | startMemoryTest => exact .of_next h (serve_traffic s _ _ answerStartMemoryTest_traffic)
    | flush => exact .of_next h (serve_traffic s _ _ answerFlush_traffic)
    | retrain => exact .of_next h (serve_traffic s _ _ answerRetrain_traffic)
    | datapathReset => exact .of_next h (serve_traffic s _ _ fun _ u => resetDatapath_traffic u)
    | setParameter => exact .of_next h (serve_traffic s _ _ answerSetParameter_traffic)
    | _ => cases moves

/-- An edge of RST_N leaves the state or gives one that is still against power-on. -/
theorem exec_reset_still {i : Instr} {s t : State} (reset : i.isReset = true) (h : exec i s = .next t) :
    t = s ∨ ∃ straps, Still (State.powerOn straps) t := by
  cases i with
  | rstNRise plane mgp mgs =>
    obtain rfl := next_inj h
    split
    · exact .inl rfl
    · exact .inr ⟨⟨plane, mgp, mgs⟩, .of_links rfl rfl rfl rfl rfl⟩
  | rstNFall =>
    obtain rfl := next_inj h
    split
    · refine .inr ⟨s.straps, .of_inFlight (fun l => ?_) rfl rfl rfl rfl⟩
      rw [heldInReset_link, powerOn_link]
      rfl
    · exact .inl rfl
  | _ => cases reset

/-- A law of the data path that holds at power-on and that every basic move keeps is kept by every step. -/
theorem step_keeps {law : State → Prop} (powerOn : ∀ straps, law (State.powerOn straps)) (kept : ∀ {s t}, Traffic s t → law s → law t)
    {s t : State} (hs : law s) (h : step s = .next t) : law t := by
  unfold step at h
  split at h
  · exact next_inj h ▸ hs
  · next c rest _ =>
    have popped : law { s with pending := rest } := kept (s := s) (.still (.of_links rfl rfl rfl rfl rfl)) hs
    cases reset : c.isReset with
    | false => exact kept (exec_traffic reset h) popped
    | true =>
      obtain rfl | ⟨straps, still⟩ := exec_reset_still reset h
      · exact popped
      · exact kept (.still still) (powerOn straps)

end Sys2Proof.DataPath
end

section
/-! PROOFS. Laws that every basic move keeps: the ranges of the parameters (R152, R154), of the queues (R71, R73, R81, R103), and the pool-low latch
(R68). -/

namespace Sys2Proof.DataPath

open Sys2Proof.Machine Sys2Proof.Laws Sys2Proof.LinkPorts Sys2Proof.ForwardingTables

/-! ### Parameters -/

/-- The ranges of the parameters by name. -/
structure Ranged (p : Params) : Prop where
  limit : ∀ k, 1 ≤ slot p.limit k ∧ slot p.limit k ≤ 4095
  floor : ∀ k, slot p.floor k ≤ 16383
  xoff : ∀ k, 1 ≤ slot p.xoff k ∧ slot p.xoff k ≤ 4095
  xon : ∀ k, slot p.xon k ≤ 4094
  pause : ∀ k, slot p.xon k < slot p.xoff k
  mark : ∀ k, slot p.markLow k ≤ slot p.markHigh k
  markHigh : ∀ k, slot p.markHigh k ≤ 65520
  m : p.m ≤ 7
  w : 1 ≤ p.w ∧ p.w ≤ 6
  monitorStep : 1 ≤ p.monitorStep ∧ p.monitorStep ≤ 255
  weight : ∀ k, 1 ≤ p.weight k ∧ p.weight k ≤ 64
  gap : ∀ l, slot p.gap l ≤ 15
  keepalive : 4 ≤ p.keepalive ∧ p.keepalive ≤ 1023
  budgetThreshold : 64 ≤ p.budgetThreshold ∧ p.budgetThreshold ≤ 65535
  holdOff : 100 ≤ p.holdOff ∧ p.holdOff ≤ 10000
  retrainLimit : p.retrainLimit ≤ 15
  epochPeriod : 10 ≤ p.epochPeriod ∧ p.epochPeriod ≤ 1000
  flowstHoldOff : p.flowstHoldOff ≤ 255
  refresh : 1 ≤ p.refresh ∧ p.refresh ≤ 255
  poolLow : p.poolLow ≤ 16383
  attnHoldOff : 10 ≤ p.attnHoldOff ∧ p.attnHoldOff ≤ 10000
  scrubStep : p.scrubStep ≤ 1000

theorem inRange_iff (p : Params) : p.inRange ↔ Ranged p := by
  constructor
  · rintro ⟨classes, m, w, monitorStep, weight, gap, keepalive, budget, holdOff, retrain, epoch, flowst, refresh, poolLow, attn, scrub⟩
    refine ⟨fun k => ?_, fun k => ?_, fun k => ?_, fun k => ?_, fun k => ?_, fun k => ?_, fun k => ?_, m, w, monitorStep, weight, gap, keepalive,
      budget, holdOff, retrain, epoch, flowst, refresh, poolLow, attn, scrub⟩
    all_goals obtain ⟨limit, floor, xoff, xon, pause, mark, markHigh⟩ := classes k
    all_goals assumption
  · intro h
    exact ⟨fun k => ⟨h.limit k, h.floor k, h.xoff k, h.xon k, h.pause k, h.mark k, h.markHigh k⟩, h.m, h.w, h.monitorStep, h.weight, h.gap,
      h.keepalive, h.budgetThreshold, h.holdOff, h.retrainLimit, h.epochPeriod, h.flowstHoldOff, h.refresh, h.poolLow, h.attnHoldOff, h.scrubStep⟩

theorem clamp_range {lo hi : Nat} (v : Nat) (h : lo ≤ hi := by decide) : lo ≤ clamp lo hi v ∧ clamp lo hi v ≤ hi := by
  unfold clamp
  omega

/-- A property of every element after one is replaced. -/
theorem forall_setSlot {α : Type} {n : Nat} {P : Fin n → α → Prop} {v : Vector α n} {i : Fin n} {x : α} (h : ∀ k, P k (slot v k)) (hx : P i x)
    (k : Fin n) : P k (slot (setSlot v i x) k) := by
  rw [slot_setSlot]
  split
  · next e => exact e ▸ hx
  · exact h k

/-- R154: a value stored is clamped into its range and has passed the pair test. -/
theorem store_ranged {p q : Params} {id : Param} {r : Payload} (h : Ranged p) (stored : p.store id r = some q) : Ranged q := by
  cases id with
  | limit c =>
    obtain ⟨-, stored⟩ := Option.ite_none_left_eq_some.1 stored
    cases stored
    exact { h with limit := forall_setSlot (P := fun _ x => 1 ≤ x ∧ x ≤ 4095) h.limit (clamp_range _) }
  | floor c =>
    cases stored
    exact { h with floor := forall_setSlot (P := fun _ x => x ≤ 16383) h.floor (clamp_range _).2 }
  | xoff c =>
    obtain ⟨pair, stored⟩ := Option.ite_none_left_eq_some.1 stored
    cases stored
    exact { h with
      xoff := forall_setSlot (P := fun _ x => 1 ≤ x ∧ x ≤ 4095) h.xoff (clamp_range _)
      pause := forall_setSlot (P := fun k x => slot p.xon k < x) h.pause (not_le.1 pair) }
  | xon c =>
    obtain ⟨pair, stored⟩ := Option.ite_none_left_eq_some.1 stored
    cases stored
    exact { h with
      xon := forall_setSlot (P := fun _ x => x ≤ 4094) h.xon (clamp_range _).2
      pause := forall_setSlot (P := fun k x => x < slot p.xoff k) h.pause (not_le.1 pair) }
  | markLow c =>
    obtain ⟨pair, stored⟩ := Option.ite_none_left_eq_some.1 stored
    cases stored
    exact { h with mark := forall_setSlot (P := fun k x => x ≤ slot p.markHigh k) h.mark (not_lt.1 pair) }
  | markHigh c =>
    obtain ⟨pair, stored⟩ := Option.ite_none_left_eq_some.1 stored
    cases stored
    exact { h with
      mark := forall_setSlot (P := fun k x => slot p.markLow k ≤ x) h.mark (not_lt.1 pair)
      markHigh := forall_setSlot (P := fun _ x => x ≤ 65520) h.markHigh (clamp_range _).2 }
  | m => cases stored; exact { h with m := (clamp_range _).2 }
  | w => cases stored; exact { h with w := clamp_range _ }
  | monitorStep => cases stored; exact { h with monitorStep := clamp_range _ }
  | weight k =>
    cases k <;> cases stored
    · exact { h with weight := fun | .one => clamp_range _ | .two => h.weight .two | .three => h.weight .three }
    · exact { h with weight := fun | .one => h.weight .one | .two => clamp_range _ | .three => h.weight .three }
    · exact { h with weight := fun | .one => h.weight .one | .two => h.weight .two | .three => clamp_range _ }
  | gap l => cases stored; exact { h with gap := forall_setSlot (P := fun _ x => x ≤ 15) h.gap (clamp_range _).2 }
  | keepalive => cases stored; exact { h with keepalive := clamp_range _ }
  | budgetThreshold => cases stored; exact { h with budgetThreshold := clamp_range _ }
  | holdOff => cases stored; exact { h with holdOff := clamp_range _ }
  | retrainLimit => cases stored; exact { h with retrainLimit := (clamp_range _).2 }
  | epochPeriod => cases stored; exact { h with epochPeriod := clamp_range _ }
  | timingLink =>
    simp only [Params.store] at stored
    split at stored
    · cases stored; exact { h with }
    · obtain ⟨-, stored⟩ := Option.ite_none_right_eq_some.1 stored
      cases stored; exact { h with }
  | flowstHoldOff => cases stored; exact { h with flowstHoldOff := (clamp_range _).2 }
  | refresh => cases stored; exact { h with refresh := clamp_range _ }
  | recipients => cases stored; exact { h with }
  | poolLow => cases stored; exact { h with poolLow := (clamp_range _).2 }
  | attnMask => cases stored; exact { h with }
  | attnHoldOff => cases stored; exact { h with attnHoldOff := clamp_range _ }
  | scrubStep => cases stored; exact { h with scrubStep := (clamp_range _).2 }

/-- The threshold of the latch changes only by a write of its own parameter. -/
theorem store_poolLow {p q : Params} {id : Param} {r : Payload} (other : id ≠ .poolLow) (stored : p.store id r = some q) : q.poolLow = p.poolLow := by
  cases id with
  | poolLow => exact absurd rfl other
  | limit | xoff | xon | markLow | markHigh =>
    obtain ⟨-, stored⟩ := Option.ite_none_left_eq_some.1 stored
    cases stored; rfl
  | timingLink =>
    simp only [Params.store] at stored
    split at stored
    · cases stored; rfl
    · obtain ⟨-, stored⟩ := Option.ite_none_right_eq_some.1 stored
      cases stored; rfl
  | weight k => cases k <;> cases stored <;> rfl
  | _ => cases stored; rfl

theorem Traffic.inRange {s t : State} (h : Traffic s t) (ranged : s.params.inRange) : t.params.inRange := by
  induction h with
  | still h => rwa [h.params]
  | trans _ _ first second => exact second (first ranged)
  | visit | drop | flush | startTest => exact ranged
  | store => rwa [storeCell_params]
  | select _ h => rwa [selectFrom_params _ _ _ _ h]
  | test => rwa [memtestStep_params]
  | abort => rwa [abortOp_params]
  | setParameter stored =>
    rw [afterWrite_params]
    exact (inRange_iff _).2 (store_ranged ((inRange_iff _).1 ranged) stored)

/-! ### Selections -/

/-- R93: from `s` to `t` the head entry `e` leaves queue `q`, `rest` staying behind it, and its cell is in flight on the queue's link; nothing else
of the data path changes. -/
structure Selects (s t : State) (q : QueueId) (e : QueueEntry) (rest : List QueueEntry) : Prop where
  head : (s.queue q).entries = e :: rest
  entries : (t.queue q).entries = rest
  average : (t.queue q).average = (s.queue q).average
  markCount : (t.queue q).markCount = (markDecision s.params.m (s.queue q).level (s.queue q).markCount).2
  others : ∀ k, k ≠ q → t.queue k = s.queue k
  inFlight : (t.link (queueLink q)).inFlight = some e.handle
  otherLinks : ∀ l, l ≠ queueLink q → t.link l = s.link l

theorem selectFrom_selects {s t : State} {l : Link} {c : Sys2Proof.Class} (h : s.selectFrom l c = .next t) :
    ∃ e rest, Selects s t (queueId l c) e rest := by
  unfold State.selectFrom at h
  split at h
  · cases h
  · next e rest head =>
    split at h
    · cases h
    · obtain rfl := next_inj h
      refine ⟨e, rest, head, ?_, ?_, ?_, fun k other => ?_, ?_, fun k other => ?_⟩
      · rw [modLink_queue, queue_setQueue_same]
      · rw [modLink_queue, queue_setQueue_same]
      · rw [modLink_queue, queue_setQueue_same]
      · rw [modLink_queue, queue_setQueue_ne _ _ _ _ other.symm]
      · rw [queueLink_queueId, link_modLink_same]
      · rw [queueLink_queueId] at other
        rw [link_modLink_ne _ _ _ _ other.symm, setQueue_link]

/-! ### Queues -/

/-- The laws of one queue (R71, R73, R81, R103). -/
def QueueLawful (c : Sys2Proof.Class) (out : OutQueue) : Prop :=
  out.entries.length ≤ 4095 ∧ (∀ e ∈ out.entries, e.copyClass = c) ∧ out.average ≤ 65520 ∧ out.markCount ≤ 127

/-- A rounded quotient is never further from 0 than what is divided, to the right of 0. -/
theorem roundedQuotient_le (d : Int) (w : Nat) : roundedQuotient d w ≤ max d 0 := by
  have unit : (0 : Int) < 2 ^ w := by positivity
  have split := Int.mul_ediv_add_emod d (2 ^ w)
  have low := Int.emod_nonneg d unit.ne'
  unfold roundedQuotient
  dsimp only
  generalize (2 : Int) ^ w = u at *
  by_cases negative : d < 0
  · have := Int.ediv_neg_of_neg_of_pos negative unit
    split_ifs <;> omega
  · have quotient := Int.ediv_nonneg (not_lt.1 negative) unit.le
    have scaled : d / u ≤ u * (d / u) := le_mul_of_one_le_left quotient unit
    split_ifs <;> omega

/-- R103: the average never leaves 0..65520 while the depth is at most 4095. -/
theorem nextAverage_le {average depth : Nat} (w : Nat) (ha : average ≤ 65520) (hd : depth ≤ 4095) : nextAverage average depth w ≤ 65520 := by
  have step := roundedQuotient_le (16 * (depth : Int) - (average : Int)) w
  unfold nextAverage
  omega

/-- R94, R81: the mark counter stays below 2^m, or as it is. -/
theorem markDecision_le {m count : Nat} (level : MarkLevel) (hm : m ≤ 7) (hc : count ≤ 127) : (markDecision m level count).2 ≤ 127 := by
  have power : 2 ^ m ≤ 2 ^ 7 := Nat.pow_le_pow_right (by decide) hm
  cases level with
  | none => exact Nat.zero_le _
  | full => exact hc
  | part =>
    unfold markDecision
    dsimp only
    split
    · exact Nat.zero_le _
    · next below => show count + 1 ≤ 127; omega

theorem QueueStill.lawful {p q : OutQueue} {c : Sys2Proof.Class} (h : QueueStill p q) (lawful : QueueLawful c p) : QueueLawful c q := by
  obtain ⟨entries, average, markCount⟩ := h
  unfold QueueLawful
  rw [entries, average, markCount]
  exact lawful

theorem visited_lawful {out : OutQueue} {c k : Sys2Proof.Class} (p : Params) (lawful : QueueLawful c out) : QueueLawful c (out.visited p k) := by
  obtain ⟨length, classes, average, markCount⟩ := lawful
  refine ⟨length, classes, nextAverage_le _ average length, ?_⟩
  unfold OutQueue.visited
  dsimp only
  split
  · exact Nat.zero_le _
  · exact markCount

theorem appended_lawful {out : OutQueue} {e : QueueEntry} {c : Sys2Proof.Class} (lawful : QueueLawful c out) (room : out.entries.length < 4095)
    (same : e.copyClass = c) : QueueLawful c (appended out e) := by
  obtain ⟨-, classes, average, markCount⟩ := lawful
  refine ⟨by simpa [appended] using room, fun x hx => ?_, average, markCount⟩
  obtain old | new := List.mem_append.1 hx
  · exact classes x old
  · rw [List.mem_singleton.1 new]
    exact same

theorem storeCell_queue {s : State} {cell : Cell} {cc : Sys2Proof.Class} {members : List Link} {h : Handle} {rest : List Handle}
    (free : s.pool.free = h :: rest) (nodup : members.Nodup) (q : QueueId) : (s.storeCell cell cc members).queue q =
      if queueLink q ∈ members ∧ queueClass q = cc then appended (s.queue q) ⟨h, cc, cellMark cell⟩ else s.queue q := by
  rw [storeCell_eq free, foldl_enqueue_queue cc _ members nodup, allocated_queue]

theorem storeCell_queuesLawful {s : State} {cell : Cell} {cc : Sys2Proof.Class} {members : List Link} (ranged : s.params.inRange)
    (lawful : s.queuesLawful) (some : s.pool.free ≠ []) (nodup : members.Nodup) (room : ∀ l ∈ members, s.limitPasses l cc = true) :
    (s.storeCell cell cc members).queuesLawful := by
  intro q
  obtain ⟨h, rest, free⟩ := List.exists_cons_of_ne_nil some
  rw [storeCell_queue free nodup]
  split
  · next named =>
    obtain ⟨member, rfl⟩ := named
    have below := of_decide_eq_true (room _ member)
    rw [queueId_link_class] at below
    exact appended_lawful (lawful q) (below.trans_le (((inRange_iff _).1 ranged).limit _).2) rfl
  · exact lawful q

theorem Selects.queuesLawful {s t : State} {q : QueueId} {e : QueueEntry} {rest : List QueueEntry} (h : Selects s t q e rest)
    (ranged : s.params.inRange) (lawful : s.queuesLawful) : t.queuesLawful := by
  intro k
  by_cases same : k = q
  · subst same
    obtain ⟨length, classes, average, markCount⟩ := lawful k
    rw [h.head] at length classes
    rw [h.entries, h.average, h.markCount]
    exact ⟨Nat.le_of_succ_le length, fun x hx => classes x (.tail _ hx), average, markDecision_le _ ((inRange_iff _).1 ranged).m markCount⟩
  · rw [h.others k same]
    exact lawful k

/-- Queues that are equal are lawful alike. -/
theorem queuesLawful_congr {s t : State} (h : t.queues = s.queues) (lawful : s.queuesLawful) : t.queuesLawful := fun q => by
  rw [queue_congr h]
  exact lawful q

theorem Traffic.queuesLawful {s t : State} (h : Traffic s t) (ranged : s.params.inRange) (lawful : s.queuesLawful) : t.queuesLawful := by
  induction h with
  | still h => exact fun q => (h.queues q).lawful (lawful q)
  | trans h _ first second => exact second (h.inRange ranged) (first ranged lawful)
  | visit s q =>
    intro k
    rw [queue_setQueue]
    split
    · next e => exact e ▸ visited_lawful s.params (lawful q)
    · exact lawful k
  | store _ free _ nodup room => exact storeCell_queuesLawful ranged lawful free nodup room
  | select _ h =>
    obtain ⟨e, rest, selects⟩ := selectFrom_selects h
    exact selects.queuesLawful ranged lawful
  | flush s q =>
    intro k
    rw [flushQueue_queue]
    split
    · exact ⟨Nat.zero_le _, by simp [OutQueue.flushed], Nat.zero_le _, Nat.zero_le _⟩
    · exact lawful k
  | drop | startTest => exact lawful
  | test s passes => exact queuesLawful_congr (memtestStep_queues s passes) lawful
  | abort s => exact queuesLawful_congr (abortOp_queues s) lawful
  | setParameter => exact queuesLawful_congr (afterWrite_queues _ _) lawful

/-- Settles O8: every basic move keeps the laws of the queues, the store by the limit test (R52), the visit by the bound of the average (R103), the
selection by the bound of the mark counter (R94). -/
theorem queuesStayLawful : Obligations.QueuesStayLawful := fun _ _ lawful h =>
  (step_keeps (law := fun s => s.params.inRange ∧ s.queuesLawful) (fun straps => ⟨default_inRange, powerOn_queuesLawful straps⟩)
    (fun move ⟨ranged, queues⟩ => ⟨move.inRange ranged, move.queuesLawful ranged queues⟩) lawful h).2

/-! ### Only Set Parameter writes a parameter -/

/-- What a command other than Set Parameter and the edges of RST_N does to the parameters. -/
theorem exec_params {i : Instr} {s t : State} (notReset : i.isReset = false) (notSet : i ≠ .setParameter) (h : exec i s = .next t) :
    t.params = s.params := by
  cases moves : movesCells i with
  | false => exact (exec_still moves h).params
  | true =>
    cases i with
    | rstNRise | rstNFall => cases notReset
    | setParameter => exact absurd rfl notSet
    | cellArrival l cell =>
      obtain still | ⟨u, cause, before, -, -, -, rfl⟩ := execCellArrival_arrivalEnds h
      · exact still.params
      · rw [enterFaulted_params, before.params]
    | nextCellEvent l =>
      change execNextCellEvent l s = .next t at h
      unfold execNextCellEvent at h
      split at h
      · exact nextCell_params s t l h
      · rw [← next_inj h]
    | trainingWindowExpiry l | keepaliveExpiry l | admission | monitorStep | memtestStep passes =>
      obtain rfl := next_inj h
      split <;> simp
    | startMemoryTest | flush | retrain | datapathReset =>
      obtain rfl := next_inj h
      exact serve_params s _ _ (by simp)
    | _ => cases moves

/-- Settles O7: a store clamps and tests (R154), and every other command keeps the parameters. -/
theorem parametersStayInRange : Obligations.ParametersStayInRange :=
  ⟨fun _ _ ranged h => step_keeps (law := fun s => s.params.inRange) (fun _ => default_inRange) (fun move => move.inRange) ranged h,
    fun _ _ _ notReset notSet h => exec_params notReset notSet h⟩

/-! ### The pool-low latch -/

theorem releases_latch {p : Pool} {threshold : Nat} (hs : List Handle) (lawful : p.latch = decide (p.free.length < threshold)) :
    (hs.foldl (fun p h => p.release threshold h) p).latch =
      decide ((hs.foldl (fun p h => p.release threshold h) p).free.length < threshold) := by
  induction hs generalizing p with
  | nil => exact lawful
  | cons h hs ih => exact ih (release_latch h lawful)

/-- The latch reads the free count and the threshold. -/
theorem latchLawful_congr {s t : State} (pool : t.pool = s.pool) (poolLow : t.params.poolLow = s.params.poolLow) (h : s.latchLawful) :
    t.latchLawful := by
  unfold State.latchLawful
  rw [pool, poolLow]
  exact h

end Sys2Proof.DataPath
end

section
/-! PROOFS. The pool in a memory test (R70, R166, R167), and the pool-low latch at every move (R68). -/

namespace Sys2Proof.DataPath

open Sys2Proof.Machine Sys2Proof.Laws Sys2Proof.LinkPorts Sys2Proof.ForwardingTables

/-! ### Verdicts -/

theorem verdict_fields (p : Pool) (n : Handle) (passes : Bool) : (p.verdict n passes).buffers = Memory.write none p.buffers n none ∧
    (p.verdict n passes).refs = p.refs ∧ (p.verdict n passes).free = p.free ∧ (p.verdict n passes).latch = p.latch := by
  unfold Pool.verdict
  dsimp only
  (repeat' split) <;> exact ⟨rfl, rfl, rfl, rfl⟩

/-- R70 steps 2 and 3: a handle is retired by its verdict alone. -/
theorem mem_verdict_retired {p : Pool} {n h : Handle} {passes : Bool} :
    h ∈ (p.verdict n passes).retired ↔ if h = n then passes = false else h ∈ p.retired := by
  unfold Pool.verdict
  cases passes with
  | false =>
    show h ∈ HandleSet.insert n p.retired ↔ _
    rw [mem_insert]
    by_cases same : h = n <;> simp [same]
  | true =>
    by_cases same : h = n
    · subst same
      by_cases old : h ∈ p.retired <;> simp [old, mem_remove]
    · by_cases old : n ∈ p.retired <;> simp [old, mem_remove, same]

/-- R70 steps 2 and 3: a handle that passes is under test, also one that was retired; one that fails is not. -/
theorem mem_verdict_underTest {p : Pool} {n h : Handle} {passes : Bool} : h ∈ (p.verdict n passes).underTest ↔
    if h = n then (if passes = true then h ∈ p.underTest ∨ h ∈ p.retired else False) else h ∈ p.underTest := by
  unfold Pool.verdict
  cases passes with
  | false =>
    show h ∈ HandleSet.remove n p.underTest ↔ _
    rw [mem_remove]
    by_cases same : h = n <;> simp [same]
  | true =>
    by_cases same : h = n
    · subst same
      by_cases old : h ∈ p.retired <;> simp [old, mem_insert]
    · by_cases old : n ∈ p.retired <;> simp [old, mem_insert, same]

theorem verdict_ascending {p : Pool} {n : Handle} {passes : Bool} (retired : p.retired.Pairwise (· < ·)) (underTest : p.underTest.Pairwise (· < ·)) :
    (p.verdict n passes).retired.Pairwise (· < ·) ∧ (p.verdict n passes).underTest.Pairwise (· < ·) := by
  unfold Pool.verdict
  dsimp only
  split
  · split
    · exact ⟨remove_ascending retired, insert_ascending underTest⟩
    · exact ⟨retired, underTest⟩
  · exact ⟨insert_ascending retired, remove_ascending underTest⟩

/-- The pool after a memory test step: the verdict and, after the last one, the free list rebuilt (R166, R167). -/
def testedPool (p : Pool) (threshold n : Nat) (passes : Bool) : Pool :=
  if n + 1 < 16384 then p.verdict n passes else (p.verdict n passes).rebuild threshold

theorem memtestStep_running {s : State} {n tested failed : Nat} {first retired : Option Nat} (passes : Bool)
    (h : s.op = some ⟨.running, n, .memtest tested failed first retired⟩) :
    s.memtestStep passes = stepOp { s with pool := testedPool s.pool s.params.poolLow n passes } (decide (n + 1 < 16384)) (n + 1)
      (.memtest (tested + 1) (if passes = true then failed else failed + 1) (if passes = true then first else some (first.getD n))
        (if n + 1 < 16384 then none else some (s.pool.verdict n passes).retired.length)) := by
  unfold State.memtestStep testedPool
  rw [h, ← stepOp_decide]
  by_cases more : n + 1 < 16384
  · simp only [if_pos more]
    exact if_pos more
  · simp only [if_neg more]
    exact if_neg more

theorem memtestStep_pool {s : State} {n tested failed : Nat} {first retired : Option Nat} (passes : Bool)
    (h : s.op = some ⟨.running, n, .memtest tested failed first retired⟩) :
    (s.memtestStep passes).pool = testedPool s.pool s.params.poolLow n passes := by
  rw [memtestStep_running passes h, stepOp_pool]

theorem testedPool_more {p : Pool} {threshold n : Nat} {passes : Bool} (more : n + 1 < 16384) :
    testedPool p threshold n passes = p.verdict n passes := if_pos more
theorem testedPool_last {p : Pool} {threshold n : Nat} {passes : Bool} (last : 16384 ≤ n + 1) :
    testedPool p threshold n passes = (p.verdict n passes).rebuild threshold := if_neg (not_lt.2 last)

/-- What the rebuilding of the free list leaves alone. -/
theorem testedPool_kept (p : Pool) (threshold n : Nat) (passes : Bool) : (testedPool p threshold n passes).buffers = Memory.write none p.buffers n none ∧
    (testedPool p threshold n passes).refs = p.refs ∧ (testedPool p threshold n passes).retired = (p.verdict n passes).retired := by
  obtain ⟨buffers, refs, -, -⟩ := verdict_fields p n passes
  unfold testedPool
  split
  · exact ⟨buffers, refs, rfl⟩
  · exact ⟨buffers, refs, rfl⟩

theorem testedPool_stored {p : Pool} (threshold n : Nat) (passes : Bool) (wf : Memory.wf none p.buffers = true) (h : Handle) :
    (testedPool p threshold n passes).stored h = if n = h then none else p.stored h := by
  unfold Pool.stored
  rw [(testedPool_kept p threshold n passes).1]
  exact read_write n h none wf

/-- Settles O44: a step is the verdict on one handle, and the rebuilding after the last, followed by `stepOp`. -/
theorem memoryTestSteps : Obligations.MemoryTestSteps := by
  intro s passes n tested failed first retiredAtEnd hr wf running
  obtain ⟨-, buffers, -, retiredAsc, underTest⟩ := wf
  obtain ⟨-, refs, retired⟩ := testedPool_kept s.pool s.params.poolLow n passes
  have pool := memtestStep_pool passes running
  have stored := testedPool_stored s.params.poolLow n passes buffers
  have frame := stepOp_stepped { s with pool := testedPool s.pool s.params.poolLow n passes } (decide (n + 1 < 16384)) (n + 1)
    (.memtest (tested + 1) (if passes = true then failed else failed + 1) (if passes = true then first else some (first.getD n))
      (if n + 1 < 16384 then none else some (s.pool.verdict n passes).retired.length))
  rw [← memtestStep_running passes running] at frame
  refine ⟨s.memtestStep passes, congrArg _ (if_pos hr), fun h => ?_, ⟨fun more => ?_, fun last => ?_⟩, ?_, fun h other => ?_, ?_, ?_, ?_, frame⟩
  · rw [pool, retired, mem_verdict_retired]
  · obtain ⟨-, -, free, latch⟩ := verdict_fields s.pool n passes
    rw [pool, testedPool_more more]
    exact ⟨fun h => mem_verdict_underTest, free, latch⟩
  · rw [pool, testedPool_last last]
    exact ⟨rfl, fun h => mem_verdict_underTest, (verdict_ascending retiredAsc underTest).2, rfl⟩
  · rw [pool, stored, if_pos rfl]
  · rw [pool, stored, if_neg (Ne.symm other)]
  · rw [pool, refs]
  · rw [memtestStep_tables]
  · rw [memtestStep_op passes running, pool, retired]
    unfold stateAfter
    simp only [decide_eq_true_eq]

/-! ### Aborts -/

/-- R168: the abort of a memory test rebuilds the free list; every other abort leaves the pool. -/
theorem abortOp_pool (s : State) : s.abortOp.pool = if s.memtestRunning = true then s.pool.rebuild s.params.poolLow else s.pool := by
  unfold State.abortOp
  split
  · next running => rw [raise_pool, if_pos (by simp [memtestRunning_eq, running, isMemtest])]
  · next notMemtest running =>
    rw [raise_pool, if_neg]
    intro test
    obtain ⟨n, tested, failed, first, retired, record⟩ := memtestRunning_true test
    rw [running] at record
    cases record
    exact notMemtest _ _ _ _ rfl
  · next idle =>
    rw [if_neg]
    intro test
    obtain ⟨n, tested, failed, first, retired, record⟩ := memtestRunning_true test
    exact idle _ _ record

/-- After an abort nothing runs. -/
theorem abortOp_opRunning (s : State) : s.abortOp.opRunning = false := by
  unfold State.abortOp State.opRunning
  split
  · simp [raise_op]
  · simp [raise_op]
  · next idle =>
    rw [Option.any_eq_false]
    rintro ⟨st, n, w⟩ record
    exact decide_eq_false fun running => idle n w (running ▸ record)

/-! ### The latch -/

/-- R74: a flush releases the handle of each entry, head first. -/
theorem flushQueue_pool (s : State) (q : QueueId) : (s.flushQueue q).pool = s.poolReleasing ((s.queue q).entries.map QueueEntry.handle) :=
  List.foldl_map.symm

theorem afterWrite_pool (s : State) {p : Param} (other : p ≠ .poolLow) : (s.afterWrite p).pool = s.pool := by
  cases p with
  | poolLow => exact absurd rfl other
  | _ => rfl

theorem Traffic.latchLawful {s t : State} (h : Traffic s t) (lawful : s.latchLawful) : t.latchLawful := by
  induction h with
  | still h => exact latchLawful_congr h.pool (congrArg _ h.params) lawful
  | trans _ _ first second => exact second (first lawful)
  | visit => exact lawful
  | select _ h =>
    exact latchLawful_congr (selectFrom_pool _ _ _ _ h) (congrArg _ (selectFrom_params _ _ _ _ h)) lawful
  | @store s cell cc members _ some =>
    obtain ⟨h, rest, free⟩ := List.exists_cons_of_ne_nil some
    unfold State.latchLawful
    rw [storeCell_params, storeCell_eq free, foldl_enqueue_pool, allocated_pool]
    rfl
  | drop => exact release_latch _ lawful
  | flush s q =>
    unfold State.latchLawful
    rw [flushQueue_pool]
    exact releases_latch _ lawful
  | startTest => rfl
  | test s passes =>
    obtain idle | ⟨n, tested, failed, first, retired, running⟩ := memtestStep_cases s passes
    · rwa [idle]
    · obtain ⟨-, -, free, latch⟩ := verdict_fields s.pool n passes
      unfold State.latchLawful
      rw [memtestStep_params, memtestStep_pool passes running]
      unfold testedPool
      split
      · rw [free, latch]
        exact lawful
      · rfl
  | abort s =>
    unfold State.latchLawful
    rw [abortOp_params, abortOp_pool]
    split
    · rfl
    · exact lawful
  | @setParameter s p r params stored =>
    by_cases written : p = .poolLow
    · subst written
      rfl
    · exact latchLawful_congr (s := s) (afterWrite_pool _ written) ((congrArg _ (afterWrite_params _ p)).trans (store_poolLow written stored)) lawful

end Sys2Proof.DataPath
end

section
/-! PROOFS. What the records' laws read: the permitted set and the request queue (R134 to R137), the refresh countdown (R114), the miss record
(R181). -/

namespace Sys2Proof.DataPath

open Sys2Proof.Machine Sys2Proof.Laws Sys2Proof.LinkPorts Sys2Proof.ForwardingTables

/-! ### Events that leave the records alone -/

/-- From `s` to `t` the permitted set, the refresh countdown and the miss record stay, and no request comes. -/
structure RecordsStill (s t : State) : Prop where
  permitted : t.agent.permitted = s.agent.permitted
  queue : t.agent.queue.length ≤ s.agent.queue.length
  refresh : t.flow.refresh = s.flow.refresh
  miss : t.attn.miss = s.attn.miss

theorem RecordsStill.refl (s : State) : RecordsStill s s := ⟨rfl, le_rfl, rfl, rfl⟩
theorem RecordsStill.trans {s t u : State} (h : RecordsStill s t) (k : RecordsStill t u) : RecordsStill s u :=
  ⟨k.permitted.trans h.permitted, k.queue.trans h.queue, k.refresh.trans h.refresh, k.miss.trans h.miss⟩
theorem RecordsStill.of_eq {s t : State} (agent : t.agent = s.agent := by simp) (flow : t.flow = s.flow := by simp)
    (miss : t.attn.miss = s.attn.miss := by simp) : RecordsStill s t :=
  ⟨congrArg Agent.permitted agent, (congrArg (fun a => a.queue.length) agent).le, congrArg FlowUnit.refresh flow, miss⟩
theorem RecordsStill.of_rest {s t : State} (rest : s.restKept t) (records : s.recordsKept t) (flow : t.flow.refresh = s.flow.refresh) :
    RecordsStill s t := by
  obtain ⟨-, -, -, -, -, -, -, -, -, -, queue, permitted⟩ := rest
  exact ⟨permitted, (congrArg List.length queue).le, flow, records.1⟩

theorem RecordsStill.lawful {s t : State} (h : RecordsStill s t) (lawful : s.recordsLawful) : t.recordsLawful := by
  obtain ⟨permitted, queue, refresh, miss⟩ := lawful
  exact ⟨h.permitted ▸ permitted, h.queue.trans queue, h.refresh ▸ refresh, h.miss ▸ miss⟩

theorem reportPause_refresh (s : State) : s.reportPause.flow.refresh = s.flow.refresh := by
  unfold State.reportPause
  split
  · rfl
  · split
    · rw [oweFlowst_flow]
    · rfl
theorem reportPause_recordsStill (s : State) : RecordsStill s s.reportPause :=
  ⟨by simp, by simp, reportPause_refresh s, by simp⟩
theorem flushQueues_refresh (s : State) (qs : List QueueId) : (s.flushQueues qs).flow.refresh = s.flow.refresh := by
  unfold State.flushQueues
  dsimp only
  split
  · rw [reportPause_refresh, foldl_flushQueue_flow]
  · rw [foldl_flushQueue_flow]
theorem flushQueues_recordsStill (s : State) (qs : List QueueId) : RecordsStill s (s.flushQueues qs) :=
  ⟨by simp, by simp, flushQueues_refresh s qs, by simp⟩

theorem verify_recordsStill (s : State) (t : Table) (b : Bank) (i : Nat) : RecordsStill s (s.verify t b i).2 := by
  refine .of_eq (by simp) (by simp) ?_
  unfold State.verify
  dsimp only
  (repeat' split) <;> simp

theorem enterTraining_recordsStill (s : State) (l : Link) (old : LinkState) : RecordsStill s (s.enterTraining l old) := by
  obtain ⟨-, -, -, records, -⟩ := enterTraining_spec s l old
  exact .of_eq (by simp) (by simp) records.1
theorem enterUp_recordsStill (s : State) (l : Link) : RecordsStill s (s.enterUp l) := by
  obtain ⟨-, -, -, records, -⟩ := enterUp_spec s l
  exact .of_eq (by simp) (by simp) records.1
theorem enterDisabled_recordsStill (s : State) (l : Link) : RecordsStill s (s.enterDisabled l) := by
  obtain ⟨-, -, -, flow, -, -, -, -, records, rest⟩ := enterDisabled_spec s l
  exact .of_rest rest records (congrArg FlowUnit.refresh flow)
theorem enterFaulted_recordsStill (s : State) (l : Link) (cause : FaultCause) : RecordsStill s (s.enterFaulted l cause) := by
  obtain ⟨-, -, -, -, -, -, -, -, -, records, rest⟩ := enterFaulted_spec s l cause
  refine .of_rest rest records ?_
  rw [enterFaulted_eq, linkChange_flow, flushQueues_refresh]
  simp [faultedQuiet]
theorem retrainLink_recordsStill (s : State) (l : Link) : RecordsStill s (s.retrainLink l) := by
  obtain ⟨-, records, rest⟩ := retrainLink_kept s l
  refine .of_rest rest records ?_
  rw [retrainLink_eq, enterTraining_flow]
  unfold retrainFlushed
  rw [flushQueues_refresh, retrainQuiet_flow]

theorem endOp_recordsStill (s : State) (progress : Nat) (w : Work) : RecordsStill s (s.endOp progress w) :=
  .of_eq (by simp) (by simp) (by simp [State.endOp])
theorem stepOp_recordsStill (s : State) (goesOn : Bool) (progress : Nat) (w : Work) : RecordsStill s (stepOp s goesOn progress w) := by
  unfold stepOp
  split
  · exact .of_eq
  · exact endOp_recordsStill s progress w
theorem abortOp_recordsStill (s : State) : RecordsStill s s.abortOp := by
  refine .of_eq (by simp) (by simp) ?_
  unfold State.abortOp
  split
  · simp
  · simp
  · rfl

theorem fillStep_recordsStill (s : State) : RecordsStill s s.fillStep := by
  obtain idle | ⟨n, bank, e, first, last, written, running⟩ := fillStep_cases s
  · exact .of_eq (by simp) (by simp) (by rw [idle])
  · rw [fillStep_running running]
    exact .trans .of_eq (stepOp_recordsStill ..)
theorem copyStep_recordsStill (s : State) : RecordsStill s s.copyStep := by
  obtain idle | ⟨n, source, dest, written, asInitial, running⟩ := copyStep_cases s
  · exact .of_eq (by simp) (by simp) (by rw [idle])
  · rw [copyStep_at running]
    exact .trans .of_eq (stepOp_recordsStill ..)
theorem digestStep_recordsStill (s : State) : RecordsStill s s.digestStep := by
  obtain idle | ⟨n, tb, b, role, digested, register, value, running⟩ := digestStep_cases s
  · exact .of_eq (by simp) (by simp) (by rw [idle])
  · rw [digestStep_running running]
    exact stepOp_recordsStill ..
theorem memtestStep_recordsStill (s : State) (passes : Bool) : RecordsStill s (s.memtestStep passes) := by
  obtain idle | ⟨n, tested, failed, first, retired, running⟩ := memtestStep_cases s passes
  · exact .of_eq (by simp) (by simp) (by rw [idle])
  · rw [memtestStep_running passes running]
    exact .trans .of_eq (stepOp_recordsStill ..)

theorem attentionExpiry_recordsStill (s : State) : RecordsStill s s.attentionExpiry := by
  refine .of_eq (by simp) (by simp) ?_
  unfold State.attentionExpiry
  split <;> rfl

/-! ### Events that keep the laws of the records -/

/-- From `s` to `t` the laws of the records are kept, the parameters being in their ranges. -/
def RecordsKept (s t : State) : Prop := s.params.inRange → s.recordsLawful → t.recordsLawful

theorem RecordsStill.kept {s t : State} (h : RecordsStill s t) : RecordsKept s t := fun _ lawful => h.lawful lawful
theorem RecordsKept.of_eq {s t : State} (agent : t.agent = s.agent := by simp) (flow : t.flow = s.flow := by simp)
    (miss : t.attn.miss = s.attn.miss := by simp) : RecordsKept s t := (RecordsStill.of_eq agent flow miss).kept
theorem RecordsKept.refl (s : State) : RecordsKept s s := .of_eq
theorem RecordsKept.after {s t u : State} (k : RecordsKept t u) (h : RecordsStill s t) (params : t.params = s.params := by simp) : RecordsKept s u :=
  fun ranged lawful => k (params ▸ ranged) (h.lawful lawful)
theorem RecordsKept.afterPort {s t : State} {l : Link} {f : LinkPort → LinkPort} (k : RecordsKept (s.modLink l f) t) : RecordsKept s t := k.after .of_eq
theorem RecordsKept.ite {s t : State} {c : Prop} [Decidable c] (h : RecordsKept s t) : RecordsKept s (if c then t else s) := by
  split
  · exact h
  · exact fun _ lawful => lawful
theorem RecordsKept.of_next {s t u : State} (h : (Host.Outcome.next u : Host.Outcome State Fault Refusal) = .next t) (k : RecordsKept s u) :
    RecordsKept s t := next_inj h ▸ k

/-- R114: the countdown goes from 1 to the parameter, and down by 1 otherwise. -/
theorem tickRefresh_recordsKept (s : State) : RecordsKept s s.tickRefresh := by
  rintro ranged ⟨permitted, queue, refresh, miss⟩
  obtain ⟨countdown, -, -, attn⟩ := tickRefresh_facts s
  refine ⟨by rwa [tickRefresh_agent], by rwa [tickRefresh_agent], ?_, by rwa [attn]⟩
  split at countdown
  · rw [countdown]
    exact ((inRange_iff _).1 ranged).refresh
  · omega

theorem epochChange_recordsKept (s : State) : RecordsKept s s.epochChange := by
  unfold State.epochChange
  dsimp only
  split
  · intro ranged lawful
    refine (RecordsStill.of_eq (by simp) (by simp) ?_).lawful (tickRefresh_recordsKept s ranged lawful)
    simp [State.performSwap]
  · exact tickRefresh_recordsKept s

/-- R181: the record names a group that a cell asked for, and its count stays. -/
theorem offerMiss_recordsKept (s : State) {group : Nat} (l : Link) (hg : group ≤ 4095) : RecordsKept s (s.offerMiss group l) := by
  rintro - ⟨permitted, queue, refresh, miss⟩
  unfold State.offerMiss
  split
  · refine (RecordsStill.of_eq (raise_agent ..) (raise_flow ..) (raise_attn_miss ..)).lawful ⟨permitted, queue, refresh, ?_⟩
    rintro r ⟨⟩
    exact ⟨hg, Nat.zero_le _⟩
  · next r old =>
    refine ⟨permitted, queue, refresh, ?_⟩
    rintro r' ⟨⟩
    exact ⟨(miss r old).1, Nat.min_le_left _ _⟩

/-! ### Arrivals -/

theorem badCell_recordsStill (s : State) (l : Link) : RecordsStill s (s.badCell l) := by
  have charged : ∀ f, RecordsStill s (s.modLink l f) := fun _ => .of_eq
  unfold State.badCell
  dsimp only
  split
  · exact (charged _).trans (enterFaulted_recordsStill _ l _)
  · exact charged _

theorem train_recordsStill (s : State) (l : Link) (kind : CellKind) : RecordsStill s (s.train l kind) := by
  have counted : ∀ f, RecordsStill s (s.modLink l f) := fun _ => .of_eq
  unfold State.train
  dsimp only
  split
  · split
    · exact (counted _).trans (enterUp_recordsStill _ l)
    · exact counted _
  · exact counted _

/-- R134: a request is queued only where fewer than 8 are. -/
theorem arriveRequest_recordsKept (s : State) (l : Link) (cell : Cell) : RecordsKept s (s.arriveRequest l cell) := by
  unfold State.arriveRequest
  split
  · exact .of_eq
  · split
    · exact .of_eq
    · next room =>
      rintro - ⟨permitted, -, refresh, miss⟩
      refine ⟨permitted, ?_, refresh, miss⟩
      rw [List.length_append]
      exact not_le.1 room

theorem arriveSync_recordsKept (s : State) (l : Link) (n : Epoch) : RecordsKept s (s.arriveSync l n) := by
  unfold State.arriveSync
  dsimp only
  split
  · exact .of_eq
  · split
    · exact .of_eq
    · split
      · exact (epochChange_recordsKept _).after .of_eq
      · exact (epochChange_recordsKept _).after .of_eq

theorem receiveData_recordsStill (s : State) (l : Link) (cell : Cell) : RecordsStill s (s.receiveData l cell) := .of_eq

theorem deliver_recordsKept (s : State) (l : Link) (kind : CellKind) (cell : Cell) : RecordsKept s (s.deliver l kind cell) := by
  cases kind with
  | ucast | mcast => exact (receiveData_recordsStill s l cell).kept
  | mreq => exact arriveRequest_recordsKept s l cell
  | sync => exact arriveSync_recordsKept s l _
  | idle => exact .refl s
  | flowst | mrsp | attn => exact .of_eq (t := s.countGlobal _)

theorem arriveHeaderError_recordsStill (s : State) (l : Link) : RecordsStill s (s.arriveHeaderError l) := by
  have counted : ∀ f, RecordsStill s (s.countLink l f) := fun _ => .of_eq
  unfold State.arriveHeaderError
  dsimp only
  split
  · exact .of_eq
  · exact (counted _).trans (badCell_recordsStill _ l)
  · exact counted _
  · exact .refl s

theorem arriveGoodHeader_recordsKept (s : State) (l : Link) (kind : CellKind) (cell : Cell) : RecordsKept s (s.arriveGoodHeader l kind cell) := by
  cases state : (s.link l).state with
  | disabled => simpa only [State.arriveGoodHeader, state] using RecordsKept.refl s
  | training =>
    rw [arriveGoodHeader_training state]
    exact (train_recordsStill _ l kind).kept.afterPort
  | up =>
    rw [arriveGoodHeader_up state]
    split
    · unfold State.arriveGood
      exact (deliver_recordsKept _ l kind cell).afterPort.afterPort
    · exact (badCell_recordsStill _ l).kept.afterPort
  | faulted =>
    rw [arriveGoodHeader_faulted state]
    exact .of_eq (t := s.countLink l _)

theorem execCellArrival_recordsKept {s t : State} {l : Link} {cell : Cell} (h : execCellArrival l cell s = .next t) : RecordsKept s t := by
  refine .of_next h ?_
  split
  · exact .refl s
  · split
    · exact (arriveHeaderError_recordsStill s l).kept
    · exact arriveGoodHeader_recordsKept s l _ cell

/-! ### Admission -/

theorem storeCell_recordsStill (s : State) (cell : Cell) (cc : Sys2Proof.Class) (members : List Link) : RecordsStill s (s.storeCell cell cc members) := by
  refine .of_eq (by simp) (by simp) ?_
  cases free : s.pool.free with
  | nil =>
    unfold State.storeCell State.allocate Pool.allocate
    rw [free]
  | cons h rest => exact (storeCell_records free).1

theorem admitUnicast_recordsStill (s : State) (ingress : Link) (cell : Cell) (l : Link) : RecordsStill s (s.admitUnicast ingress cell l) := by
  unfold State.admitUnicast
  dsimp only
  (repeat' split)
  · exact .of_eq
  · exact .of_eq
  · exact .of_eq
  · exact storeCell_recordsStill s cell _ _

theorem routeUnicast_recordsStill (s : State) (ingress : Link) (cell : Cell) (d : Link) : RecordsStill s (s.routeUnicast ingress cell d) := by
  have routed : RecordsStill s (s.routeLink d).2 := .of_eq
  unfold State.routeUnicast
  dsimp only
  (repeat' split)
  · exact routed.trans (admitUnicast_recordsStill _ ingress cell _)
  · exact .of_eq
  · exact .of_eq

theorem unicast_recordsStill (s : State) (ingress : Link) (cell : Cell) : RecordsStill s (s.unicast ingress cell) := by
  have read := verify_recordsStill s .destination s.tables.active (cellDest cell)
  unfold State.unicast
  dsimp only
  (repeat' split)
  · exact read.trans (routeUnicast_recordsStill _ ingress cell _)
  · exact read.trans .of_eq
  · exact .of_eq

theorem walkMembers_recordsStill (s : State) (ingress : Link) (cell : Cell) (g : GroupFields) (cc : Sys2Proof.Class) :
    RecordsStill s (s.walkMembers ingress cell g cc) := by
  unfold State.walkMembers
  dsimp only
  split
  · exact .of_eq
  · exact .trans .of_eq (storeCell_recordsStill _ cell cc _)

theorem cellDest_le (cell : Cell) : cellDest cell ≤ 4095 := Nat.le_of_lt_succ (BitVec.isLt _)

theorem multicast_recordsKept (s : State) (ingress : Link) (cell : Cell) : RecordsKept s (s.multicast ingress cell) := by
  have read := verify_recordsStill s .group s.tables.active (cellDest cell)
  unfold State.multicast
  dsimp only
  (repeat' split)
  · exact (read.trans .of_eq).kept
  · exact (read.trans (walkMembers_recordsStill _ ingress cell _ _)).kept
  · unfold State.groupMiss
    exact (offerMiss_recordsKept _ ingress (cellDest_le cell)).after (read.trans .of_eq)

theorem admission_recordsKept (s : State) : RecordsKept s s.admission := by
  unfold State.admission
  split
  · exact .refl s
  · next l _ =>
    split
    · exact .refl s
    · next cell rest _ =>
      suffices admitted : RecordsKept (s.taking l rest) ((s.taking l rest).admitCell l cell) from admitted.after (.of_eq rfl rfl rfl) rfl
      unfold State.admitCell
      (repeat' split)
      · exact .of_eq
      · exact (unicast_recordsStill _ l cell).kept
      · exact multicast_recordsKept _ l cell

/-! ### The next cell and the monitor -/

theorem placeHeld_recordsStill (s : State) (l : Link) : RecordsStill s (s.placeHeld l) := by
  unfold State.placeHeld
  (repeat' split)
  · exact .refl s
  · exact ⟨rfl, le_rfl, rfl, rfl⟩
  · exact .refl s

theorem chooseAfterAttn_recordsStill {s t : State} {l : Link} (h : s.chooseAfterAttn l = .next t) : RecordsStill s t :=
  .of_eq (chooseAfterAttn_agent s t l h) (chooseAfterAttn_flow s t l h) (congrArg _ (chooseAfterAttn_attn s t l h))

theorem chooseNext_recordsStill {s t : State} {l : Link} (h : s.chooseNext l = .next t) : RecordsStill s t := by
  have port : ∀ f, RecordsStill s (s.modLink l f) := fun _ => .of_eq
  unfold State.chooseNext at h
  (repeat' split at h)
  · obtain rfl := next_inj h
    exact ((port _).trans (placeHeld_recordsStill _ l)).trans (.of_eq rfl rfl rfl)
  · obtain rfl := next_inj h
    exact .of_eq rfl rfl rfl
  · exact (port _).trans (chooseAfterAttn_recordsStill h)
  · exact chooseAfterAttn_recordsStill h

theorem nextCell_recordsStill {s t : State} {l : Link} (h : s.nextCell l = .next t) : RecordsStill s t := by
  have ended : ∀ b, RecordsStill s (s.endData l b) := fun _ => .of_eq rfl rfl rfl
  unfold State.nextCell at h
  (repeat' split at h)
  · exact chooseNext_recordsStill h
  · obtain rfl := next_inj h
    exact (ended _).trans (enterDisabled_recordsStill _ l)
  · exact (ended _).trans (chooseNext_recordsStill h)

theorem monitorStep_recordsStill (s : State) : RecordsStill s s.monitorStep := by
  unfold State.monitorStep State.visit
  dsimp only
  (repeat' split)
  · exact .of_eq
  · exact .trans .of_eq (reportPause_recordsStill _)
  · exact .of_eq

/-! ### Requests -/

theorem place_recordsStill (s : State) (l : Link) (record : Payload) : RecordsStill s (s.place l record) := by
  unfold State.place
  (repeat' split)
  · exact .of_eq
  · exact .of_eq
  · exact ⟨rfl, le_rfl, rfl, rfl⟩

theorem serve_recordsKept (s : State) (row : RequestRow) (execute : Payload → State → Answer × State)
    (h : ∀ r u, RecordsKept u (execute r u).2) : RecordsKept s (s.serve row execute) := by
  obtain same | ⟨r, -, served⟩ := serve_cases s row execute
  · rw [same]
    exact .refl s
  · rw [served]
    intro ranged lawful
    have taken : RecordsStill s (dequeued s) := ⟨rfl, by simp [dequeued], rfl, rfl⟩
    exact (place_recordsStill _ _ _).lawful (h r.record (dequeued s) ranged (taken.lawful lawful))

/-- A request whose execution leaves the agent, the flow-status unit and the miss record alone. -/
theorem serve_recordsAside (s : State) (row : RequestRow) (execute : Payload → State → Answer × State)
    (agent : ∀ r u, (execute r u).2.agent = u.agent := by simp) (flow : ∀ r u, (execute r u).2.flow = u.flow := by simp)
    (miss : ∀ r u, (execute r u).2.attn.miss = u.attn.miss := by simp) : RecordsKept s (s.serve row execute) :=
  serve_recordsKept s row execute fun r u => .of_eq (agent r u) (flow r u) (miss r u)

theorem enableLink_recordsStill (s : State) (l : Link) : RecordsStill s (s.enableLink l) := by
  unfold State.enableLink
  split
  · exact enterTraining_recordsStill s l _
  · exact .trans .of_eq (enterTraining_recordsStill _ l _)
  · exact .refl s
  · exact .of_eq
theorem disableLink_recordsStill (s : State) (l : Link) : RecordsStill s (s.disableLink l) := by
  unfold State.disableLink
  (repeat' split)
  · exact .refl s
  · exact enterDisabled_recordsStill s l
  · exact enterDisabled_recordsStill s l
  · exact .of_eq
  · exact enterDisabled_recordsStill s l

theorem answerEnable_recordsStill (r : Payload) (s : State) : RecordsStill s (answerEnable r s).2 := by
  unfold answerEnable
  (repeat' split)
  · exact .refl s
  · exact .refl s
  · exact .refl s
  · exact enableLink_recordsStill s _
theorem answerDisable_recordsStill (r : Payload) (s : State) : RecordsStill s (answerDisable r s).2 := by
  unfold answerDisable
  split
  · exact .refl s
  · exact disableLink_recordsStill s _
theorem answerFlush_recordsStill (r : Payload) (s : State) : RecordsStill s (answerFlush r s).2 := by
  unfold answerFlush
  split
  · exact .refl s
  · exact flushQueues_recordsStill s _
theorem answerRetrain_recordsStill (r : Payload) (s : State) : RecordsStill s (answerRetrain r s).2 := by
  unfold answerRetrain
  (repeat' split)
  · exact .refl s
  · exact .refl s
  · exact retrainLink_recordsStill s _

theorem resetDatapath_recordsStill (s : State) : RecordsStill s s.resetDatapath := by
  unfold State.resetDatapath
  exact ((abortOp_recordsStill s).trans (flushQueues_recordsStill _ allQueues)).trans .of_eq

/-- R135: the empty set is refused. -/
theorem answerSetManagementLinks_recordsKept (r : Payload) (s : State) : RecordsKept s (answerSetManagementLinks r s).2 := by
  unfold answerSetManagementLinks
  split
  · exact .refl s
  · next some => exact fun _ ⟨_, rest⟩ => ⟨some, rest⟩

theorem answerReadMissRecord_recordsKept (r : Payload) (s : State) : RecordsKept s (answerReadMissRecord r s).2 :=
  fun _ ⟨permitted, queue, refresh, _⟩ => ⟨permitted, queue, refresh, nofun⟩

/-! ### Every command -/

theorem exec_recordsKept {i : Instr} {s t : State} (notReset : i.isReset = false) (h : exec i s = .next t) : RecordsKept s t := by
  cases i with
  | rstNRise | rstNFall => cases notReset
  | cellArrival l cell => exact execCellArrival_recordsKept h
  | trainingWindowExpiry l | keepaliveExpiry l => exact .of_next h (.ite (enterFaulted_recordsStill s l _).kept)
  | holdOffExpiry l => 
    refine .of_next h (.ite ?_)
    split
    · exact (enterTraining_recordsStill s l _).kept
    · exact .of_eq
  | admission => exact .of_next h (.ite (admission_recordsKept s))
  | nextCellEvent l =>
    change execNextCellEvent l s = .next t at h
    unfold execNextCellEvent at h
    split at h
    · exact (nextCell_recordsStill h).kept
    · exact .of_next h (.refl s)
  | monitorStep => exact .of_next h (.ite (monitorStep_recordsStill s).kept)
  | coalescingTimerExpiry => exact .of_next h (.ite (RecordsStill.kept ⟨rfl, le_rfl, rfl, rfl⟩))
  | epochTimerExpiry => exact .of_next h (.ite ((epochChange_recordsKept _).after .of_eq))
  | attentionHoldOffExpiry => exact .of_next h (.ite (attentionExpiry_recordsStill s).kept)
  | scrubStep => exact .of_next h (.ite ((verify_recordsStill _ _ _ _).kept.after .of_eq rfl))
  | tableDisturbance b n e code => exact .of_next h (.ite .of_eq)
  | fillStep => exact .of_next h (.ite (fillStep_recordsStill s).kept)
  | copyStep => exact .of_next h (.ite (copyStep_recordsStill s).kept)
  | digestStep => exact .of_next h (.ite (digestStep_recordsStill s).kept)
  | memtestStep passes => exact .of_next h (.ite (memtestStep_recordsStill s passes).kept)
  | enable => exact .of_next h (serve_recordsKept s _ _ fun r u => (answerEnable_recordsStill r u).kept)
  | disable => exact .of_next h (serve_recordsKept s _ _ fun r u => (answerDisable_recordsStill r u).kept)
  | flush => exact .of_next h (serve_recordsKept s _ _ fun r u => (answerFlush_recordsStill r u).kept)
  | retrain => exact .of_next h (serve_recordsKept s _ _ fun r u => (answerRetrain_recordsStill r u).kept)
  | datapathReset => exact .of_next h (serve_recordsKept s _ _ fun _ u => (resetDatapath_recordsStill u).kept)
  | setManagementLinks => exact .of_next h (serve_recordsKept s _ _ answerSetManagementLinks_recordsKept)
  | readMissRecord => exact .of_next h (serve_recordsKept s _ _ answerReadMissRecord_recordsKept)
  | readIdentity => exact .of_next h (serve_recordsAside s _ _)
  | readStatus => exact .of_next h (serve_recordsAside s _ _)
  | readQueueSnapshot => exact .of_next h (serve_recordsAside s _ _)
  | readCounters => exact .of_next h (serve_recordsAside s _ _)
  | readAttention => exact .of_next h (serve_recordsAside s _ _ (miss := fun _ _ => rfl))
  | readEntries => exact .of_next h (serve_recordsAside s _ _)
  | writeEntries => exact .of_next h (serve_recordsAside s _ _)
  | repairEntry => exact .of_next h (serve_recordsAside s _ _)
  | fillEntries => exact .of_next h (serve_recordsAside s _ _)
  | copyBank => exact .of_next h (serve_recordsAside s _ _)
  | digestBank => exact .of_next h (serve_recordsAside s _ _)
  | startMemoryTest => exact .of_next h (serve_recordsAside s _ _)
  | scheduleSwap => exact .of_next h (serve_recordsAside s _ _)
  | cancelSwap => exact .of_next h (serve_recordsAside s _ _)
  | sendFlowStatusNow => exact .of_next h (serve_recordsAside s _ _)
  | setParameter => exact .of_next h (serve_recordsAside s _ _)
  | readParameter => exact .of_next h (serve_recordsAside s _ _)
  | undefinedRequest => exact .of_next h (serve_recordsAside s _ _)

theorem exec_reset_records {i : Instr} {s t : State} (reset : i.isReset = true) (h : exec i s = .next t) :
    t = s ∨ ∃ straps, RecordsStill (State.powerOn straps) t := by
  cases i with
  | rstNRise plane mgp mgs =>
    obtain rfl := next_inj h
    split
    · exact .inl rfl
    · exact .inr ⟨⟨plane, mgp, mgs⟩, .of_eq rfl rfl rfl⟩
  | rstNFall =>
    obtain rfl := next_inj h
    split
    · exact .inr ⟨s.straps, .of_eq rfl rfl rfl⟩
    · exact .inl rfl
  | _ => cases reset

/-- Settles O12: every basic move keeps the latch; a request is queued below 8 (R134), the countdown restarts from a parameter (R114), a miss record
names a group of a cell (R181), and the empty set of links is refused (R135). -/
theorem latchAndRecordsStayLawful : Obligations.LatchAndRecordsStayLawful := by
  refine ⟨fun s t lawful h => step_keeps (law := State.latchLawful) powerOn_latchLawful (fun move => move.latchLawful) lawful h,
    fun s t ⟨ranged, lawful⟩ h => ?_⟩
  unfold step at h
  split at h
  · exact next_inj h ▸ lawful
  · next c rest _ =>
    cases reset : c.isReset with
    | false => exact exec_recordsKept reset h ranged lawful
    | true =>
      obtain rfl | ⟨straps, still⟩ := exec_reset_records reset h
      · exact lawful
      · exact still.lawful (powerOn_recordsLawful straps)

end Sys2Proof.DataPath
end

section
/-! PROOFS. The holders of a buffer (R66): how the counts of a link's holders move with its queues and its cell in flight. -/

namespace Sys2Proof.DataPath

open Sys2Proof.Machine Sys2Proof.Laws Sys2Proof.LinkPorts Sys2Proof.ForwardingTables

/-- How many of some entries name a handle. -/
def naming (entries : List QueueEntry) (h : Handle) : Nat := entries.countP fun e => decide (e.handle = h)

/-- How many entries of a link's queues name a handle. -/
def queuedAt (s : State) (l : Link) (h : Handle) : Nat := ∑ c : Sys2Proof.Class, naming (s.queue (queueId l c)).entries h

theorem holdersAt_eq (s : State) (l : Link) (h : Handle) :
    s.holdersAt l h = queuedAt s l h + if (s.link l).inFlight = some h then 1 else 0 := by
  unfold State.holdersAt queuedAt linkQueues
  rw [Fin.sum_univ_four]
  simp [naming, Nat.add_assoc]

theorem holders_eq (s : State) (h : Handle) : s.holders h = ∑ l : Link, s.holdersAt l h := Fin.sum_univ_def _ |>.symm

@[simp] theorem naming_nil (h : Handle) : naming [] h = 0 := rfl
theorem naming_cons (e : QueueEntry) (es : List QueueEntry) (h : Handle) : naming (e :: es) h = naming es h + if e.handle = h then 1 else 0 := by
  simp [naming, List.countP_cons]
theorem naming_append (es fs : List QueueEntry) (h : Handle) : naming (es ++ fs) h = naming es h + naming fs h := List.countP_append
theorem naming_eq_count (es : List QueueEntry) (h : Handle) : naming es h = (es.map QueueEntry.handle).count h := by
  rw [List.count_eq_countP, List.countP_map]
  rfl

/-- Holders read the entries and the cells in flight. -/
theorem queuedAt_congr {s t : State} {l : Link} (entries : ∀ c, (t.queue (queueId l c)).entries = (s.queue (queueId l c)).entries) (h : Handle) :
    queuedAt t l h = queuedAt s l h := by
  unfold queuedAt
  simp only [entries]
theorem holdersAt_congr {s t : State} (entries : ∀ q, (t.queue q).entries = (s.queue q).entries)
    (inFlight : ∀ l, (t.link l).inFlight = (s.link l).inFlight) : t.holdersAt = s.holdersAt := by
  funext l h
  rw [holdersAt_eq, holdersAt_eq, queuedAt_congr fun c => entries _, inFlight]

/-- Where the entries of one class change, the count changes by what that queue names. -/
theorem queuedAt_exchange {s t : State} {l : Link} (c : Sys2Proof.Class)
    (others : ∀ k, k ≠ c → (t.queue (queueId l k)).entries = (s.queue (queueId l k)).entries) (h : Handle) :
    queuedAt t l h + naming (s.queue (queueId l c)).entries h = queuedAt s l h + naming (t.queue (queueId l c)).entries h := by
  have same : ∑ k ∈ Finset.univ.erase c, naming (t.queue (queueId l k)).entries h =
      ∑ k ∈ Finset.univ.erase c, naming (s.queue (queueId l k)).entries h :=
    Finset.sum_congr rfl fun k hk => by rw [others k (Finset.ne_of_mem_erase hk)]
  unfold queuedAt
  rw [← Finset.add_sum_erase _ _ (Finset.mem_univ c), ← Finset.add_sum_erase Finset.univ (fun k => naming (s.queue (queueId l k)).entries h)
    (Finset.mem_univ c), same]
  omega

/-- R74: what a flush takes from the holders. -/
theorem flushQueue_holdersAt (s : State) (q : QueueId) (l : Link) (h : Handle) :
    s.holdersAt l h = (s.flushQueue q).holdersAt l h + if l = queueLink q then ((s.queue q).entries.map QueueEntry.handle).count h else 0 := by
  rw [holdersAt_eq, holdersAt_eq, flushQueue_link]
  by_cases own : l = queueLink q
  · rw [if_pos own]
    subst own
    have flushed : naming ((s.flushQueue q).queue q).entries h = 0 := by
      rw [flushQueue_queue, if_pos rfl]
      rfl
    have moved := queuedAt_exchange (s := s) (t := s.flushQueue q) (l := queueLink q) (queueClass q) (fun k hk => ?_) h
    · rw [queueId_link_class, flushed, naming_eq_count] at moved
      omega
    · rw [flushQueue_queue, if_neg]
      intro same
      exact hk (queueClass_queueId (queueLink q) k ▸ congrArg queueClass same)
  · rw [if_neg own, queuedAt_congr (s := s) (t := s.flushQueue q) fun c => ?_]
    · rfl
    · rw [flushQueue_queue, if_neg]
      intro same
      exact own (queueLink_queueId l c ▸ congrArg queueLink same)

/-- R16: what the end of a cell in flight takes from the holders. -/
theorem drop_holdersAt {s : State} {l : Link} {h : Handle} (sent : (s.link l).inFlight = some h) (k : Link) (a : Handle) :
    s.holdersAt k a =
      ((s.release h).modLink l fun p => { p with inFlight := none }).holdersAt k a + if k = l ∧ a = h then 1 else 0 := by
  have queued : queuedAt ((s.release h).modLink l fun p => { p with inFlight := none }) k a = queuedAt s k a := rfl
  rw [holdersAt_eq, holdersAt_eq, queued, link_modLink', release_link, release_link]
  by_cases own : k = l
  · subst own
    simp [sent, eq_comm]
  · simp [own]

/-- R93: a selection moves a holder from a queue into flight. -/
theorem Selects.holdersAt {s t : State} {q : QueueId} {e : QueueEntry} {rest : List QueueEntry} (h : Selects s t q e rest)
    (idle : (s.link (queueLink q)).inFlight = none) : t.holdersAt = s.holdersAt := by
  funext l a
  rw [holdersAt_eq, holdersAt_eq]
  by_cases own : l = queueLink q
  · subst own
    have moved := queuedAt_exchange (s := s) (t := t) (l := queueLink q) (queueClass q) (fun k hk => ?_) a
    · rw [queueId_link_class, h.head, h.entries, naming_cons] at moved
      rw [idle, h.inFlight]
      simp only [Option.some.injEq, reduceCtorEq, if_false]
      omega
    · rw [h.others]
      intro same
      exact hk (queueClass_queueId (queueLink q) k ▸ congrArg queueClass same)
  · rw [h.otherLinks l own, queuedAt_congr fun c => ?_]
    rw [h.others]
    intro same
    exact own (queueLink_queueId l c ▸ congrArg queueLink same)

theorem inFlight_of_same {p q : LinkPort} (h : p.sameButPending q) : p.inFlight = q.inFlight := by
  obtain ⟨same, -⟩ := h
  have inFlight := congrArg LinkPort.inFlight same
  exact inFlight

/-- R53, R59: a stored cell is held once on each link it is stored for. -/
theorem storeCell_holdersAt {s : State} {cell : Cell} {cc : Sys2Proof.Class} {members : List Link} {h : Handle} {rest : List Handle}
    (free : s.pool.free = h :: rest) (nodup : members.Nodup) (l : Link) (a : Handle) :
    (s.storeCell cell cc members).holdersAt l a = s.holdersAt l a + if l ∈ members ∧ a = h then 1 else 0 := by
  have queues := storeCell_queue (cell := cell) (cc := cc) free nodup
  have inFlight : ((s.storeCell cell cc members).link l).inFlight = (s.link l).inFlight :=
    inFlight_of_same (storeCell_same free l)
  have moved := queuedAt_exchange (s := s) (t := s.storeCell cell cc members) (l := l) cc
    (fun k hk => by rw [queues, queueClass_queueId, if_neg fun both => hk both.2]) a
  rw [queues, queueLink_queueId, queueClass_queueId] at moved
  rw [holdersAt_eq, holdersAt_eq, inFlight]
  by_cases member : l ∈ members
  · simp only [member, true_and, and_self, if_true, appended, naming_append, naming_cons, naming_nil] at moved ⊢
    simp only [eq_comm (a := a)]
    omega
  · simp only [member, false_and, if_false] at moved ⊢
    omega

end Sys2Proof.DataPath
end

section
/-! PROOFS. The laws of the buffer pool (R63, R64, R66, R70, R166): what each operation of the pool keeps of them, and the sum they give. -/

namespace Sys2Proof.DataPath

open Sys2Proof.Machine Sys2Proof.Laws Sys2Proof.LinkPorts Sys2Proof.ForwardingTables

/-! ### Conditions of a handle -/

theorem conditions_congr {p q : Pool} {h : Handle} (free : h ∈ q.free ↔ h ∈ p.free) (count : 1 ≤ q.refCount h ↔ 1 ≤ p.refCount h)
    (retired : h ∈ q.retired ↔ h ∈ p.retired) (underTest : h ∈ q.underTest ↔ h ∈ p.underTest) : q.conditions h = p.conditions h := by
  unfold Pool.conditions
  simp only [free, count, retired, underTest]

theorem conditions_counted {p : Pool} {h : Handle} (few : p.conditions h ≤ 1) (counted : 1 ≤ p.refCount h) :
    h ∉ p.free ∧ h ∉ p.retired ∧ h ∉ p.underTest := by
  unfold Pool.conditions at few
  rw [if_pos counted] at few
  refine ⟨fun free => ?_, fun retired => ?_, fun underTest => ?_⟩
  · rw [if_pos free] at few; omega
  · rw [if_pos retired] at few; omega
  · rw [if_pos underTest] at few; omega

theorem conditions_free {p : Pool} {h : Handle} (few : p.conditions h ≤ 1) (free : h ∈ p.free) :
    p.refCount h = 0 ∧ h ∉ p.retired ∧ h ∉ p.underTest := by
  unfold Pool.conditions at few
  rw [if_pos free] at few
  refine ⟨Nat.eq_zero_of_not_pos fun counted => ?_, fun retired => ?_, fun underTest => ?_⟩
  · rw [if_pos (Nat.succ_le_of_lt counted)] at few; omega
  · rw [if_pos retired] at few; omega
  · rw [if_pos underTest] at few; omega

/-! ### Sound pools -/

/-- The laws of a pool, its canonical form among them, for the holders of each link and whether a memory test runs. -/
structure PoolSound (p : Pool) (holding : Link → Handle → Nat) (testing : Bool) : Prop where
  buffers : Memory.wf none p.buffers = true
  refs : Memory.wf 0 p.refs = true
  retired : p.retired.Pairwise (· < ·)
  underTest : p.underTest.Pairwise (· < ·)
  counted : ∀ h, p.refCount h = ∑ l, holding l h
  single : ∀ l h, holding l h ≤ 1
  inside : ∀ h, h < 16384 → p.conditions h = 1
  outside : ∀ h, 16384 ≤ h → p.conditions h = 0
  nodup : p.free.Nodup
  stored : ∀ h, 1 ≤ p.refCount h → (p.stored h).isSome = true
  test : testing = true → p.free = [] ∧ ∀ h, p.refCount h = 0
  idle : testing = false → p.underTest = []

theorem poolSound_of_lawful {s : State} (canonical : s.storesCanonical) (lawful : s.poolLawful) : PoolSound s.pool s.holdersAt s.memtestRunning := by
  obtain ⟨-, buffers, refs, retired, underTest⟩ := canonical
  obtain ⟨counted, single, inside, outside, nodup, stored, test, idle⟩ := lawful
  exact ⟨buffers, refs, retired, underTest, fun h => (counted h).trans (holders_eq s h), single, inside, outside, nodup, stored, test, idle⟩

theorem PoolSound.lawful {s : State} (h : PoolSound s.pool s.holdersAt s.memtestRunning) : s.poolLawful :=
  ⟨fun a => (h.counted a).trans (holders_eq s a).symm, h.single, h.inside, h.outside, h.nodup, h.stored, h.test, h.idle⟩

theorem PoolSound.few {p : Pool} {holding : Link → Handle → Nat} {testing : Bool} (h : PoolSound p holding testing) (a : Handle) :
    p.conditions a ≤ 1 := by
  by_cases inside : a < 16384
  · exact (h.inside a inside).le
  · exact (h.outside a (not_lt.1 inside)).trans_le zero_le_one

theorem PoolSound.lt_of_counted {p : Pool} {holding : Link → Handle → Nat} {testing : Bool} (h : PoolSound p holding testing) {a : Handle}
    (counted : 1 ≤ p.refCount a) : a < 16384 := by
  by_contra outside
  have none := h.outside a (not_lt.1 outside)
  unfold Pool.conditions at none
  rw [if_pos counted] at none
  omega

/-- The latch is no part of these laws. -/
theorem PoolSound.relatch {p : Pool} {holding : Link → Handle → Nat} {testing : Bool} (h : PoolSound p holding testing) (threshold : Nat) :
    PoolSound (p.relatch threshold) holding testing := { h with }

/-! ### Releases -/

theorem sum_taken {holding holding' : Link → Handle → Nat} {l : Link} {a : Handle}
    (taken : ∀ k x, holding k x = holding' k x + if k = l ∧ x = a then 1 else 0) (x : Handle) :
    ∑ k, holding k x = ∑ k, holding' k x + if x = a then 1 else 0 := by
  simp_rw [taken, Finset.sum_add_distrib]
  by_cases same : x = a <;> simp [same]

/-- R66, R67: a release of one of the holders. -/
theorem PoolSound.release {p : Pool} {holding holding' : Link → Handle → Nat} {testing : Bool} {l : Link} {a : Handle} (h : PoolSound p holding testing)
    (threshold : Nat) (taken : ∀ k x, holding k x = holding' k x + if k = l ∧ x = a then 1 else 0) :
    PoolSound (p.release threshold a) holding' testing := by
  have total := sum_taken taken
  have held : 1 ≤ p.refCount a := by
    rw [h.counted, total, if_pos rfl]
    omega
  obtain ⟨notFree, notRetired, notTested⟩ := conditions_counted (h.few a) held
  obtain ⟨buffers, retired, underTest, free, refs⟩ := poolRelease_fields p threshold a
  have count := fun x => release_refCount threshold a x h.refs
  have fewer : ∀ x, 1 ≤ (p.release threshold a).refCount x → 1 ≤ p.refCount x := fun x => by
    rw [count]
    split <;> omega
  have member : ∀ x, x ≠ a → (x ∈ (p.release threshold a).free ↔ x ∈ p.free) := fun x other => by
    rw [free]
    split <;> simp [other]
  have kept : ∀ x, (p.release threshold a).conditions x = p.conditions x := by
    intro x
    by_cases same : x = a
    · subst same
      rw [h.inside x (h.lt_of_counted held)]
      unfold Pool.conditions
      rw [count, retired, underTest, free]
      by_cases last : p.refCount x = 1
      · simp [last, notRetired, notTested]
      · have more : 1 ≤ p.refCount x - 1 := by omega
        simp [last, notFree, notRetired, notTested, more]
    · exact conditions_congr (member x same) (by rw [count, if_neg same]) (by rw [retired]) (by rw [underTest])
  refine ⟨buffers ▸ h.buffers, refs ▸ write_wf a _ h.refs, retired ▸ h.retired, underTest ▸ h.underTest, fun x => ?_, fun k x => ?_,
    fun x hx => (kept x).trans (h.inside x hx), fun x hx => (kept x).trans (h.outside x hx), ?_, fun x hx => ?_, fun testing => ?_,
    fun idle => underTest ▸ h.idle idle⟩
  · have before := h.counted x
    rw [total] at before
    rw [count]
    split at before <;> simp_all
  · exact (Nat.le_add_right _ _).trans (taken k x ▸ h.single k x)
  · rw [free]
    split
    · exact List.nodup_append.2 ⟨h.nodup, List.nodup_singleton a, fun x hx y hy => by
        rw [List.mem_singleton.1 hy]
        rintro rfl
        exact notFree hx⟩
    · exact h.nodup
  · unfold Pool.stored
    rw [buffers]
    exact h.stored x (fewer x hx)
  · rw [(h.test testing).2 a] at held
    omega

/-- Releases of several holders of one link. -/
theorem PoolSound.releases {l : Link} {testing : Bool} (threshold : Nat) (hs : List Handle) {p : Pool} {holding holding' : Link → Handle → Nat}
    (h : PoolSound p holding testing) (taken : ∀ k x, holding k x = holding' k x + if k = l then hs.count x else 0) :
    PoolSound (hs.foldl (fun p h => p.release threshold h) p) holding' testing := by
  induction hs generalizing p holding with
  | nil =>
    have same : holding = holding' := by
      funext k x
      simp [taken]
    exact same ▸ h
  | cons a hs ih =>
    refine ih (h.release (holding' := fun k x => holding' k x + if k = l then hs.count x else 0) threshold (l := l) (a := a) fun k x => ?_) fun _ _ => rfl
    rw [taken, List.count_cons]
    by_cases own : k = l
    · by_cases same : x = a
      · simp [own, same, Nat.add_assoc]
      · simp [own, same, Ne.symm same]
    · simp [own]

/-! ### Allocation -/

/-- R55, R65: an allocation for links that do not hold the head of the free list yet. -/
theorem PoolSound.allocate {p q : Pool} {holding holding' : Link → Handle → Nat} {members : List Link} {a : Handle} {rest : List Handle} {cell : Cell}
    (h : PoolSound p holding false) (head : p.free = a :: rest) (some : members ≠ []) (nodup : members.Nodup) (free : q.free = rest)
    (refs : q.refs = Memory.write 0 p.refs a members.length) (buffers : q.buffers = Memory.write none p.buffers a (.some cell))
    (retired : q.retired = p.retired) (underTest : q.underTest = p.underTest)
    (given : ∀ k x, holding' k x = holding k x + if k ∈ members ∧ x = a then 1 else 0) : PoolSound q holding' false := by
  obtain ⟨unused, notRetired, notTested⟩ := conditions_free (h.few a) (head ▸ List.mem_cons_self)
  have fresh : a ∉ rest ∧ rest.Nodup := List.nodup_cons.1 (head ▸ h.nodup)
  have copies : 1 ≤ members.length := List.length_pos_iff.2 some
  have count : ∀ x, q.refCount x = if a = x then members.length else p.refCount x := fun x => by
    unfold Pool.refCount
    rw [refs]
    exact read_write a x _ h.refs
  have stored : ∀ x, q.stored x = if a = x then .some cell else p.stored x := fun x => by
    unfold Pool.stored
    rw [buffers]
    exact read_write a x _ h.buffers
  have none : ∀ k, holding k a = 0 := by
    have total := h.counted a
    rw [unused, eq_comm, Finset.sum_eq_zero_iff] at total
    exact fun k => total k (Finset.mem_univ k)
  have kept : ∀ x, q.conditions x = p.conditions x := by
    intro x
    by_cases same : a = x
    · subst same
      unfold Pool.conditions
      rw [count, if_pos rfl, free, head, retired, underTest, unused]
      simp [fresh.1, copies]
    · exact conditions_congr (by simp [free, head, Ne.symm same]) (by rw [count, if_neg same]) (by rw [retired]) (by rw [underTest])
  refine ⟨buffers ▸ write_wf a _ h.buffers, refs ▸ write_wf a _ h.refs, retired ▸ h.retired, underTest ▸ h.underTest, fun x => ?_, fun k x => ?_,
    fun x hx => (kept x).trans (h.inside x hx), fun x hx => (kept x).trans (h.outside x hx), free ▸ fresh.2, fun x hx => ?_, nofun,
    fun idle => underTest ▸ h.idle idle⟩
  · simp_rw [given, Finset.sum_add_distrib, ← h.counted, count]
    by_cases same : a = x
    · subst same
      have marked : (∑ k : Link, if k ∈ members then 1 else 0) = members.length := by
        rw [Finset.sum_boole, Nat.cast_id, ← List.toFinset_card_of_nodup nodup]
        congr 1
        ext k
        simp
      simp [unused, marked]
    · simp [same, Ne.symm same]
  · rw [given]
    split
    · next both => rw [both.2, none]
    · exact h.single k x
  · rw [stored]
    rw [count] at hx
    split
    · rfl
    · next other => exact h.stored x (by rwa [if_neg other] at hx)

end Sys2Proof.DataPath
end

section
/-! PROOFS. The sum of the pool (R63), the pool through a memory test (R70, R166 to R168), and the laws of the pool at every move. -/

namespace Sys2Proof.DataPath

open Sys2Proof.Machine Sys2Proof.Laws Sys2Proof.LinkPorts Sys2Proof.ForwardingTables

/-! ### The sum -/

theorem countP_mem_eq_length {hs : List Handle} {n : Nat} (nodup : hs.Nodup) (inside : ∀ h ∈ hs, h < n) :
    (List.range n).countP (fun h => decide (h ∈ hs)) = hs.length := by
  rw [List.countP_eq_length_filter]
  exact ((List.perm_ext_iff_of_nodup (List.nodup_range.filter _) nodup).2 fun h => by simpa using inside h).length_eq

/-- Handles in one condition each are counted once among the four. -/
theorem conditions_sum {p : Pool} {hs : List Handle} (one : ∀ h ∈ hs, p.conditions h = 1) :
    hs.countP (fun h => decide (h ∈ p.free)) + hs.countP (fun h => decide (1 ≤ p.refCount h)) + hs.countP (fun h => decide (h ∈ p.retired)) +
      hs.countP (fun h => decide (h ∈ p.underTest)) = hs.length := by
  induction hs with
  | nil => rfl
  | cons a hs ih =>
    have rest := ih fun h member => one h (.tail _ member)
    have first := one a (.head _)
    unfold Pool.conditions at first
    simp only [List.countP_cons, decide_eq_true_eq, List.length_cons]
    omega

/-- Every handle is FREE, IN USE, RETIRED or UNDER TEST. -/
theorem PoolSound.sum {p : Pool} {holding : Link → Handle → Nat} {testing : Bool} (h : PoolSound p holding testing) :
    p.free.length + p.inUse + p.retired.length + p.underTest.length = 16384 := by
  have inside : ∀ a, p.conditions a ≠ 0 → a < 16384 := fun a some => not_le.1 fun outside => some (h.outside a outside)
  have total := conditions_sum (p := p) (hs := List.range 16384) fun a member => h.inside a (List.mem_range.1 member)
  rw [countP_mem_eq_length h.nodup fun a free => inside a (by simp [Pool.conditions, free]),
    countP_mem_eq_length (h.retired.imp fun lt => lt.ne) fun a retired => inside a (by simp [Pool.conditions, retired]),
    countP_mem_eq_length (h.underTest.imp fun lt => lt.ne) fun a tested => inside a (by simp [Pool.conditions, tested]), List.length_range] at total
  exact total

theorem PoolSound.refCount_le {p : Pool} {holding : Link → Handle → Nat} {testing : Bool} (h : PoolSound p holding testing) (a : Handle) :
    p.refCount a ≤ 32 := by
  rw [h.counted]
  simpa using Finset.sum_le_card_nsmul Finset.univ (fun l => holding l a) 1 fun l _ => h.single l a

/-- Settles O11: the four conditions part the handles, and each of the 32 links holds a buffer once at most. -/
theorem poolLawGivesTheSum : Obligations.PoolLawGivesTheSum := fun _ canonical lawful =>
  ⟨(poolSound_of_lawful canonical lawful).sum, (poolSound_of_lawful canonical lawful).refCount_le⟩

/-! ### Memory tests -/

/-- R70: a memory test that finds no buffer in use puts every free handle under test. -/
theorem PoolSound.startTest {p : Pool} {holding : Link → Handle → Nat} (h : PoolSound p holding false) (threshold : Nat)
    (whole : p.free.length + p.retired.length = 16384) : PoolSound (p.startTest threshold) holding true := by
  have none : p.inUse = 0 := by
    have total := h.sum
    omega
  have unused : ∀ a, p.refCount a = 0 := fun a => by
    refine Nat.eq_zero_of_not_pos fun counted => ?_
    have member := List.countP_eq_zero.1 none a (List.mem_range.2 (h.lt_of_counted counted))
    exact member (decide_eq_true counted)
  have moved : ∀ a, (p.startTest threshold).conditions a = p.conditions a := fun a => by
    have count : (p.startTest threshold).refCount a = p.refCount a := rfl
    unfold Pool.conditions
    rw [count]
    simp [Pool.startTest, Pool.relatch, mem_union, h.idle rfl]
    omega
  exact { h with
    underTest := union_ascending h.underTest
    inside := fun a ha => (moved a).trans (h.inside a ha)
    outside := fun a ha => (moved a).trans (h.outside a ha)
    nodup := .nil
    test := fun _ => ⟨rfl, unused⟩
    idle := nofun }

/-- R166: a verdict on a handle that the test has reached. -/
theorem PoolSound.verdict {p : Pool} {holding : Link → Handle → Nat} (h : PoolSound p holding true) {n : Handle} (inside : n < 16384) (passes : Bool) :
    PoolSound (p.verdict n passes) holding true := by
  obtain ⟨noneFree, unused⟩ := h.test rfl
  obtain ⟨buffers, refs, free, -⟩ := verdict_fields p n passes
  obtain ⟨retired, underTest⟩ := verdict_ascending (n := n) (passes := passes) h.retired h.underTest
  have count : ∀ a, (p.verdict n passes).refCount a = p.refCount a := fun a => by
    unfold Pool.refCount
    rw [refs]
  have kept : ∀ a, (p.verdict n passes).conditions a = p.conditions a := by
    intro a
    by_cases same : a = n
    · subst same
      have one := h.inside a inside
      rw [one]
      unfold Pool.conditions at one ⊢
      simp only [noneFree, unused] at one
      simp only [count, unused, free, noneFree, mem_verdict_retired, mem_verdict_underTest]
      cases passes with
      | false => simp
      | true =>
        by_cases old : a ∈ p.retired
        · simp [old]
        · have tested : a ∈ p.underTest := by
            by_contra other
            simp [old, other] at one
          simp [tested]
    · exact conditions_congr (by rw [free]) (by rw [count]) (by rw [mem_verdict_retired, if_neg same]) (by rw [mem_verdict_underTest, if_neg same])
  exact {
    buffers := buffers ▸ write_wf n none h.buffers
    refs := refs ▸ h.refs
    retired := retired
    underTest := underTest
    counted := fun a => (count a).trans (h.counted a)
    single := h.single
    inside := fun a ha => (kept a).trans (h.inside a ha)
    outside := fun a ha => (kept a).trans (h.outside a ha)
    nodup := free ▸ h.nodup
    stored := fun a counted => by
      rw [count, unused] at counted
      cases counted
    test := fun _ => ⟨free.trans noneFree, fun a => (count a).trans (unused a)⟩
    idle := nofun }

/-- R167, R168: the free list rebuilt from what is under test. -/
theorem PoolSound.rebuild {p : Pool} {holding : Link → Handle → Nat} (h : PoolSound p holding true) (threshold : Nat) :
    PoolSound (p.rebuild threshold) holding false := by
  have moved : ∀ a, (p.rebuild threshold).conditions a = p.conditions a := fun a => by
    have after : (p.rebuild threshold).conditions a = (if a ∈ p.underTest then 1 else 0) + (if 1 ≤ p.refCount a then 1 else 0) +
        (if a ∈ p.retired then 1 else 0) + (if a ∈ ([] : List Handle) then 1 else 0) := rfl
    obtain ⟨noneFree, unused⟩ := h.test rfl
    rw [after]
    unfold Pool.conditions
    simp [noneFree, unused]
    omega
  exact { h with
    underTest := .nil
    inside := fun a ha => (moved a).trans (h.inside a ha)
    outside := fun a ha => (moved a).trans (h.outside a ha)
    nodup := h.underTest.imp fun lt => lt.ne
    test := nofun
    idle := fun _ => rfl }

/-! ### Every move -/

/-- The laws of the operation record and of the pool together. -/
structure Sound (s : State) : Prop where
  record : s.opLawful
  pool : PoolSound s.pool s.holdersAt s.memtestRunning

/-- R70: the record of a memory test at its start. -/
theorem startTest_opLawful {s : State} (h : s.op = some ⟨.running, 0, .memtest 0 0 none none⟩) : s.opLawful := by
  unfold State.opLawful
  rw [h]
  rintro r ⟨⟩
  exact ⟨by decide, rfl, le_rfl, by simp, nofun, fun _ => by decide, nofun, by simp⟩

theorem memtestStep_sound {s : State} (passes : Bool) (h : Sound s) : Sound (s.memtestStep passes) := by
  refine ⟨(memtestStep_operationsKept s passes).record h.record, ?_⟩
  obtain idle | ⟨n, tested, failed, first, retired, running⟩ := memtestStep_cases s passes
  · rw [idle]
    exact h.pool
  · have testing : s.memtestRunning = true := by simp [memtestRunning_eq, running, isMemtest]
    have inside : n < 16384 := by
      obtain ⟨-, -, -, -, -, goesOn, -⟩ := h.record _ running
      exact goesOn rfl
    have same : (s.memtestStep passes).holdersAt = s.holdersAt :=
      holdersAt_congr (fun q => by rw [queue_congr (memtestStep_queues s passes)]) fun l => by
        rw [memtestStep_running passes running, stepOp_inFlight]
        rfl
    have pool := h.pool
    rw [testing] at pool
    rw [same, memtestStep_pool passes running, memtestRunning_eq, memtestStep_op passes running]
    by_cases more : n + 1 < 16384
    · rw [testedPool_more more]
      simpa [stateAfter, isMemtest, more] using pool.verdict inside passes
    · rw [testedPool_last (not_lt.1 more)]
      simpa [stateAfter, isMemtest, more] using (pool.verdict inside passes).rebuild s.params.poolLow

theorem abortOp_sound {s : State} (h : Sound s) : Sound s.abortOp := by
  refine ⟨(abortOp_operationsKept s).record h.record, ?_⟩
  have same : s.abortOp.holdersAt = s.holdersAt := holdersAt_congr (fun q => by simp) fun l => by simp
  have pool := h.pool
  rw [same, abortOp_pool, memtestRunning_of_idle (abortOp_opRunning s)]
  cases testing : s.memtestRunning with
  | true =>
    rw [testing] at pool
    exact pool.rebuild s.params.poolLow
  | false =>
    rw [testing] at pool
    exact pool

theorem storeCell_sound {s : State} {cell : Cell} {cc : Sys2Proof.Class} {members : List Link} (h : Sound s) (idle : s.memtestRunning = false)
    (free : s.pool.free ≠ []) (some : members ≠ []) (nodup : members.Nodup) : Sound (s.storeCell cell cc members) := by
  obtain ⟨a, rest, head⟩ := List.exists_cons_of_ne_nil free
  have op := storeCell_op s cell cc members
  have pool := h.pool
  rw [idle] at pool
  have given := storeCell_holdersAt (s := s) (cell := cell) (cc := cc) head nodup
  refine ⟨opLawful_of_op op h.record, ?_⟩
  rw [memtestRunning_eq, op, ← memtestRunning_eq, idle, storeCell_eq head, foldl_enqueue_pool, allocated_pool, ← storeCell_eq head]
  exact pool.allocate (cell := cell) head some nodup rfl rfl rfl rfl rfl given

theorem Traffic.sound {s t : State} (move : Traffic s t) (h : Sound s) : Sound t := by
  induction move with
  | still still =>
    refine ⟨still.record.lawful h.record, ?_⟩
    rw [still.pool, still.record.testing, holdersAt_congr still.entries still.inFlight]
    exact h.pool
  | trans _ _ first second => exact second (first h)
  | visit s q =>
    refine ⟨h.record, ?_⟩
    have same : (s.setQueue q ((s.queue q).visited s.params (queueClass q))).holdersAt = s.holdersAt :=
      holdersAt_congr (fun k => by
        rw [queue_setQueue]
        split
        · next e => exact e ▸ rfl
        · rfl) fun _ => rfl
    rw [same]
    exact h.pool
  | store idle free some nodup _ => exact storeCell_sound h idle free some nodup
  | drop sent => exact ⟨h.record, h.pool.release _ (drop_holdersAt sent)⟩
  | select idle selected =>
    obtain ⟨e, rest, selects⟩ := selectFrom_selects selected
    have op := selectFrom_op _ _ _ _ selected
    refine ⟨opLawful_of_op op h.record, ?_⟩
    rw [selectFrom_pool _ _ _ _ selected, memtestRunning_eq, op, ← memtestRunning_eq, selects.holdersAt (by rwa [queueLink_queueId])]
    exact h.pool
  | flush s q =>
    refine ⟨h.record, ?_⟩
    rw [flushQueue_pool]
    exact h.pool.releases s.params.poolLow _ (flushQueue_holdersAt s q)
  | @startTest s idle whole =>
    have pool := h.pool
    rw [memtestRunning_of_idle idle] at pool
    exact ⟨startTest_opLawful rfl, pool.startTest s.params.poolLow whole⟩
  | test s passes => exact memtestStep_sound passes h
  | abort s => exact abortOp_sound h
  | @setParameter s p r params stored =>
    refine ⟨opLawful_of_op (afterWrite_op _ _) h.record, ?_⟩
    cases p with
    | poolLow => exact h.pool.relatch params.poolLow
    | _ => exact h.pool

theorem powerOn_sound (straps : Straps) : Sound (State.powerOn straps) :=
  ⟨powerOn_opLawful straps, poolSound_of_lawful (powerOn_storesCanonical straps) (powerOn_poolLawful straps)⟩

/-- Settles O10: every basic move keeps the pool sound; a memory test starts only where the sum leaves no buffer in use. -/
theorem poolStaysLawful : Obligations.PoolStaysLawful := fun _ _ ⟨canonical, record, lawful⟩ h =>
  (step_keeps (law := Sound) powerOn_sound (fun move => move.sound) ⟨record, poolSound_of_lawful canonical lawful⟩ h).pool.lawful

end Sys2Proof.DataPath
end

section
/-! PROOFS. A next-cell event always finds a cell to send where the laws hold (R66, R91). -/

namespace Sys2Proof.DataPath

open Sys2Proof.Machine Sys2Proof.Laws Sys2Proof.LinkPorts Sys2Proof.ForwardingTables

/-- Every queued entry names a stored cell, and no class has weight 0. -/
structure Sendable (s : State) : Prop where
  stored : ∀ q, ∀ e ∈ (s.queue q).entries, (s.pool.stored e.handle).isSome = true
  weight : ∀ k, 1 ≤ s.params.weight k

/-- R66: an entry is a holder, so its buffer is counted and stores a cell. -/
theorem sendable_of_lawful {s : State} (ranged : s.params.inRange) (lawful : s.poolLawful) : Sendable s := by
  obtain ⟨counted, -, -, -, -, stored, -⟩ := lawful
  refine ⟨fun q e member => stored e.handle ?_, fun k => (((inRange_iff _).1 ranged).weight k).1⟩
  have named : 0 < naming (s.queue (queueId (queueLink q) (queueClass q))).entries e.handle := by
    rw [queueId_link_class]
    exact List.countP_pos_iff.2 ⟨e, member, decide_eq_true rfl⟩
  have queued : 0 < queuedAt s (queueLink q) e.handle := Finset.sum_pos' (fun _ _ => Nat.zero_le _) ⟨queueClass q, Finset.mem_univ _, named⟩
  have holds : 0 < s.holdersAt (queueLink q) e.handle := by
    rw [holdersAt_eq]
    omega
  rw [counted, holders_eq]
  exact Finset.sum_pos' (fun _ _ => Nat.zero_le _) ⟨queueLink q, Finset.mem_univ _, holds⟩

theorem Sendable.congr {s t : State} (h : Sendable s) (queues : t.queues = s.queues := by rfl) (buffers : t.pool.buffers = s.pool.buffers := by rfl)
    (params : t.params = s.params := by rfl) : Sendable t := by
  refine ⟨fun q => ?_, fun k => params ▸ h.weight k⟩
  unfold Pool.stored
  rw [queue_congr queues, buffers]
  exact h.stored q

theorem selectFrom_runs {s : State} {l : Link} {c : Sys2Proof.Class} (h : Sendable s) (waiting : s.waiting l c = true) :
    ∃ t, s.selectFrom l c = .next t := by
  unfold State.waiting at waiting
  unfold State.selectFrom
  split
  · next none => simp [none] at waiting
  · next e rest head =>
    have stored := h.stored (queueId l c) e (head ▸ List.mem_cons_self)
    split
    · next none => simp [none] at stored
    · exact ⟨_, rfl⟩

theorem wrrWalk_none {s : State} {l : Link} {k : WrrClass} {n r : Nat} (h : s.wrrWalk l n k r = none) (room : 0 < r) : s.waiting l k.toClass = false := by
  by_contra waiting
  unfold State.wrrWalk at h
  rw [if_pos ⟨Bool.not_eq_false _ ▸ waiting, room⟩] at h
  cases h
theorem wrrWalk_none_succ {s : State} {l : Link} {k : WrrClass} {n r : Nat} (h : s.wrrWalk l (n + 1) k r = none) :
    s.wrrWalk l n k.next (s.params.weight k.next) = none := by
  unfold State.wrrWalk at h
  split at h
  · cases h
  · exact h

/-- R91: three advances reach every class with its whole weight. -/
theorem wrrWalk_none_waiting {s : State} {l : Link} {k : WrrClass} {r : Nat} (weight : ∀ k, 1 ≤ s.params.weight k) (h : s.wrrWalk l 3 k r = none)
    (c : WrrClass) : s.waiting l c.toClass = false := by
  have second := wrrWalk_none_succ h
  have third := wrrWalk_none_succ second
  have fourth := wrrWalk_none_succ third
  have passed : c = k.next ∨ c = k.next.next ∨ c = k.next.next.next := by cases c <;> cases k <;> decide
  obtain rfl | rfl | rfl := passed
  · exact wrrWalk_none second (weight _)
  · exact wrrWalk_none third (weight _)
  · exact wrrWalk_none fourth (weight _)

theorem wrrWalk_some {s : State} {l : Link} {k k' : WrrClass} {n r r' : Nat} (h : s.wrrWalk l n k r = some (k', r')) :
    s.waiting l k'.toClass = true := by
  induction n generalizing k r with
  | zero =>
    unfold State.wrrWalk at h
    split at h
    · next found => cases h; exact found.1
    · cases h
  | succ n ih =>
    unfold State.wrrWalk at h
    split at h
    · next found => cases h; exact found.1
    · exact ih h

theorem sendData_runs {s : State} {l : Link} (h : Sendable s) (ready : s.dataReady l = true) : ∃ t, s.sendData l = .next t := by
  unfold State.sendData
  split
  · next first => exact selectFrom_runs h first
  · next notFirst =>
    split
    · next stuck =>
      have none := wrrWalk_none_waiting h.weight stuck
      simp [State.dataReady, notFirst, show s.waiting l 1 = false from none .one, show s.waiting l 2 = false from none .two,
        show s.waiting l 3 = false from none .three] at ready
    · next k r walked =>
      have waiting := wrrWalk_some walked
      exact selectFrom_runs h.congr waiting

theorem chooseAfterAttn_runs {s : State} (l : Link) (h : Sendable s) : ∃ t, s.chooseAfterAttn l = .next t := by
  unfold State.chooseAfterAttn
  split
  · exact ⟨_, rfl⟩
  · split
    · next ready => exact sendData_runs h ready
    · exact ⟨_, rfl⟩

theorem chooseNext_runs {s : State} (l : Link) (h : Sendable s) : ∃ t, s.chooseNext l = .next t := by
  unfold State.chooseNext
  split
  · exact ⟨_, rfl⟩
  · split
    · split
      · exact ⟨_, rfl⟩
      · exact chooseAfterAttn_runs l h.congr
    · exact chooseAfterAttn_runs l h

theorem nextCell_runs {s : State} (l : Link) (h : Sendable s) : ∃ t, s.nextCell l = .next t := by
  unfold State.nextCell
  split
  · exact chooseNext_runs l h
  · next b _ =>
    have ended : Sendable (s.endData l b) := h.congr rfl (poolRelease_fields s.pool s.params.poolLow b).1
    split
    · exact ⟨_, rfl⟩
    · exact chooseNext_runs l ended

/-- Settles O15: only a next-cell event can stop the model, and where the laws hold it finds its cell. -/
theorem lawfulStatesNeverStop : Obligations.LawfulStatesNeverStop := by
  intro i s ranged lawful
  cases i with
  | nextCellEvent l =>
    change ∃ t, execNextCellEvent l s = .next t
    unfold execNextCellEvent
    split
    · exact nextCell_runs l (sendable_of_lawful ranged lawful)
    · exact ⟨_, rfl⟩
  | _ => exact ⟨_, rfl⟩

end Sys2Proof.DataPath
end

section
/-! PROOFS. What can happen to the entries of a queue, and where a data cell starts (R71, R72, R76, R93). -/

namespace Sys2Proof.DataPath

open Sys2Proof.Machine Sys2Proof.Laws Sys2Proof.LinkPorts Sys2Proof.ForwardingTables

/-- R71, R72, R76: what an event does to the entries of a queue. -/
inductive Fate (i : Instr) (s t : State) (q : QueueId) : Prop
  | kept (same : (t.queue q).entries = (s.queue q).entries)
  | appended (admission : i = .admission) (e : QueueEntry) (copy : e.copyClass = queueClass q) (tail : (t.queue q).entries = (s.queue q).entries ++ [e])
  | taken (next : i = .nextCellEvent (queueLink q)) (up : (s.link (queueLink q)).state = .up) (e : QueueEntry)
      (head : (s.queue q).entries = e :: (t.queue q).entries)
  | flushed (event : s.flushEvent i q t) (flushed : t.queue q = (s.queue q).flushed)

/-- R93: what an event does to the cell in flight on a link: it stays, it ends, or one starts at a next-cell event of the link in UP. -/
inductive CellFate (i : Instr) (s t : State) (l : Link) : Prop
  | kept (same : (t.link l).inFlight = (s.link l).inFlight)
  | gone (none : (t.link l).inFlight = none)
  | started (next : i = .nextCellEvent l) (up : (s.link l).state = .up) (stays : (t.link l).state = .up)

/-- What an event does to every queue and to every cell in flight. -/
structure FirstOut (i : Instr) (s t : State) : Prop where
  entries : ∀ q, Fate i s t q
  cells : ∀ l, CellFate i s t l

theorem FirstOut.of_still {i : Instr} {s t : State} (h : Still s t) : FirstOut i s t := ⟨fun q => .kept (h.entries q), fun l => .kept (h.inFlight l)⟩
theorem FirstOut.refl (i : Instr) (s : State) : FirstOut i s s := .of_still (.refl s)
theorem FirstOut.ite {i : Instr} {s t : State} {c : Prop} [Decidable c] (h : c → FirstOut i s t) : FirstOut i s (if c then t else s) := by
  split
  · next hc => exact h hc
  · exact .refl i s
theorem FirstOut.of_next {i : Instr} {s t u : State} (h : (Host.Outcome.next u : Host.Outcome State Fault Refusal) = .next t) (k : FirstOut i s u) :
    FirstOut i s t := next_inj h ▸ k

/-! ### Fault entries -/

/-- R12: the entry of a link into FAULTED flushes its queues and ends its cell in flight. -/
theorem enterFaulted_firstOut {i : Instr} {s u : State} {l : Link} (before : Still s u) (queues : u.queues = s.queues)
    (notFaulted : (s.link l).state ≠ .faulted) (cause : FaultCause) : FirstOut i s (u.enterFaulted l cause) := by
  obtain ⟨own, flushed, -, -, -, -, otherLinks, otherQueues, -⟩ := enterFaulted_spec u l cause
  refine ⟨fun q => ?_, fun k => ?_⟩
  · by_cases onLink : queueLink q = l
    · subst onLink
      have emptied := flushed (queueClass q)
      rw [queueId_link_class] at emptied
      refine .flushed (.inr ⟨notFaulted, by rw [own]⟩) ?_
      rw [← queue_congr queues]
      exact emptied
    · exact .kept (by rw [otherQueues q onLink, queue_congr queues])
  · by_cases same : k = l
    · subst same
      exact .gone (by rw [own])
    · exact .kept ((inFlight_of_same (otherLinks k same)).trans (before.inFlight k))

theorem execCellArrival_firstOut {s t : State} {l : Link} {cell : Cell} (h : execCellArrival l cell s = .next t) :
    FirstOut (.cellArrival l cell) s t := by
  obtain still | ⟨u, cause, before, queues, -, up, rfl⟩ := execCellArrival_arrivalEnds h
  · exact .of_still still
  · exact enterFaulted_firstOut before queues (by rw [up]; decide) cause

/-! ### Admission -/

/-- R53, R59, R72: an admission appends one entry, of the queue's class, to some queues. -/
theorem admission_firstOut (s : State) : FirstOut .admission s s.admission := by
  obtain still | ⟨u, cell, cc, members, before, -, some, -, nodup, -, stored⟩ := admission_admissionEnds s
  · exact .of_still still
  · obtain ⟨h, rest, free⟩ := List.exists_cons_of_ne_nil some
    rw [stored]
    refine ⟨fun q => ?_, fun l => .kept ((inFlight_of_same (storeCell_same free l)).trans (before.inFlight l))⟩
    have queue := storeCell_queue (cell := cell) (cc := cc) free nodup q
    split at queue
    · next named =>
      refine .appended rfl ⟨h, cc, cellMark cell⟩ named.2.symm ?_
      rw [queue, ← before.entries q]
      rfl
    · exact .kept (by rw [queue, before.entries q])

/-! ### The next cell -/

/-- The choice of the next cell after the end of the one in flight, if any. -/
theorem chooseNext_firstOut {s u t : State} {l : Link} (up : (s.link l).state = .up) (entries : ∀ q, (u.queue q).entries = (s.queue q).entries)
    (cells : ∀ k, k ≠ l → (u.link k).inFlight = (s.link k).inFlight) (ended : (u.link l).inFlight = none) (stays : (u.link l).state = .up)
    (h : u.chooseNext l = .next t) : FirstOut (.nextCellEvent l) s t := by
  have states := chooseNext_statesKept stays h
  have own : CellFate (.nextCellEvent l) s t l := .started rfl up ((states l).trans stays)
  obtain still | ⟨v, c, before, -, selected⟩ := chooseNext_choiceEnds h
  · refine ⟨fun q => .kept ((still.entries q).trans (entries q)), fun k => ?_⟩
    by_cases same : k = l
    · exact .gone (by rw [still.inFlight, same, ended])
    · exact .kept ((still.inFlight k).trans (cells k same))
  · obtain ⟨e, rest, selects⟩ := selectFrom_selects selected
    refine ⟨fun q => ?_, fun k => ?_⟩
    · by_cases same : q = queueId l c
      · subst same
        refine .taken (by rw [queueLink_queueId]) (by rwa [queueLink_queueId]) e ?_
        rw [← entries, ← before.entries, selects.head, selects.entries]
      · exact .kept (by rw [selects.others q same, before.entries, entries])
    · by_cases same : k = l
      · exact same ▸ own
      · refine .kept ?_
        rw [selects.otherLinks k (by rwa [queueLink_queueId]), before.inFlight, cells k same]

theorem nextCell_firstOut {s t : State} {l : Link} (up : (s.link l).state = .up) (h : s.nextCell l = .next t) : FirstOut (.nextCellEvent l) s t := by
  unfold State.nextCell at h
  split at h
  · next idle => exact chooseNext_firstOut up (fun _ => rfl) (fun _ _ => rfl) idle up h
  · next b _ =>
    have entries : ∀ q, ((s.endData l b).queue q).entries = (s.queue q).entries := fun q => by rw [queue_congr (endData_queues s l b)]
    have cells : ∀ k, k ≠ l → ((s.endData l b).link k).inFlight = (s.link k).inFlight := fun k other => by
      unfold State.endData
      rw [link_modLink_ne _ _ _ _ other.symm, release_link]
    split at h
    · obtain rfl := next_inj h
      have disabled := enterDisabled_still (s.endData l b) l
      refine ⟨fun q => .kept ((disabled.entries q).trans (entries q)), fun k => ?_⟩
      by_cases same : k = l
      · exact .gone (by rw [disabled.inFlight, same, endData_inFlight])
      · exact .kept ((disabled.inFlight k).trans (cells k same))
    · exact chooseNext_firstOut up entries cells (endData_inFlight s l b) (by rw [endData_link]; exact up) h

/-! ### The monitor and the memory test -/

theorem visit_entries (s : State) (q k : QueueId) : ((s.visit q).queue k).entries = (s.queue k).entries := by
  have visited : ((s.setQueue q ((s.queue q).visited s.params (queueClass q))).queue k).entries = (s.queue k).entries := by
    rw [queue_setQueue]
    split
    · next e => exact e ▸ rfl
    · rfl
  unfold State.visit
  dsimp only
  split
  · rw [queue_congr (reportPause_queues _), visited]
  · exact visited

theorem monitorStep_firstOut (s : State) : FirstOut .monitorStep s s.monitorStep := by
  unfold State.monitorStep
  split
  · exact .of_still .of_links
  · refine ⟨fun q => .kept (visit_entries _ _ q), fun l => .kept ?_⟩
    unfold State.visit
    dsimp only
    split
    · rw [reportPause_port_inFlight]
      rfl
    · rfl

theorem memtestStep_firstOut (s : State) (passes : Bool) : FirstOut (.memtestStep passes) s (s.memtestStep passes) := by
  refine ⟨fun q => .kept (by rw [queue_congr (memtestStep_queues s passes)]), fun l => .kept ?_⟩
  obtain idle | ⟨n, tested, failed, first, retired, running⟩ := memtestStep_cases s passes
  · rw [idle]
  · rw [memtestStep_running passes running, stepOp_inFlight]
    rfl

/-! ### Requests -/

/-- A request served, by what its execution does to the queues and to the cells in flight. -/
theorem serve_firstOut {i : Instr} (s : State) (row : RequestRow) (execute : Payload → State → Answer × State)
    (entries : ∀ r q, s.headRequest row = some r → ((execute r.record (dequeued s)).2.queue q = s.queue q ∨
      ((∀ t, s.flushEvent i q t) ∧ (execute r.record (dequeued s)).2.queue q = (s.queue q).flushed)))
    (cells : ∀ r l, ((execute r (dequeued s)).2.link l).inFlight = (s.link l).inFlight ∨ ((execute r (dequeued s)).2.link l).inFlight = none) :
    FirstOut i s (s.serve row execute) := by
  obtain same | ⟨r, head, after, queues, -⟩ := serve_executed s row execute
  · rw [same]
    exact .refl i s
  · refine ⟨fun q => ?_, fun l => ?_⟩
    · obtain kept | ⟨event, flushed⟩ := entries r q head
      · exact .kept (by rw [queue_congr queues, kept])
      · exact .flushed (event _) (by rw [queue_congr queues, flushed])
    · obtain kept | gone := cells r.record l
      · exact .kept ((after.inFlight l).trans kept)
      · exact .gone ((after.inFlight l).trans gone)

theorem hasRequest_of_head {s : State} {row : RequestRow} {r : Carried} (h : s.headRequest row = some r) :
    s.hasRequest r.link r.record s.agent.queue.tail ∧ requestRow r.record = row := by
  obtain ⟨high, ready, kind, queue⟩ := headRequest_some h
  exact ⟨⟨high, ready, queue⟩, kind⟩

theorem linkOf_some {b : Byte} {l : Link} (h : linkOf b = some l) : b.toNat = l.val := by
  unfold linkOf at h
  split at h
  · cases h
    rfl
  · cases h

theorem flush_firstOut (s : State) : FirstOut .flush s (s.serve .flush answerFlush) := by
  refine serve_firstOut s _ _ (fun r q head => ?_) fun r l => .inl ?_
  · unfold answerFlush
    split
    · exact .inl rfl
    · next l named =>
      obtain ⟨request, kind⟩ := hasRequest_of_head head
      by_cases own : queueLink q = l
      · subst own
        exact .inr ⟨fun _ => .inl ⟨_, _, _, request, .inl ⟨rfl, kind, linkOf_some named⟩⟩,
          (flushQueues_linkQueues (dequeued s) _ q).trans (if_pos rfl)⟩
      · exact .inl ((flushQueues_linkQueues (dequeued s) l q).trans (if_neg own))
  · unfold answerFlush
    split
    · rfl
    · exact flushQueues_port_inFlight (dequeued s) _ l

theorem retrainLink_cells (s : State) (l k : Link) :
    ((s.retrainLink l).link k).inFlight = (s.link k).inFlight ∨ ((s.retrainLink l).link k).inFlight = none := by
  by_cases same : k = l
  · refine .inr ?_
    rw [retrainLink_eq, (enterTraining_still _ l _).inFlight]
    unfold retrainFlushed
    rw [flushQueues_port_inFlight, retrainQuiet_link, if_pos same]
  · exact .inl (inFlight_of_same (retrainLink_other s l k same).1)

theorem retrain_firstOut (s : State) : FirstOut .retrain s (s.serve .retrain answerRetrain) := by
  refine serve_firstOut s _ _ (fun r q head => ?_) fun r l => ?_
  · unfold answerRetrain
    split
    · exact .inl rfl
    · next l named =>
      split
      · exact .inl rfl
      · obtain ⟨request, kind⟩ := hasRequest_of_head head
        by_cases own : queueLink q = l
        · subst own
          exact .inr ⟨fun _ => .inl ⟨_, _, _, request, .inr (.inl ⟨rfl, kind, linkOf_some named⟩)⟩,
            (retrainLink_queue (dequeued s) _ q).trans (if_pos rfl)⟩
        · exact .inl ((retrainLink_queue (dequeued s) l q).trans (if_neg own))
  · unfold answerRetrain
    split
    · exact .inl rfl
    · split
      · exact .inl rfl
      · exact retrainLink_cells (dequeued s) _ l

/-- R78: a Datapath Reset flushes every queue. -/
theorem resetDatapath_queue (s : State) (q : QueueId) : s.resetDatapath.queue q = (s.queue q).flushed := by
  have flushed := flushQueues_queue s.abortOp allQueues (List.nodup_finRange 128) q
  rw [if_pos (show q ∈ allQueues from List.mem_finRange q), abortOp_queue] at flushed
  rw [← flushed]
  unfold State.resetDatapath
  exact queue_congr (by simp) q

theorem resetDatapath_inFlight (s : State) (l : Link) : (s.resetDatapath.link l).inFlight = (s.link l).inFlight := by
  unfold State.resetDatapath
  rw [(resetSchedulers_still _).inFlight, (emptyReceiveBuffers_still _).inFlight, flushQueues_port_inFlight, abortOp_port_inFlight]

theorem datapathReset_firstOut (s : State) : FirstOut .datapathReset s (s.serve .datapathReset answerDatapathReset) := by
  refine serve_firstOut s _ _ (fun r q head => ?_) fun r l => .inl (resetDatapath_inFlight (dequeued s) l)
  obtain ⟨request, kind⟩ := hasRequest_of_head head
  exact .inr ⟨fun _ => .inl ⟨_, _, _, request, .inr (.inr ⟨rfl, kind⟩)⟩, resetDatapath_queue (dequeued s) q⟩

/-- A request whose execution leaves links and queues alone. -/
theorem serve_firstOut_aside {i : Instr} (s : State) (row : RequestRow) (execute : Payload → State → Answer × State)
    (links : ∀ r u, (execute r u).2.links = u.links) (queues : ∀ r u, (execute r u).2.queues = u.queues) : FirstOut i s (s.serve row execute) :=
  serve_firstOut s row execute (fun r q _ => .inl (queue_congr (queues r.record (dequeued s)) q))
    fun r l => .inl (congrArg LinkPort.inFlight (link_congr (links r (dequeued s)) l))

/-! ### Every command -/

theorem exec_firstOut {i : Instr} {s t : State} (notReset : i.isReset = false) (h : exec i s = .next t) : FirstOut i s t := by
  cases moves : movesCells i with
  | false => exact .of_still (exec_still moves h)
  | true =>
    cases i with
    | rstNRise | rstNFall => cases notReset
    | cellArrival l cell => exact execCellArrival_firstOut h
    | trainingWindowExpiry l =>
      exact .of_next h (.ite fun hc => enterFaulted_firstOut (.refl s) rfl (by rw [hc.2.1]; decide) _)
    | keepaliveExpiry l => exact .of_next h (.ite fun hc => enterFaulted_firstOut (.refl s) rfl (by rw [hc.2.1]; decide) _)
    | admission => exact .of_next h (.ite fun _ => admission_firstOut s)
    | nextCellEvent l =>
      change execNextCellEvent l s = .next t at h
      unfold execNextCellEvent at h
      split at h
      · next hc => exact nextCell_firstOut hc.2 h
      · exact .of_next h (.refl _ s)
    | monitorStep => exact .of_next h (.ite fun _ => monitorStep_firstOut s)
    | memtestStep passes => exact .of_next h (.ite fun _ => memtestStep_firstOut s passes)
    | startMemoryTest => exact .of_next h (serve_firstOut_aside s _ _ answerStartMemoryTest_links answerStartMemoryTest_queues)
    | flush => exact .of_next h (flush_firstOut s)
    | retrain => exact .of_next h (retrain_firstOut s)
    | datapathReset => exact .of_next h (datapathReset_firstOut s)
    | setParameter => exact .of_next h (serve_firstOut_aside s _ _ answerSetParameter_links answerSetParameter_queues)
    | _ => cases moves

/-- Settles O16: the fate of each queue and of each cell in flight at a command. -/
theorem queuesAreFirstInFirstOut : Obligations.QueuesAreFirstInFirstOut := by
  refine ⟨fun i s t q notReset h => ?_, fun i s t l a notReset h sent notBefore => ?_⟩
  · cases (exec_firstOut notReset h).entries q with
    | kept same => exact .inl same
    | appended admission e copy tail => exact .inr (.inl ⟨admission, e, copy, tail⟩)
    | taken next up e head => exact .inr (.inr (.inl ⟨next, up, e, head⟩))
    | flushed event flushed => exact .inr (.inr (.inr ⟨event, queueFlushed_of s t q flushed⟩))
  · cases (exec_firstOut notReset h).cells l with
    | kept same => exact absurd (same ▸ sent) notBefore
    | gone none => rw [none] at sent; cases sent
    | started next up stays => exact ⟨next, up, stays⟩

end Sys2Proof.DataPath
end

section
/-! PROOFS. The requests that start a long operation: Fill Entries, Copy Bank, Digest Bank and Start Memory Test (R150, R151, R166). -/

namespace Sys2Proof.DataPath

open Sys2Proof.Machine Sys2Proof.Laws Sys2Proof.LinkPorts Sys2Proof.ForwardingTables

theorem requestRow_fillEntries {r : Payload} (h : recByte r 0 = 0x13) : requestRow r = .fillEntries := by
  unfold requestRow
  rw [h]
  rfl
theorem requestRow_copyBank {r : Payload} (h : recByte r 0 = 0x14) : requestRow r = .copyBank := by
  unfold requestRow
  rw [h]
  rfl
theorem requestRow_digestBank {r : Payload} (h : recByte r 0 = 0x15) : requestRow r = .digestBank := by
  unfold requestRow
  rw [h]
  rfl
theorem requestRow_startMemoryTest {r : Payload} (h : recByte r 0 = 0x34) : requestRow r = .startMemoryTest := by
  unfold requestRow
  rw [h]
  rfl

/-- R150, R142: the request starts an operation with this record, executed on `u`, and its ACCEPTED response reports the record. -/
def Starts (s : State) (l : Link) (r : Payload) (rest : List Carried) (i : Instr) (u : State) (record : OpRecord) : Prop :=
  ∃ reply, s.answers i ({ u with op := some record }) l rest reply ∧ recByte reply 0 = recByte r 0 ∧ recByte reply 1 = 1 ∧
    recWord reply 2 = recWord r 2 ∧ operationAt reply 4 (some record) ∧ ∀ n, 20 ≤ n → recByte reply n = 0

theorem starts_of {s u : State} {l : Link} {r : Payload} {rest : List Carried} {i : Instr} {row : RequestRow}
    {execute : Payload → State → Answer × State} {progress : Nat} {w : Work} (hi : exec i s = .next (s.serve row execute))
    (h : s.hasRequest l r rest) (hr : requestRow r = row) (ha : execute r (requeued s rest) = startOp (requeued u rest) progress w) :
    Starts s l r rest i u ⟨.running, progress, w⟩ := by
  have length : (startOp (requeued u rest) progress w).1.data.length = 16 := opBytes_len _ _
  refine ⟨replyBytes r 1 (startOp (requeued u rest) progress w).1.data, answers_of (exec_answered hi _ _ h hr ha rfl rfl), recByte_reply_kind ..,
    recByte_reply_result .., recWord_reply_tag .., operationAt_of _ 4 (fun n => (requeued u rest).freeByte (16 + n)) _ fun n hn => ?_,
    fun n hn => recByte_reply_beyond _ _ _ n (by omega)⟩
  rw [recByte_reply _ _ _ _ (by omega), if_pos (by omega), Nat.add_sub_cancel_left]
  rfl

/-! ### What each request is judged by -/

/-- R151: the range of a Fill Entries lies in its table and its entry may be written. -/
def fillFits (r : Payload) (tb : Table) : Prop :=
  (recWord r 6).toNat ≤ (recWord r 8).toNat ∧ (recWord r 8).toNat < tb.size ∧ mayBeWritten (recEntry r tb 16)

theorem not_fillFits_iff (r : Payload) (tb : Table) : ¬ fillFits r tb ↔
    (recWord r 8).toNat < (recWord r 6).toNat ∨ tb.size ≤ (recWord r 8).toNat ∨ (recEntry r tb 16).carriedGood = false := by
  unfold fillFits
  rw [not_and_or, not_and_or, not_le, not_lt, ← carriedGood_iff, Bool.not_eq_true]

theorem answerFillEntries_table {r : Payload} (s : State) {tb : Table} (table : tableOf (recByte r 4) = some tb) :
    (¬ fillFits r tb → answerFillEntries r s = (.refuse .badRange, s)) ∧
    (fillFits r tb → s.epoch.swapPending = true → answerFillEntries r s = (.refuse .badState, s)) ∧
    (fillFits r tb → s.epoch.swapPending = false → s.opRunning = true → answerFillEntries r s = (.refuse .busy, s)) ∧
    (fillFits r tb → s.epoch.swapPending = false → s.opRunning = false → answerFillEntries r s =
      startOp s (recWord r 6).toNat (.fill (s.bankOf .standby) (recEntry r tb 16) (recWord r 6).toNat (recWord r 8).toNat 0)) := by
  have fit : fillFits r tb → ¬ _ := fun good bad => (not_fillFits_iff r tb).2 bad good
  unfold answerFillEntries
  rw [table]
  refine ⟨fun misfit => if_pos ((not_fillFits_iff r tb).1 misfit), fun good pending => (if_neg (fit good)).trans (if_pos pending),
    fun good settled busy => (if_neg (fit good)).trans ?_, fun good settled idle => (if_neg (fit good)).trans ?_⟩
  · rw [if_neg (by simp [settled]), if_pos busy]
  · rw [if_neg (by simp [settled]), if_neg (by simp [idle])]
    rfl

theorem answerFillEntries_noTable {r : Payload} (s : State) (h : 1 < (recByte r 4).toNat) : answerFillEntries r s = (.refuse .badRange, s) := by
  unfold answerFillEntries
  rw [tableOf_none _ h]

theorem answerCopyBank_cases (r : Payload) (s : State) :
    (s.epoch.swapPending = true → answerCopyBank r s = (.refuse .badState, s)) ∧
    (s.epoch.swapPending = false → s.opRunning = true → answerCopyBank r s = (.refuse .busy, s)) ∧
    (s.epoch.swapPending = false → s.opRunning = false →
      answerCopyBank r s = startOp s 0 (.copy s.tables.active (s.bankOf .standby) 0 0)) := by
  unfold answerCopyBank
  refine ⟨fun pending => if_pos pending, fun settled busy => ?_, fun settled idle => ?_⟩
  · rw [if_neg (by simp [settled]), if_pos busy]
  · rw [if_neg (by simp [settled]), if_neg (by simp [idle])]

theorem answerDigestBank_noScope {r : Payload} (s : State) (h : 1 < (recByte r 4).toNat ∨ 1 < (recByte r 5).toNat) :
    answerDigestBank r s = (.refuse .badRange, s) := by
  unfold answerDigestBank
  split
  · next table role =>
    obtain h | h := h
    · rw [tableOf_none _ h] at table
      cases table
    · rw [roleOf_none _ h] at role
      cases role
  · rfl

theorem answerDigestBank_scope {r : Payload} (s : State) {tb : Table} {role : Role} (table : tableOf (recByte r 4) = some tb)
    (named : roleOf (recByte r 5) = some role) : (s.opRunning = true → answerDigestBank r s = (.refuse .busy, s)) ∧
    (s.opRunning = false → answerDigestBank r s = startOp s 0 (.digest tb (s.bankOf role) role 0 (BitVec.allOnes 32) none)) := by
  unfold answerDigestBank
  rw [table, named]
  exact ⟨fun busy => if_pos busy, fun idle => if_neg (by simp [idle])⟩

theorem answerStartMemoryTest_cases (r : Payload) (s : State) :
    (s.opRunning = true → answerStartMemoryTest r s = (.refuse .busy, s)) ∧
    (s.opRunning = false → s.pool.free.length + s.pool.retired.length ≠ 16384 → answerStartMemoryTest r s = (.refuse .badState, s)) ∧
    (s.opRunning = false → s.pool.free.length + s.pool.retired.length = 16384 → answerStartMemoryTest r s =
      startOp { s with pool := s.pool.startTest s.params.poolLow } 0 (.memtest 0 0 none none)) := by
  unfold answerStartMemoryTest
  refine ⟨fun busy => if_pos busy, fun idle held => ?_, fun idle whole => ?_⟩
  · rw [if_neg (by simp [idle])]
    exact if_pos held
  · rw [if_neg (by simp [idle])]
    exact if_neg (not_not.2 whole)

/-- Settles O52: each request is judged in its order, and one that passes ends in `startOp`. -/
theorem longRequestsStartOperations : Obligations.LongRequestsStartOperations := by
  intro s l r rest h
  dsimp only
  refine ⟨fun kind => ?_, fun kind => ?_, fun kind => ?_, fun kind => ?_⟩
  · have row := requestRow_fillEntries kind
    refine ⟨fun high => answers_refused rfl .badRange h row (answerFillEntries_noTable _ high) rfl, fun tb named => ?_⟩
    obtain ⟨misfit, badState, busy, starts⟩ := answerFillEntries_table (requeued s rest) (tableOf_eq _ tb named)
    refine ⟨fun bad => ?_, fun ordered inside good => ⟨fun pending => ?_, fun settled running => ?_, fun settled idle => ?_⟩⟩
    · refine answers_refused rfl .badRange h row (misfit ?_) rfl
      rintro ⟨ordered, inside, good⟩
      obtain bad | bad | bad := bad
      · omega
      · omega
      · exact bad good
    · exact answers_refused rfl .badState h row (badState ⟨ordered, inside, good⟩ pending) rfl
    · exact answers_refused rfl .busy h row (busy ⟨ordered, inside, good⟩ settled running) rfl
    · exact starts_of rfl h row (starts ⟨ordered, inside, good⟩ settled idle)
  · have row := requestRow_copyBank kind
    obtain ⟨badState, busy, starts⟩ := answerCopyBank_cases r (requeued s rest)
    exact ⟨fun pending => answers_refused rfl .badState h row (badState pending) rfl,
      fun settled running => answers_refused rfl .busy h row (busy settled running) rfl,
      fun settled idle => starts_of rfl h row (starts settled idle)⟩
  · have row := requestRow_digestBank kind
    refine ⟨fun high => answers_refused rfl .badRange h row (answerDigestBank_noScope _ high) rfl, fun tb role table named => ?_⟩
    obtain ⟨busy, starts⟩ := answerDigestBank_scope (requeued s rest) (tableOf_eq _ tb table) (roleOf_eq _ role named)
    exact ⟨fun running => answers_refused rfl .busy h row (busy running) rfl, fun idle => starts_of rfl h row (starts idle)⟩
  · have row := requestRow_startMemoryTest kind
    obtain ⟨busy, badState, starts⟩ := answerStartMemoryTest_cases r (requeued s rest)
    refine ⟨fun running => answers_refused rfl .busy h row (busy running) rfl,
      fun idle held => answers_refused rfl .badState h row (badState idle held) rfl, fun idle whole => ?_⟩
    exact ⟨HandleSet.union s.pool.free s.pool.underTest, fun a => mem_union,
      starts_of (u := { s with pool := s.pool.startTest s.params.poolLow }) rfl h row (starts idle whole)⟩

end Sys2Proof.DataPath
end

section
/-! PROOFS. Datapath Reset: the abort, the flush of every queue, the empty receive buffers and the schedulers at their start (R78, R168). -/

namespace Sys2Proof.DataPath

open Sys2Proof.Machine Sys2Proof.Laws Sys2Proof.LinkPorts Sys2Proof.ForwardingTables

/-! ### The abort -/

theorem abortOp_idle {s : State} (h : s.opRunning = false) : s.abortOp = s := by
  unfold State.abortOp
  split
  · next running => simp [State.opRunning, running] at h
  · next running => simp [State.opRunning, running] at h
  · rfl

/-- R168: the work an abort records: a memory test with the number of retired buffers, another operation as it stands. -/
def abortedWork (retired : Nat) : Work → Work
  | .memtest tested failed first _ => .memtest tested failed first (some retired)
  | other => other

theorem abortOp_running {s : State} {progress : Nat} {w : Work} (h : s.op = some ⟨.running, progress, w⟩) :
    FlagSet.has s.abortOp.attn.flags .operationEnded = true ∧
    s.abortOp.op = some ⟨.aborted, progress, abortedWork s.pool.retired.length w⟩ := by
  unfold State.abortOp
  rw [h]
  cases w <;> exact ⟨raise_flag_set _ _, raise_op ..⟩

theorem abortOp_attn (s : State) : s.abortOp.attn.links = s.attn.links ∧ s.recordsKept s.abortOp := by
  unfold State.recordsKept State.abortOp
  split
  · simp
  · simp
  · exact ⟨rfl, rfl, rfl⟩

theorem abortOp_same (s : State) (k : Link) : (s.abortOp.link k).sameButPending (s.link k) := by
  unfold State.abortOp
  split
  · exact raise_same _ _ k
  · exact raise_same _ _ k
  · exact sameButPending_refl _

/-! ### The ports -/

/-- R78 steps 3 and 4: a port with its receive buffer emptied into overruns and its scheduler at its start. -/
def resetPort (weight : Nat) (p : LinkPort) : LinkPort :=
  { p with rxBuf := [], wrrClass := .one, wrrCount := weight, counters := { p.counters with overruns := bump p.counters.overruns p.rxBuf.length } }

theorem resetDatapath_link (s : State) (k : Link) :
    s.resetDatapath.link k = resetPort s.params.weight1 ((s.abortOp.flushQueues allQueues).link k) := by
  unfold State.resetDatapath State.resetSchedulers
  rw [link_mapLinks]
  unfold State.emptyReceiveBuffers
  rw [link_mapLinks, mapLinks_params, flushQueues_params, abortOp_params]
  rfl

theorem resetPort_same {p q : LinkPort} (weight : Nat) (h : p.sameButPending q) : (resetPort weight p).sameButPending (resetPort weight q) := by
  obtain ⟨same, flowst, attn⟩ := h
  exact ⟨congrArg (resetPort weight) same, flowst, attn⟩

theorem resetDatapath_same (s : State) (k : Link) : (s.resetDatapath.link k).sameButPending (resetPort s.params.weight1 (s.link k)) := by
  rw [resetDatapath_link]
  exact resetPort_same _ (sameButPending_trans (flushQueues_same _ _ k) (abortOp_same s k))

theorem resetDatapath_pendAttn {s : State} (idle : s.opRunning = false) (k : Link) : (s.resetDatapath.link k).pendAttn = (s.link k).pendAttn := by
  rw [resetDatapath_link, abortOp_idle idle]
  exact flushQueues_port_pendAttn s allQueues k

/-! ### The report, the pool, the record -/

theorem allQueues_anyPaused (s : State) :
    (allQueues.any fun q => decide ((s.queue q).pause = .paused)) = decide (∃ q, (s.queue q).pause = .paused) := by
  rw [Bool.eq_iff_iff]
  simp [allQueues]

theorem resetDatapath_flow (s : State) : s.resetDatapath.flow = (s.abortOp.flushQueues allQueues).flow := by
  simp [State.resetDatapath]

/-- R75, R112: the flushes make one report. -/
theorem resetDatapath_flushReported (s : State) (k : Link) :
    s.flushReported (decide (∃ q, (s.queue q).pause = .paused)) s.resetDatapath k := by
  have reported := flushQueues_flushReported s.abortOp allQueues k
  have paused := allQueues_anyPaused s
  unfold State.flushReported at reported ⊢
  simp only [abortOp_queue, abortOp_flow, abortOp_params, abortOp_port_pendFlowst, abortOp_port_state] at reported
  rw [paused] at reported
  rw [resetDatapath_link, resetDatapath_flow]
  exact reported

/-- The handles of all queues, in the order a Datapath Reset releases them. -/
def queuedHandles (s : State) : List Handle := (List.finRange 128).flatMap fun q => (s.queue q).entries.map QueueEntry.handle

theorem resetDatapath_pool (s : State) : s.resetDatapath.pool = s.abortOp.poolReleasing (queuedHandles s) := by
  have released := flushQueues_pool s.abortOp allQueues (List.nodup_finRange 128)
  simp only [abortOp_queue] at released
  refine Eq.trans ?_ released
  simp [State.resetDatapath]

theorem resetDatapath_pool_noTest {s : State} (noTest : s.memtestRunning = false) : s.resetDatapath.pool = s.poolReleasing (queuedHandles s) := by
  rw [resetDatapath_pool]
  unfold State.poolReleasing
  rw [abortOp_params, abortOp_pool, if_neg (by simp [noTest])]

/-- R168: with nothing queued, as in a memory test, the reset rebuilds the free list from what is under test. -/
theorem resetDatapath_pool_test {s : State} (test : s.memtestRunning = true) (none : queuedHandles s = []) :
    s.resetDatapath.pool = s.pool.rebuild s.params.poolLow := by
  rw [resetDatapath_pool, none]
  exact (abortOp_pool s).trans (if_pos test)

theorem resetDatapath_record (s : State) : s.resetDatapath.op = s.abortOp.op ∧ s.resetDatapath.attn = s.abortOp.attn := by
  simp [State.resetDatapath]

theorem resetDatapath_idle {s : State} (idle : s.opRunning = false) : s.resetDatapath.op = s.op ∧ s.resetDatapath.attn = s.attn := by
  have record := resetDatapath_record s
  rwa [abortOp_idle idle] at record

theorem resetDatapath_running {s : State} {progress : Nat} {w : Work} (running : s.op = some ⟨.running, progress, w⟩) :
    FlagSet.has s.resetDatapath.attn.flags .operationEnded = true ∧
    s.resetDatapath.op = some ⟨.aborted, progress, abortedWork s.pool.retired.length w⟩ := by
  obtain ⟨op, attn⟩ := resetDatapath_record s
  rw [op, attn]
  exact abortOp_running running

theorem resetDatapath_attn (s : State) : s.resetDatapath.attn.links = s.attn.links ∧ s.recordsKept s.resetDatapath := by
  obtain ⟨-, attn⟩ := resetDatapath_record s
  unfold State.recordsKept
  rw [attn]
  exact abortOp_attn s

/-- What a Datapath Reset keeps. -/
theorem resetDatapath_frame (s : State) : s.resetDatapath.tables = s.tables ∧ s.resetDatapath.globals = s.globals ∧ s.resetDatapath.agent = s.agent ∧
    s.resetDatapath.params = s.params ∧ s.resetDatapath.monitor = s.monitor ∧ s.resetDatapath.epoch = s.epoch ∧ s.resetDatapath.scrub = s.scrub ∧
    s.resetDatapath.rrPtr = s.rrPtr ∧ s.resetDatapath.straps = s.straps := by simp

theorem requestRow_datapathReset {r : Payload} (h : recByte r 0 = 0x32) : requestRow r = .datapathReset := by
  unfold requestRow
  rw [h]
  rfl

/-- Settles O56: the reset is executed on the state whose queue the request has left, and what it does there is read off its four steps. -/
theorem datapathResetEmptiesTheDataPath : Obligations.DatapathResetEmptiesTheDataPath := by
  intro s l r rest h kind
  have queues := resetDatapath_queue (requeued s rest)
  have reported := resetDatapath_flushReported (requeued s rest)
  have pending := resetDatapath_pendAttn (s := requeued s rest)
  have ports := resetDatapath_same (requeued s rest)
  have noTest := resetDatapath_pool_noTest (s := requeued s rest)
  have test := resetDatapath_pool_test (s := requeued s rest)
  have idle := resetDatapath_idle (s := requeued s rest)
  have running := @resetDatapath_running (requeued s rest)
  obtain ⟨links, records⟩ := resetDatapath_attn (requeued s rest)
  obtain ⟨tables, globals, agent, params, monitor, epoch, scrub, rrPtr, straps⟩ := resetDatapath_frame (requeued s rest)
  have answered : s.answers .datapathReset (requeued (requeued s rest).resetDatapath s.agent.queue) l rest (replyBytes r 0 []) :=
    answers_requeued rfl h (requestRow_datapathReset kind) rfl (congrArg Agent.queue agent) rfl rfl
  generalize (requeued s rest).resetDatapath = t at *
  have agent' : (requeued t s.agent.queue).agent = s.agent := by
    unfold requeued
    rw [agent]
    rfl
  exact ⟨_, answered, fun q => queueFlushed_of s (requeued t s.agent.queue) q (queues q), reported, pending, ports, ⟨noTest, test⟩, idle,
    fun progress w record => running record, tables, globals, agent', params, monitor, epoch, scrub, rrPtr, straps, records, links⟩

end Sys2Proof.DataPath
end

section
/-! PROOFS. The choice of the next cell of a link in UP (R82 to R96): the non-data cells in their order, and the data cell that is selected. -/

namespace Sys2Proof.Egress

open Sys2Proof.Machine Sys2Proof.Laws Sys2Proof.LinkPorts

/-! ### The held response (R139) -/

theorem placeHeld_elsewhere {s : State} {l : Link} (h : ∀ r, s.agent.held = some r → r.link ≠ l) : s.placeHeld l = s := by
  unfold State.placeHeld
  split
  · rfl
  · next r held => exact if_neg (h r held)

/-- The state with no response held. -/
def heldCleared (s : State) : State := { s with agent := { s.agent with held := none } }

theorem heldCleared_modLink (s : State) (l : Link) (f : LinkPort → LinkPort) : (heldCleared s).modLink l f = heldCleared (s.modLink l f) := rfl

theorem placeHeld_here {s : State} {l : Link} {waiting : Payload} (h : s.agent.held = some ⟨l, waiting⟩) :
    s.placeHeld l = heldCleared (s.modLink l fun p => { p with respQueue := p.respQueue ++ [waiting] }) := by
  unfold State.placeHeld
  rw [h]
  exact if_pos rfl

/-! ### The order of the choice (R83) -/

/-- R85: the state once the pending ATTN flag of a link is dropped unsent. -/
def attnDropped (s : State) (l : Link) : State := s.modLink l fun p => { p with pendAttn := false }

theorem attnDropped_link (s : State) (l : Link) : (attnDropped s l).link l = { s.link l with pendAttn := false } := link_modLink_same ..

theorem attnDropped_queue (s : State) (l : Link) (q : QueueId) : (attnDropped s l).queue q = s.queue q := modLink_queue ..

theorem attnDropped_waiting (s : State) (l k : Link) (c : Sys2Proof.Class) : (attnDropped s l).waiting k c = s.waiting k c := by
  unfold State.waiting
  rw [attnDropped_queue]

theorem chooseNext_mrsp {s : State} {l : Link} {record : Payload} {more : List Payload} (queued : (s.link l).respQueue = record :: more) :
    s.chooseNext l = .next (s.sendMrsp l record more) := by
  unfold State.chooseNext
  rw [queued]

theorem chooseNext_attn {s : State} {l : Link} (noResponse : (s.link l).respQueue = []) (pending : (s.link l).pendAttn = true)
    (permitted : LinkSet.has s.agent.permitted l = true) : s.chooseNext l = .next (s.sendAttn l) := by
  unfold State.chooseNext
  simp only [noResponse, pending, permitted, if_true]

/-- R85: with no ATTN to send the choice goes on as if the flag were clear, whether it was or is dropped. -/
theorem chooseNext_dropsAttn {s : State} {l : Link} (noResponse : (s.link l).respQueue = [])
    (unsent : (s.link l).pendAttn = true → LinkSet.has s.agent.permitted l = false) :
    s.chooseNext l = (attnDropped s l).chooseAfterAttn l := by
  unfold State.chooseNext
  rw [noResponse]
  by_cases pending : (s.link l).pendAttn = true
  · simp only [pending, unsent pending, if_true, Bool.false_eq_true, if_false]
    rfl
  · have clear : attnDropped s l = s := modLink_id s l _ (by rw [← Bool.eq_false_of_not_eq_true pending])
    simp only [if_neg pending, clear]

theorem chooseAfterAttn_flowst {s : State} {l : Link} (pending : (s.link l).pendFlowst = true) :
    s.chooseAfterAttn l = .next (s.sendFlowst l) := if_pos pending

theorem chooseAfterAttn_data {s : State} {l : Link} (clear : (s.link l).pendFlowst = false) (ready : s.dataReady l = true) :
    s.chooseAfterAttn l = s.sendData l := by
  unfold State.chooseAfterAttn
  rw [if_neg (by simp [clear]), if_pos ready]

theorem chooseAfterAttn_idle {s : State} {l : Link} (clear : (s.link l).pendFlowst = false) (unready : s.dataReady l = false) :
    s.chooseAfterAttn l = .next (s.sendIdle l) := by
  unfold State.chooseAfterAttn
  rw [if_neg (by simp [clear]), if_neg (by simp [unready])]

/-! ### Data to send (R83, R88) -/

theorem waiting_iff (s : State) (l : Link) (c : Sys2Proof.Class) : s.waiting l c = true ↔ (s.queue (queueId l c)).entries ≠ [] := by
  simp [State.waiting]

theorem dataReady_iff (s : State) (l : Link) :
    s.dataReady l = true ↔ (∃ c, s.waiting l c = true) ∧ max (slot s.params.gap l) (s.link l).farGap ≤ (s.link l).gapCount := by
  have classes : (∃ c, s.waiting l c = true) ↔ (s.waiting l 0 || s.waiting l 1 || s.waiting l 2 || s.waiting l 3) = true := by
    simp [Fin.exists_fin_succ, or_assoc]
  rw [classes, State.dataReady, Bool.and_eq_true, decide_eq_true_iff, State.effectiveGap]

/-! ### The cells the device builds (R84 to R87, R89) -/

theorem sendNonData_eq (s : State) (l : Link) (kind : SentKind) (bytes : Cell) : s.sendNonData l kind bytes =
    s.modLink l fun p => { p with sending := .cell kind bytes, gapCount := min 15 (p.gapCount + 1) } := rfl

theorem sendMrsp_unheld {s : State} {l : Link} {record : Payload} {more : List Payload} (h : ∀ r, s.agent.held = some r → r.link ≠ l) :
    s.sendMrsp l record more = s.modLink l fun p =>
      { p with respQueue := more, sending := .cell .mrsp (mrspCell s.straps.plane record), gapCount := min 15 (p.gapCount + 1) } := by
  unfold State.sendMrsp
  rw [placeHeld_elsewhere (by exact h), sendNonData_eq, modLink_modLink]

theorem sendMrsp_held {s : State} {l : Link} {record waiting : Payload} {more : List Payload} (h : s.agent.held = some ⟨l, waiting⟩) :
    s.sendMrsp l record more = heldCleared (s.modLink l fun p =>
      { p with respQueue := more ++ [waiting], sending := .cell .mrsp (mrspCell s.straps.plane record), gapCount := min 15 (p.gapCount + 1) }) := by
  unfold State.sendMrsp
  rw [placeHeld_here (by exact h), sendNonData_eq, heldCleared_modLink, modLink_modLink, modLink_modLink]

theorem sendAttn_eq (s : State) (l : Link) : s.sendAttn l = s.modLink l fun p =>
    { p with pendAttn := false, sending := .cell .attn (attnCell s.straps.plane s.epoch.number s.attn.flags s.attn.links),
             gapCount := min 15 (p.gapCount + 1) } := by
  unfold State.sendAttn
  rw [sendNonData_eq, modLink_modLink]

/-- R86: the paused set by queue number. -/
theorem pausedAt_eq (s : State) : s.pausedAt = fun n => decide (∃ q : QueueId, q.val = n ∧ (s.queue q).pause = .paused) := by
  funext n
  unfold State.pausedAt
  split
  · next inside => exact decide_eq_decide.2 ⟨fun paused => ⟨⟨n, inside⟩, rfl, paused⟩, fun ⟨_, number, paused⟩ => by subst number; exact paused⟩
  · next outside => exact (decide_eq_false fun ⟨q, number, _⟩ => outside (number ▸ q.isLt)).symm

theorem sendFlowst_attnDropped (s : State) (l : Link) : (attnDropped s l).sendFlowst l = s.modLink l fun p =>
    { p with pendAttn := false, pendFlowst := false, gapCount := min 15 (p.gapCount + 1),
             sending := .cell .flowst (flowstCell s.straps.plane s.epoch.number fun n =>
               decide (∃ q : QueueId, q.val = n ∧ (s.queue q).pause = .paused)) } := by
  unfold State.sendFlowst
  simp only [pausedAt_eq, attnDropped_queue]
  rw [sendNonData_eq, attnDropped, modLink_modLink, modLink_modLink]
  rfl

theorem sendIdle_attnDropped (s : State) (l : Link) : (attnDropped s l).sendIdle l = s.modLink l fun p =>
    { p with pendAttn := false, sending := .cell .idle (idleCell s.straps.plane), gapCount := min 15 (p.gapCount + 1) } := by
  unfold State.sendIdle
  rw [sendNonData_eq, attnDropped, modLink_modLink]
  rfl

theorem dataReady_attnDropped (s : State) (l : Link) : (attnDropped s l).dataReady l = s.dataReady l := by
  unfold State.dataReady State.effectiveGap
  simp only [attnDropped_waiting, attnDropped_link]
  rfl

theorem dataReady_false {s : State} {l : Link}
    (h : (∀ c, (s.queue (queueId l c)).entries = []) ∨ (s.link l).gapCount < max (slot s.params.gap l) (s.link l).farGap) :
    s.dataReady l = false := by
  refine Bool.eq_false_of_not_eq_true fun ready => ?_
  obtain ⟨⟨c, waiting⟩, gap⟩ := (dataReady_iff s l).1 ready
  obtain empty | short := h
  · exact (waiting_iff s l c).1 waiting (empty c)
  · exact absurd gap short.not_ge

/-- Settles O36: the choice is taken in the order of R83, and each cell it can take is the one stated. -/
theorem nonDataCellsInOrder : Obligations.NonDataCellsInOrder := by
  intro l s hr up idle
  have chooses : exec (.nextCellEvent l) s = s.chooseNext l := (exec_nextCellEvent_up hr up).trans (nextCell_chooses idle)
  rw [chooses]
  refine ⟨fun record more queued unheld => ?_, fun record more waiting queued held => ?_, fun noResponse pending permitted => ?_, fun noResponse unsent => ?_⟩
  · rw [chooseNext_mrsp queued, sendMrsp_unheld unheld]
  · rw [chooseNext_mrsp queued, sendMrsp_held held]
    rfl
  · rw [chooseNext_attn noResponse pending permitted, sendAttn_eq]
  · rw [chooseNext_dropsAttn noResponse unsent]
    refine ⟨fun pending => ?_, fun clear noData => ?_⟩
    · rw [chooseAfterAttn_flowst (by rw [attnDropped_link]; exact pending), sendFlowst_attnDropped]
    · rw [chooseAfterAttn_idle (by rw [attnDropped_link]; exact clear) ((dataReady_attnDropped s l).trans (dataReady_false noData)),
        sendIdle_attnDropped]

/-! ### The round robin (R91) -/

section Walk

variable {s : State} {l : Link} {n r : Nat} {k : WrrClass}

theorem wrrWalk_selects (waiting : s.waiting l k.toClass = true) (credit : 0 < r) : s.wrrWalk l n k r = some (k, r - 1) := by
  unfold State.wrrWalk
  exact if_pos ⟨waiting, credit⟩

theorem wrrWalk_advances (passed : s.waiting l k.toClass = false ∨ r = 0) :
    s.wrrWalk l (n + 1) k r = s.wrrWalk l n k.next (s.params.weight k.next) := by
  rw [State.wrrWalk]
  refine if_neg fun ⟨waiting, credit⟩ => ?_
  obtain empty | spent := passed
  · rw [empty] at waiting
    cases waiting
  · exact credit.ne' spent

end Walk

theorem next_next_next (k : WrrClass) : k.next.next.next = k := by cases k <;> rfl

/-- The walk reads the queues and the weights alone. -/
theorem wrrWalk_congr {s t : State} {l : Link} (waiting : ∀ c, t.waiting l c = s.waiting l c) (params : t.params = s.params) (n : Nat)
    (k : WrrClass) (r : Nat) : t.wrrWalk l n k r = s.wrrWalk l n k r := by
  induction n generalizing k r with
  | zero => simp only [State.wrrWalk, waiting]
  | succ n ih => simp only [State.wrrWalk, waiting, params, ih]

/-- R91: the four ways three advances can go. -/
theorem wrrWalk_cases {s : State} {l : Link} {k : WrrClass} {r : Nat} (weight : ∀ k, 1 ≤ s.params.weight k) :
    (s.waiting l k.toClass = true → 0 < r → s.wrrWalk l 3 k r = some (k, r - 1)) ∧
    (s.waiting l k.toClass = false ∨ r = 0 → s.waiting l k.next.toClass = true →
      s.wrrWalk l 3 k r = some (k.next, s.params.weight k.next - 1)) ∧
    (s.waiting l k.toClass = false ∨ r = 0 → s.waiting l k.next.toClass = false → s.waiting l k.next.next.toClass = true →
      s.wrrWalk l 3 k r = some (k.next.next, s.params.weight k.next.next - 1)) ∧
    (s.waiting l k.toClass = true → r = 0 → s.waiting l k.next.toClass = false → s.waiting l k.next.next.toClass = false →
      s.wrrWalk l 3 k r = some (k, s.params.weight k - 1)) := by
  refine ⟨wrrWalk_selects, fun passed first => ?_, fun passed first second => ?_, fun own spent first second => ?_⟩
  · rw [wrrWalk_advances passed, wrrWalk_selects first (weight _)]
  · rw [wrrWalk_advances passed, wrrWalk_advances (.inl first), wrrWalk_selects second (weight _)]
  · rw [wrrWalk_advances (.inr spent), wrrWalk_advances (.inl first), wrrWalk_advances (.inl second), next_next_next,
      wrrWalk_selects own (weight _)]

/-! ### The marking decision (R94) -/

theorem markDecision_marks (m : Nat) (level : MarkLevel) (count : Nat) : (markDecision m level count).1 =
    match level with | .full => true | .part => decide (2 ^ m ≤ count + 1) | .none => false := by
  cases level with
  | none | full => rfl
  | part =>
    unfold markDecision
    dsimp only
    split
    · next reached => exact (decide_eq_true reached).symm
    · next below => exact (decide_eq_false below).symm

theorem markDecision_count (m : Nat) (level : MarkLevel) (count : Nat) : (markDecision m level count).2 =
    match level with | .full => count | .part => if (markDecision m level count).1 = true then 0 else count + 1 | .none => 0 := by
  cases level with
  | none | full => rfl
  | part =>
    unfold markDecision
    dsimp only
    split <;> rfl

/-! ### The selection of a data cell (R90, R93, R96) -/

/-- Whether the cell of an entry leaves its queue marked. -/
def leavesMarked (m : Nat) (out : OutQueue) (e : QueueEntry) : Bool := e.arrivedMarked || (markDecision m out.level out.markCount).1

/-- A queue once its head entry `e` is selected, `more` staying behind it. -/
def takenQueue (m : Nat) (out : OutQueue) (e : QueueEntry) (more : List QueueEntry) : OutQueue :=
  { out with
    entries := more
    markCount := (markDecision m out.level out.markCount).2
    counters := { out.counters with marked := if leavesMarked m out e = true then bump out.counters.marked 1 else out.counters.marked } }

/-- The state once the head entry of Q(L,c) is selected and its cell is being sent. -/
def dataSent (s : State) (l : Link) (c : Sys2Proof.Class) (e : QueueEntry) (more : List QueueEntry) (cell : Cell) : State :=
  (s.setQueue (queueId l c) (takenQueue s.params.m (s.queue (queueId l c)) e more)).modLink l fun p =>
    { p with inFlight := some e.handle, gapCount := 0,
             sending := .cell .data (egressCell cell (leavesMarked s.params.m (s.queue (queueId l c)) e)) }

theorem selectFrom_eq {s : State} {l : Link} {c : Sys2Proof.Class} {e : QueueEntry} {more : List QueueEntry} {cell : Cell}
    (head : (s.queue (queueId l c)).entries = e :: more) (stored : s.pool.stored e.handle = some cell) :
    s.selectFrom l c = .next (dataSent s l c e more cell) := by
  unfold State.selectFrom
  simp only [head, stored]
  rfl

/-- R90, R91: class `c` is the one selected from, and the round robin then stands at class `k` with credit `r`. -/
def Chosen (s : State) (l : Link) (c : Sys2Proof.Class) (k : WrrClass) (r : Nat) : Prop :=
  if s.waiting l 0 = true then c = 0 ∧ k = (s.link l).wrrClass ∧ r = (s.link l).wrrCount
  else s.wrrWalk l 3 (s.link l).wrrClass (s.link l).wrrCount = some (k, r) ∧ c = k.toClass

/-- The state with the round robin of a link at another place. -/
def wrrMoved (s : State) (l : Link) (k : WrrClass) (r : Nat) : State := s.modLink l fun p => { p with wrrClass := k, wrrCount := r }

theorem sendData_eq {s : State} {l : Link} {c : Sys2Proof.Class} {k : WrrClass} {r : Nat} (h : Chosen s l c k r) :
    s.sendData l = (wrrMoved s l k r).selectFrom l c := by
  unfold Chosen at h
  unfold State.sendData
  split at h
  · next strict =>
    obtain ⟨rfl, rfl, rfl⟩ := h
    rw [if_pos strict, wrrMoved, modLink_id s l _ rfl]
  · next notStrict =>
    obtain ⟨walked, rfl⟩ := h
    rw [if_neg notStrict, walked]
    rfl

theorem Chosen.attnDropped {s : State} {l : Link} {c : Sys2Proof.Class} {k : WrrClass} {r : Nat} (h : Chosen s l c k r) :
    Chosen (attnDropped s l) l c k r := by
  unfold Chosen at h ⊢
  rw [attnDropped_link, attnDropped_waiting, wrrWalk_congr (fun c => attnDropped_waiting s l l c) (modLink_params ..)]
  exact h

/-- Settles O37: the walk by its four ways; the choice comes to the data cell, whose queue and port are then read off the selection. -/
theorem dataCellsAreSelectedAndMarked : Obligations.DataCellsAreSelectedAndMarked := by
  refine ⟨fun l s k r ranged => wrrWalk_cases fun k => ?_, ?_⟩
  · obtain ⟨-, -, -, -, weights, -⟩ := ranged
    exact (weights k).1
  intro l s c k r e more cell hr up idle noResponse unsent clear gap chosen head stored
  have waiting : s.waiting l c = true := (waiting_iff s l c).2 (by rw [head]; exact List.cons_ne_nil e more)
  have ready : (attnDropped s l).dataReady l = true := (dataReady_attnDropped s l).trans ((dataReady_iff s l).2 ⟨⟨c, waiting⟩, gap⟩)
  have reached : exec (.nextCellEvent l) s = (attnDropped s l).sendData l := by
    rw [exec_nextCellEvent_up hr up, nextCell_chooses idle, chooseNext_dropsAttn noResponse unsent,
      chooseAfterAttn_data (by rw [attnDropped_link]; exact clear) ready]
  have queues : ∀ q, (wrrMoved (attnDropped s l) l k r).queue q = s.queue q := fun _ => rfl
  have selected := selectFrom_eq ((congrArg OutQueue.entries (queues (queueId l c))).trans head) stored
  intro out marks mark
  refine ⟨_, (reached.trans (sendData_eq (Chosen.attnDropped chosen))).trans selected, ?_, ?_, fun q other => ?_, fun n other => ?_, rfl⟩
  · rw [dataSent, link_modLink_same, setQueue_link, wrrMoved, link_modLink_same, attnDropped_link, leavesMarked, markDecision_marks]
    rfl
  · rw [dataSent, modLink_queue, queue_setQueue_same, takenQueue, leavesMarked, markDecision_count, markDecision_marks]
    rfl
  · rw [dataSent, modLink_queue, queue_setQueue_ne _ _ _ _ other.symm, queues]
  · rw [dataSent, link_modLink_ne _ _ _ _ other.symm, setQueue_link, wrrMoved, link_modLink_ne _ _ _ _ other.symm, attnDropped,
      link_modLink_ne _ _ _ _ other.symm]

end Sys2Proof.Egress
end

section
/-! PROOFS. Flow status, time and attention: epoch changes (R114, R119, R120, R128, R129), owed FLOWST cells (R113, R115, R116) and the attention
hold-off (R179). -/

namespace Sys2Proof.Congestion

open Sys2Proof.Machine Sys2Proof.Laws Sys2Proof.LinkPorts Sys2Proof.ForwardingTables

/-! ### Epoch changes (R120) -/

/-- R36, R129: what a swap does to the roles, the selectors and the swap record. -/
theorem performSwap_spec (s : State) :
    s.performSwap.tables = { active := otherBank s.tables.active, banks := s.tables.banks, selectors := s.performSwap.tables.selectors } ∧
    s.performSwap.epoch = { s.epoch with swapPending := false, lastSwap := some s.epoch.number } ∧
    FlagSet.has s.performSwap.attn.flags .swapCompleted = true ∧
    ∀ d : Link, slot s.performSwap.tables.selectors d = s.performSwap.reselected d := by
  refine ⟨?_, ?_, raise_flag_set _ _, fun d => ?_⟩
  · unfold State.performSwap
    simp only [raise_tables]
  · unfold State.performSwap
    simp only [raise_epoch]
  · have numbers : s.performSwap.numberUp = s.numberUp := funext (numberUp_congr (performSwap_port_state s))
    unfold State.reselected
    rw [numbers]
    unfold State.performSwap State.activeDest State.bank
    simp only [raise_tables, slot_ofFn]
    rfl

theorem performSwap_same (s : State) (k : Link) : (s.performSwap.link k).sameButPending (s.link k) := raise_same _ _ k

theorem tickRefresh_same (s : State) (k : Link) : (s.tickRefresh.link k).sameButPending (s.link k) := by
  unfold State.tickRefresh
  split
  · exact oweFlowst_same _ k
  · exact sameButPending_refl _

/-- R119, R122: the state at an epoch change to the number `n`, before what the change brings. -/
def numbered (s : State) (n : Epoch) : State := ({ s with epoch := { s.epoch with number := n } } : State).restartEpochTimer

/-- R120: an epoch change by an expiry or an accepted SYNC. -/
theorem epochChange_changed (s : State) (n : Epoch) : s.epochChanged n (numbered s n).epochChange := by
  obtain ⟨refresh, coalescing, links, -⟩ := tickRefresh_facts (numbered s n)
  have epoch : (numbered s n).tickRefresh.epoch = { s.epoch with number := n, timer := .running s.params.epochPeriod } := tickRefresh_epoch _
  have tables : (numbered s n).tickRefresh.tables = s.tables := tickRefresh_tables _
  have owed (l : Link) := congrArg LinkPort.pendFlowst (links l)
  have ticked := tickRefresh_same (numbered s n)
  have reached : (numbered s n).tickRefresh.swapReached = true ↔ s.epoch.swapPending = true ∧ (n - s.epoch.target).toNat < 32768 := by
    unfold State.swapReached
    rw [epoch, Bool.and_eq_true_iff, decide_eq_true_iff]
  unfold State.epochChange State.epochChanged
  dsimp only
  split
  · next swaps =>
    obtain ⟨roles, record, flag, selectors⟩ := performSwap_spec (numbered s n).tickRefresh
    rw [epoch] at record
    rw [tables] at roles
    rw [performSwap_flow, record, if_pos (reached.1 swaps)]
    refine ⟨rfl, rfl, rfl, coalescing, refresh, fun l => ?_, fun l => sameButPending_trans (performSwap_same _ l) (ticked l), ?_, ?_, rfl, rfl, flag,
      fun d => ?_⟩
    · rw [performSwap_port_pendFlowst]
      exact owed l
    · rw [roles]
    · rw [roles]
    · have numbers : s.numberUp = (numbered s n).tickRefresh.performSwap.numberUp :=
        funext (numberUp_congr fun k => by rw [performSwap_port_state, tickRefresh_port_state]; rfl)
      rw [selectors, numbers]
      rfl
  · next stays =>
    rw [epoch, tables, if_neg fun h => stays (reached.2 h)]
    exact ⟨rfl, rfl, rfl, coalescing, refresh, owed, ticked, rfl, rfl, rfl, rfl⟩

theorem epochChange_frame (s : State) (n : Epoch) : (numbered s n).epochChange = { s with
    epoch := (numbered s n).epochChange.epoch, flow := (numbered s n).epochChange.flow, links := (numbered s n).epochChange.links,
    tables := (numbered s n).epochChange.tables, attn := (numbered s n).epochChange.attn } := by
  apply state_ext <;> simp [numbered]

theorem exec_epochTimerExpiry {s : State} (hr : s.rstN = true) (running : s.epoch.timer ≠ .idle) :
    exec .epochTimerExpiry s = .next (numbered s (s.epoch.number + 1)).epochChange := congrArg Host.Outcome.next (if_pos ⟨hr, running⟩)

/-! ### The coalescing and the attention hold-off timers (R113, R179) -/

theorem exec_coalescingTimerExpiry {s : State} (hr : s.rstN = true) (running : s.flow.coalescing ≠ .idle) :
    exec .coalescingTimerExpiry s = .next ({ s with flow := { s.flow with coalescing := .idle } } : State).oweFlowst :=
  congrArg Host.Outcome.next (if_pos ⟨hr, running⟩)

theorem exec_attentionHoldOffExpiry {s : State} (hr : s.rstN = true) (running : s.attn.timer ≠ .idle) :
    exec .attentionHoldOffExpiry s = .next s.attentionExpiry := congrArg Host.Outcome.next (if_pos ⟨hr, running⟩)

/-- R178, R179: the pending ATTN flag is set on every permitted link in UP, and nothing else of a link changes. -/
theorem pendAttention_pends (s : State) (l : Link) : s.pendAttention.link l = { s.link l with
    pendAttn := (s.link l).pendAttn || (LinkSet.has s.agent.permitted l && decide ((s.link l).state = .up)) } := by
  rw [link_pendAttention]
  split
  · next alerted => simp [alerted.1, alerted.2]
  · next spared =>
    rw [← Bool.decide_coe (LinkSet.has s.agent.permitted l), ← Bool.decide_and, decide_eq_false spared, Bool.or_false]

theorem attentionExpiry_raised {s : State} (raised : s.attn.raisedWhileRunning = true) : s.attentionExpiry =
    { s.pendAttention with attn := { s.attn with timer := .running s.params.attnHoldOff, raisedWhileRunning := false } } := if_pos raised
theorem attentionExpiry_unraised {s : State} (unraised : s.attn.raisedWhileRunning = false) :
    s.attentionExpiry = { s with attn := { s.attn with timer := .idle } } := if_neg (by simp [unraised])

/-- Settles O41: each expiry by what it runs, the epoch change, the owing and the pending of attention. -/
theorem epochCoalescingAndAttentionTimersExpire : Obligations.EpochCoalescingAndAttentionTimersExpire := by
  refine ⟨fun s hr running => ?_, fun s hr running => ?_, fun s hr running => ⟨fun raised => ?_, fun unraised => ?_⟩⟩
  · have changed := epochChange_changed s (s.epoch.number + 1)
    refine ⟨_, exec_epochTimerExpiry hr running, ?_, changed, epochChange_frame s _⟩
    rw [changed.1, BitVec.toNat_add]
    rfl
  · exact ⟨_, exec_coalescingTimerExpiry hr running, rfl, oweFlowst_owed _, rfl⟩
  · refine ⟨_, exec_attentionHoldOffExpiry hr running, ?_, fun l => ?_, ?_⟩
    · exact congrArg State.attn (attentionExpiry_raised raised)
    · rw [attentionExpiry_raised raised, link_mk, slot_links, pendAttention_pends]
    · apply state_ext <;> simp
  · rw [exec_attentionHoldOffExpiry hr running, attentionExpiry_unraised unraised]

/-! ### Send Flow-Status Now (R115) -/

theorem requestRow_sendFlowStatusNow {r : Payload} (h : recByte r 0 = 0x33) : requestRow r = .sendFlowStatusNow := by
  unfold requestRow
  rw [h]
  rfl

theorem answers_sendFlowStatusNow {s : State} {l : Link} {r : Payload} {rest : List Carried} (request : s.hasRequest l r rest)
    (kind : recByte r 0 = 0x33) : s.answers .sendFlowStatusNow s.oweFlowst l rest (replyBytes r 0 []) := by
  have row := requestRow_sendFlowStatusNow kind
  refine answers_of (exec_answered (execute := answerSendFlowStatusNow) rfl ⟨.done, []⟩ s.oweFlowst request row ?_ rfl rfl)
  rfl

/-- Settles O57: the request is executed by an owing, whatever the state. -/
theorem sendFlowStatusNowOwesAtOnce : Obligations.SendFlowStatusNowOwesAtOnce := by
  intro s l r rest request kind
  refine ⟨s.oweFlowst, answers_sendFlowStatusNow request kind, oweFlowst_owed s, ?_⟩
  rfl

end Sys2Proof.Congestion
end

section
/-! PROOFS. The Congestion Monitor: the rounding of the average (R103), the visit of a queue and the monitor step (R100 to R107, R112). -/

namespace Sys2Proof.Congestion

open Sys2Proof.Machine Sys2Proof.Laws Sys2Proof.DataPath

/-! ### The average (R103) -/

/-- R103: the rounded quotient is the whole number that one of the two ways of rounding gives: down, with at most a half left, or up, with at most a
half added; at a half it is even. -/
theorem roundedQuotient_cases (d : Int) (w : Nat) :
    (roundedQuotient d w = d / 2 ^ w ∧ 2 * (d % 2 ^ w) ≤ 2 ^ w ∧ (2 * (d % 2 ^ w) = 2 ^ w → roundedQuotient d w % 2 = 0)) ∨
    (roundedQuotient d w = d / 2 ^ w + 1 ∧ 2 ^ w ≤ 2 * (d % 2 ^ w) ∧ (2 * (d % 2 ^ w) = 2 ^ w → roundedQuotient d w % 2 = 0)) := by
  unfold roundedQuotient
  dsimp only
  generalize (2 : Int) ^ w = u
  split_ifs <;> omega

/-- R103: no whole number is nearer to the quotient, and at a half the rounded one is even. -/
theorem roundedQuotient_nearest (d : Int) (w : Nat) :
    2 * (roundedQuotient d w * 2 ^ w - d) ≤ 2 ^ w ∧ 2 * (d - roundedQuotient d w * 2 ^ w) ≤ 2 ^ w ∧
    (2 * (roundedQuotient d w * 2 ^ w - d) = 2 ^ w ∨ 2 * (d - roundedQuotient d w * 2 ^ w) = 2 ^ w → roundedQuotient d w % 2 = 0) := by
  have unit : (0 : Int) < 2 ^ w := by positivity
  have whole := Int.ediv_mul_add_emod d (2 ^ w)
  have low := Int.emod_nonneg d unit.ne'
  have high := Int.emod_lt_of_pos d unit
  obtain ⟨down, rest, even⟩ | ⟨up, rest, even⟩ := roundedQuotient_cases d w
  · have error : d - roundedQuotient d w * 2 ^ w = d % 2 ^ w := by rw [down]; omega
    omega
  · have error : roundedQuotient d w * 2 ^ w - d = 2 ^ w - d % 2 ^ w := by rw [up, add_mul, one_mul]; omega
    omega

/-- A rounded quotient is never further from 0 than what is divided, to the left of 0. -/
theorem le_roundedQuotient (d : Int) (w : Nat) : min d 0 ≤ roundedQuotient d w := by
  have unit : (0 : Int) < 2 ^ w := by positivity
  have floor : min d 0 ≤ d / 2 ^ w := by
    obtain negative | positive := le_total d 0
    · rw [min_eq_left negative, Int.le_ediv_iff_mul_le unit]
      exact mul_le_of_one_le_right negative unit
    · rw [min_eq_right positive]
      exact Int.ediv_nonneg positive unit.le
  obtain ⟨down, -⟩ | ⟨up, -⟩ := roundedQuotient_cases d w <;> omega

/-- Settles O39: the nearest quotient, between 0 and the difference it rounds, so that the average never falls below 0. -/
theorem averagesMoveTowardTheDepth : Obligations.AveragesMoveTowardTheDepth := by
  refine ⟨roundedQuotient_nearest, fun average depth w _ => ?_⟩
  have above := roundedQuotient_le (16 * (depth : Int) - average) w
  have below := le_roundedQuotient (16 * (depth : Int) - average) w
  unfold nextAverage
  omega

/-! ### The search for a queue (R101) -/

theorem eligible_iff (s : State) (q : QueueId) :
    s.eligible q = true ↔ (s.link (queueLink q)).state = .up ∨ (s.link (queueLink q)).state = .disabled := by
  unfold State.eligible
  cases (s.link (queueLink q)).state <;> simp

theorem not_eligible_iff (s : State) (q : QueueId) :
    s.eligible q = false ↔ (s.link (queueLink q)).state = .training ∨ (s.link (queueLink q)).state = .faulted := by
  unfold State.eligible
  cases (s.link (queueLink q)).state <;> simp

/-- R101: the queue found is the first eligible one after the cursor, wrapping. -/
theorem scanOrder_find {s : State} {q : QueueId} (found : s.eligible q = true)
    (before : ∀ p : QueueId, (p - s.monitor.cursor - 1).val < (q - s.monitor.cursor - 1).val → s.eligible p = false) :
    s.scanOrder.find? s.eligible = some q := by
  unfold State.scanOrder
  rw [List.find?_eq_some_iff_getElem]
  refine ⟨found, (q - s.monitor.cursor - 1).val, by simp, ?_, fun j earlier => ?_⟩
  · simp only [List.getElem_map, List.getElem_finRange, Fin.cast_mk, Fin.eta]
    abel
  · simp only [List.getElem_map, List.getElem_finRange, Fin.cast_mk]
    have passed := before (s.monitor.cursor + 1 + ⟨j, by omega⟩) (by
      rw [show s.monitor.cursor + 1 + (⟨j, by omega⟩ : QueueId) - s.monitor.cursor - 1 = ⟨j, by omega⟩ by abel]
      exact earlier)
    simp [passed]

/-! ### The visit and the step (R100, R102, R107, R112) -/

theorem visit_queue (s : State) (q : QueueId) : (s.visit q).queue q = (s.queue q).visited s.params (queueClass q) := by
  unfold State.visit
  dsimp only
  split
  · rw [reportPause_queue, queue_setQueue_same]
  · exact queue_setQueue_same ..

theorem visit_queue_ne (s : State) {q k : QueueId} (other : k ≠ q) : (s.visit q).queue k = s.queue k := by
  unfold State.visit
  dsimp only
  split
  · rw [reportPause_queue, queue_setQueue_ne _ _ _ _ other.symm]
  · exact queue_setQueue_ne _ _ _ _ other.symm

/-- R112: the report of a visit is that of a pause change, if the visit made one. -/
theorem visit_reported (s : State) (q : QueueId) :
    s.pauseReported (decide (((s.queue q).visited s.params (queueClass q)).pause ≠ (s.queue q).pause)) (s.visit q) := by
  unfold State.visit
  dsimp only
  split
  · next changed =>
    rw [decide_eq_true changed]
    exact pauseReported_congr true (reportPause_reported _) rfl rfl rfl
  · next same =>
    rw [decide_eq_false same]
    exact ⟨rfl, rfl⟩

theorem visit_frame (s : State) (q : QueueId) :
    s.visit q = { s with queues := (s.visit q).queues, flow := (s.visit q).flow, links := (s.visit q).links } := by
  unfold State.visit
  dsimp only
  split
  · apply state_ext <;> simp
  · rfl

theorem exec_monitorStep {s : State} (hr : s.rstN = true) (running : s.monitor.timer ≠ .idle) : exec .monitorStep s = .next s.monitorStep :=
  congrArg Host.Outcome.next (if_pos ⟨hr, running⟩)

/-- R100, R101: the state in which a queue is visited: the cursor names it and the timer is restarted. -/
def aimed (s : State) (q : QueueId) : State := { s with monitor := ⟨q, .running s.params.monitorStep⟩ }

theorem monitorStep_found {s : State} {q : QueueId} (found : s.scanOrder.find? s.eligible = some q) : s.monitorStep = (aimed s q).visit q := by
  unfold State.monitorStep
  rw [found]
  rfl

theorem monitorStep_none {s : State} (none : s.scanOrder.find? s.eligible = none) :
    s.monitorStep = { s with monitor := { s.monitor with timer := .running s.params.monitorStep } } := by
  unfold State.monitorStep
  rw [none]

/-- Settles O40: the step is the visit of the queue found, and without an eligible queue the restart of the timer. -/
theorem monitorSteps : Obligations.MonitorSteps := by
  refine ⟨fun s q hr running linked before => ?_, fun s hr running down => ?_⟩
  · have found := scanOrder_find ((eligible_iff s q).2 linked) fun p earlier => (not_eligible_iff s p).2 (before p earlier)
    have visits := exec_monitorStep hr running
    rw [monitorStep_found found] at visits
    have frame := visit_frame (aimed s q) q
    refine ⟨_, visits, visit_queue (aimed s q) q, fun p other => visit_queue_ne (aimed s q) other, ?_, ?_, ?_⟩
    · rw [frame]
      rfl
    · exact pauseReported_congr _ (visit_reported (aimed s q) q) rfl rfl rfl
    · rw [frame]
      rfl
  · rw [exec_monitorStep hr running, monitorStep_none]
    exact List.find?_eq_none.2 fun q _ => by simp [(not_eligible_iff s q).2 (down (queueLink q))]

end Sys2Proof.Congestion
end

section
/-! PROOFS. The pause state of a queue: the events that keep it, the monitor's visit and the flush events (R74 to R76, R107). -/

namespace Sys2Proof.Congestion

open Sys2Proof.Machine Sys2Proof.Laws Sys2Proof.LinkPorts Sys2Proof.ForwardingTables Sys2Proof.DataPath

/-! ### Events that keep every pause state -/

/-- From `s` to `t` no queue changes its pause state. -/
def PausesKept (s t : State) : Prop := ∀ q, (t.queue q).pause = (s.queue q).pause

theorem PausesKept.refl (s : State) : PausesKept s s := fun _ => rfl
theorem PausesKept.trans {s t u : State} (h : PausesKept s t) (k : PausesKept t u) : PausesKept s u := fun q => (k q).trans (h q)
theorem PausesKept.of_queues {s t : State} (h : t.queues = s.queues := by simp) : PausesKept s t := fun q => by rw [queue_congr h]

theorem setQueue_pausesKept (s : State) (q : QueueId) {out : OutQueue} (h : out.pause = (s.queue q).pause) : PausesKept s (s.setQueue q out) := by
  intro k
  rw [queue_setQueue]
  split
  · next e => exact e ▸ h
  · rfl
theorem countQueue_pausesKept (s : State) (q : QueueId) (f : QueueCounters → QueueCounters) : PausesKept s (s.countQueue q f) :=
  setQueue_pausesKept s q rfl
theorem enqueue_pausesKept (s : State) (q : QueueId) (e : QueueEntry) : PausesKept s (s.enqueue q e) := setQueue_pausesKept s q rfl

theorem foldl_pausesKept {α : Type} {f : State → α → State} (step : ∀ u x, PausesKept u (f u x)) (xs : List α) (s : State) :
    PausesKept s (xs.foldl f s) := by
  induction xs generalizing s with
  | nil => exact .refl s
  | cons x xs ih => exact (step s x).trans (ih _)

/-! ### Admission -/

theorem storeCell_pausesKept (s : State) (cell : Cell) (cc : Sys2Proof.Class) (members : List Link) : PausesKept s (s.storeCell cell cc members) := by
  unfold State.storeCell
  split
  · exact .refl s
  · next h stored allocated =>
    exact (PausesKept.of_queues (allocate_queues s stored cell _ h allocated)).trans (foldl_pausesKept (fun u _ => enqueue_pausesKept u _ _) members _)

theorem admitUnicast_pausesKept (s : State) (ingress : Link) (cell : Cell) (l : Link) : PausesKept s (s.admitUnicast ingress cell l) := by
  unfold State.admitUnicast
  dsimp only
  (repeat' split)
  · exact .of_queues
  · exact .of_queues
  · exact countQueue_pausesKept s _ _
  · exact storeCell_pausesKept s cell _ _

theorem unicast_pausesKept (s : State) (ingress : Link) (cell : Cell) : PausesKept s (s.unicast ingress cell) := by
  have read : PausesKept s (s.verify .destination s.tables.active (cellDest cell)).2 := .of_queues
  unfold State.unicast State.routeUnicast
  dsimp only
  (repeat' split)
  · exact (read.trans .of_queues).trans (admitUnicast_pausesKept _ ingress cell _)
  · exact read.trans .of_queues
  · exact read.trans .of_queues
  · exact read.trans .of_queues
  · exact .of_queues

theorem walkMembers_pausesKept (s : State) (ingress : Link) (cell : Cell) (g : GroupFields) (cc : Sys2Proof.Class) :
    PausesKept s (s.walkMembers ingress cell g cc) := by
  have counted : ∀ f (mems : List Link), PausesKept s (mems.foldl (fun acc mem => acc.countTailDrop mem cc) (s.countLink ingress f)) := fun f mems =>
    .trans (.of_queues (countLink_queues s ingress f)) (foldl_pausesKept (fun u _ => countQueue_pausesKept u _ _) mems _)
  unfold State.walkMembers
  dsimp only
  split
  · exact (counted _ _).trans (.of_queues (countLink_queues ..))
  · exact (counted _ _).trans (storeCell_pausesKept _ cell cc _)

theorem multicast_pausesKept (s : State) (ingress : Link) (cell : Cell) : PausesKept s (s.multicast ingress cell) := by
  have read : PausesKept s (s.verify .group s.tables.active (cellDest cell)).2 := .of_queues
  unfold State.multicast
  dsimp only
  (repeat' split)
  · exact read.trans .of_queues
  · exact read.trans (walkMembers_pausesKept _ ingress cell _ _)
  · exact read.trans .of_queues

theorem admission_pausesKept (s : State) : PausesKept s s.admission := by
  unfold State.admission
  split
  · exact .refl s
  · next l _ =>
    split
    · exact .refl s
    · next cell rest _ =>
      show PausesKept (s.taking l rest) ((s.taking l rest).admitCell l cell)
      unfold State.admitCell
      (repeat' split)
      · exact .of_queues
      · exact unicast_pausesKept _ l cell
      · exact multicast_pausesKept _ l cell

/-! ### The next cell -/

/-- R93: the selection of a head entry keeps what the monitor decided for the queue. -/
theorem selectFrom_pausesKept {s t : State} {l : Link} {c : Sys2Proof.Class} (h : s.selectFrom l c = .next t) : PausesKept s t := by
  unfold State.selectFrom at h
  (repeat' split at h)
  · cases h
  · cases h
  · obtain rfl := next_inj h
    refine .trans (setQueue_pausesKept s (queueId l c) ?_) (.of_queues (modLink_queues ..))
    rfl

theorem chooseAfterAttn_pausesKept {s t : State} {l : Link} (h : s.chooseAfterAttn l = .next t) : PausesKept s t := by
  unfold State.chooseAfterAttn State.sendData at h
  (repeat' split at h)
  · exact next_inj h ▸ .of_queues
  · exact selectFrom_pausesKept h
  · cases h
  · exact .trans (.of_queues (modLink_queues ..)) (selectFrom_pausesKept h)
  · exact next_inj h ▸ .of_queues

theorem chooseNext_pausesKept {s t : State} {l : Link} (h : s.chooseNext l = .next t) : PausesKept s t := by
  unfold State.chooseNext at h
  (repeat' split at h)
  · exact next_inj h ▸ .of_queues
  · exact next_inj h ▸ .of_queues
  · exact .trans (.of_queues (modLink_queues ..)) (chooseAfterAttn_pausesKept h)
  · exact chooseAfterAttn_pausesKept h

theorem nextCell_pausesKept {s t : State} {l : Link} (h : s.nextCell l = .next t) : PausesKept s t := by
  unfold State.nextCell at h
  (repeat' split at h)
  · exact chooseNext_pausesKept h
  · exact next_inj h ▸ .of_queues
  · exact .trans .of_queues (chooseNext_pausesKept h)

/-! ### What an event does to the pause state of a queue -/

/-- R74 to R76, R107: the pause state of a queue stays, or the queue is the one that a monitor step visits, or a flush event takes it in. -/
inductive PauseFate (i : Instr) (s t : State) (q : QueueId) : Prop
  | kept (same : (t.queue q).pause = (s.queue q).pause)
  | visited (step : i = .monitorStep) (cursor : t.monitor.cursor = q) (visit : t.queue q = (s.queue q).visited s.params (queueClass q))
  | flushed (event : s.flushEvent i q t) (emptied : t.queue q = (s.queue q).flushed)

theorem PausesKept.fate {i : Instr} {s t : State} (h : PausesKept s t) (q : QueueId) : PauseFate i s t q := .kept (h q)

theorem monitorStep_fate (s : State) (q : QueueId) : PauseFate .monitorStep s s.monitorStep q := by
  cases search : s.scanOrder.find? s.eligible with
  | none =>
    rw [monitorStep_none search]
    exact .kept rfl
  | some k =>
    rw [monitorStep_found search]
    by_cases own : q = k
    · subst own
      exact .visited rfl (by rw [visit_frame]; rfl) (visit_queue (aimed s q) q)
    · exact .kept (congrArg OutQueue.pause (visit_queue_ne (aimed s k) own))

/-- R12, R76: the entry of a link into FAULTED flushes the link's queues and no others. -/
theorem enterFaulted_fate {i : Instr} {s u : State} {l : Link} (queues : u.queues = s.queues) (notFaulted : (s.link l).state ≠ .faulted)
    (cause : FaultCause) (q : QueueId) : PauseFate i s (u.enterFaulted l cause) q := by
  obtain ⟨own, emptied, -, -, -, -, -, otherQueues, -⟩ := enterFaulted_spec u l cause
  by_cases onLink : queueLink q = l
  · subst onLink
    have flushed := emptied (queueClass q)
    rw [queueId_link_class, State.queueFlushed, queue_congr queues] at flushed
    exact .flushed (.inr ⟨notFaulted, by rw [own]⟩) flushed
  · exact .kept (by rw [otherQueues q onLink, queue_congr queues])

/-! ### Cells that arrive -/

/-- What an arriving cell does to the queues: nothing, or its link, in UP, enters FAULTED (R11, R12). -/
def ArrivalFaults (s t : State) (l : Link) : Prop :=
  t.queues = s.queues ∨ (s.link l).state = .up ∧ ∃ (u : State) (cause : FaultCause), u.queues = s.queues ∧ t = u.enterFaulted l cause

theorem badCell_faults {s u : State} {l : Link} (up : (s.link l).state = .up) (queues : u.queues = s.queues) : ArrivalFaults s (u.badCell l) l := by
  unfold State.badCell
  dsimp only
  split
  · exact .inr ⟨up, _, .errors, (modLink_queues u l _).trans queues, rfl⟩
  · exact .inl ((modLink_queues u l _).trans queues)

theorem arriveHeaderError_faults (s : State) (l : Link) : ArrivalFaults s (s.arriveHeaderError l) l := by
  cases state : (s.link l).state with
  | disabled => simpa only [State.arriveHeaderError, state] using .inl rfl
  | training => exact .inl (by rw [arriveHeaderError_training state]; rfl)
  | up => exact arriveHeaderError_up state ▸ badCell_faults state rfl
  | faulted => exact .inl (by rw [arriveHeaderError_faulted state]; rfl)

theorem arriveGoodHeader_faults (s : State) (l : Link) (kind : CellKind) (cell : Cell) : ArrivalFaults s (s.arriveGoodHeader l kind cell) l := by
  cases state : (s.link l).state with
  | disabled => simpa only [State.arriveGoodHeader, state] using .inl rfl
  | training => exact .inl (by rw [arriveGoodHeader_training state, train_queues]; rfl)
  | up =>
    rw [arriveGoodHeader_up state]
    split
    · exact .inl (by rw [arriveGood_queues]; rfl)
    · exact badCell_faults state rfl
  | faulted => exact .inl (by rw [arriveGoodHeader_faulted state]; rfl)

theorem execCellArrival_fate {s t : State} {l : Link} {cell : Cell} (h : execCellArrival l cell s = .next t) (q : QueueId) :
    PauseFate (.cellArrival l cell) s t q := by
  have arrives : ArrivalFaults s t l := by
    obtain rfl := next_inj h
    (repeat' split)
    · exact .inl rfl
    · exact arriveHeaderError_faults s l
    · exact arriveGoodHeader_faults s l _ cell
  obtain kept | ⟨up, u, cause, queues, rfl⟩ := arrives
  · exact (PausesKept.of_queues kept).fate q
  · exact enterFaulted_fate queues (by rw [up]; decide) cause q

/-! ### Requests -/

/-- A request served that keeps a queue as it is or flushes it at a flush event (R76). -/
theorem serve_fate {i : Instr} {s : State} {row : RequestRow} {execute : Payload → State → Answer × State} {q : QueueId}
    (flushes : ∀ r : Carried, s.hasRequest r.link r.record s.agent.queue.tail → requestRow r.record = row →
      (execute r.record (dequeued s)).2.queue q = s.queue q ∨
        ((∀ t, s.flushEvent i q t) ∧ (execute r.record (dequeued s)).2.queue q = (s.queue q).flushed)) :
    PauseFate i s (s.serve row execute) q := by
  obtain same | ⟨r, head, -, queues, -⟩ := serve_executed s row execute
  · exact .kept (by rw [same])
  · obtain ⟨request, kind⟩ := hasRequest_of_head head
    obtain kept | ⟨event, emptied⟩ := flushes r request kind
    · exact .kept (by rw [queue_congr queues, kept])
    · exact .flushed (event _) ((queue_congr queues q).trans emptied)

theorem flush_fate (s : State) (q : QueueId) : PauseFate .flush s (s.serve .flush answerFlush) q := by
  refine serve_fate fun r request kind => ?_
  unfold answerFlush
  split
  · exact .inl rfl
  · next l named =>
    have emptied : ((dequeued s).flushQueues (linkQueues l)).queue q = _ := flushQueues_linkQueues (dequeued s) l q
    by_cases own : queueLink q = l
    · subst own
      exact .inr ⟨fun _ => .inl ⟨_, _, _, request, .inl ⟨rfl, kind, linkOf_some named⟩⟩, emptied.trans (if_pos rfl)⟩
    · exact .inl (emptied.trans (if_neg own))

theorem retrain_fate (s : State) (q : QueueId) : PauseFate .retrain s (s.serve .retrain answerRetrain) q := by
  refine serve_fate fun r request kind => ?_
  unfold answerRetrain
  split
  · exact .inl rfl
  · next l named =>
    split
    · exact .inl rfl
    · have emptied : ((dequeued s).retrainLink l).queue q = _ := retrainLink_queue (dequeued s) l q
      by_cases own : queueLink q = l
      · subst own
        exact .inr ⟨fun _ => .inl ⟨_, _, _, request, .inr (.inl ⟨rfl, kind, linkOf_some named⟩)⟩, emptied.trans (if_pos rfl)⟩
      · exact .inl (emptied.trans (if_neg own))

theorem datapathReset_fate (s : State) (q : QueueId) : PauseFate .datapathReset s (s.serve .datapathReset answerDatapathReset) q :=
  serve_fate fun _ request kind =>
    .inr ⟨fun _ => .inl ⟨_, _, _, request, .inr (.inr ⟨rfl, kind⟩)⟩, resetDatapath_queue (dequeued s) q⟩

theorem readCounters_pausesKept (s : State) : PausesKept s (s.serve .readCounters answerReadCounters) := by
  have answer (r : Payload) (u : State) : PausesKept u (answerReadCounters r u).2 := by
    unfold answerReadCounters
    (repeat' split)
    · exact .refl u
    · exact .of_queues
    · exact .refl u
    · exact countQueue_pausesKept u _ _
    · exact .refl u
    · exact .refl u
    · exact .of_queues
    · exact .refl u
    · exact .refl u
  obtain same | ⟨r, -, -, queues, -⟩ := serve_executed s .readCounters answerReadCounters
  · rw [same]
    exact .refl s
  · exact (answer r.record (dequeued s)).trans (.of_queues queues)

/-! ### Every command -/

theorem PauseFate.of_next {i : Instr} {s t u : State} {q : QueueId} (h : (Host.Outcome.next u : Host.Outcome State Fault Refusal) = .next t)
    (k : PauseFate i s u q) : PauseFate i s t q := next_inj h ▸ k
theorem PauseFate.ite {i : Instr} {s t : State} {q : QueueId} {c : Prop} [Decidable c] (h : c → PauseFate i s t q) :
    PauseFate i s (if c then t else s) q := by
  split
  · next hc => exact h hc
  · exact .kept rfl

theorem execHoldOffExpiry_pausesKept {s t : State} {l : Link} (h : execHoldOffExpiry l s = .next t) : PausesKept s t := by
  obtain rfl := next_inj h
  (repeat' split)
  · exact .of_queues
  · exact .of_queues
  · exact .refl s

theorem exec_pauseFate {i : Instr} {s t : State} (notReset : i.isReset = false) (h : exec i s = .next t) (q : QueueId) : PauseFate i s t q := by
  cases i with
  | rstNRise | rstNFall => cases notReset
  | cellArrival => exact execCellArrival_fate h q
  | trainingWindowExpiry | keepaliveExpiry => exact .of_next h (.ite fun hc => enterFaulted_fate rfl (by rw [hc.2.1]; decide) _ q)
  | holdOffExpiry => exact (execHoldOffExpiry_pausesKept h).fate q
  | admission => exact .of_next h (.ite fun _ => (admission_pausesKept s).fate q)
  | nextCellEvent l =>
    change execNextCellEvent l s = .next t at h
    unfold execNextCellEvent at h
    split at h
    · exact (nextCell_pausesKept h).fate q
    · exact .of_next h (.kept rfl)
  | monitorStep => exact .of_next h (.ite fun _ => monitorStep_fate s q)
  | coalescingTimerExpiry | epochTimerExpiry | attentionHoldOffExpiry | scrubStep | tableDisturbance | fillStep | copyStep | digestStep | memtestStep =>
    exact .of_next h (.ite fun _ => (PausesKept.of_queues).fate q)
  | readCounters => exact .of_next h ((readCounters_pausesKept s).fate q)
  | flush => exact .of_next h (flush_fate s q)
  | retrain => exact .of_next h (retrain_fate s q)
  | datapathReset => exact .of_next h (datapathReset_fate s q)
  | readIdentity | readStatus | readQueueSnapshot | readAttention | readMissRecord | readEntries | writeEntries | repairEntry | fillEntries | copyBank
  | digestBank | startMemoryTest | enable | disable | scheduleSwap | cancelSwap | sendFlowStatusNow | setManagementLinks | setParameter | readParameter
  | undefinedRequest => exact .of_next h ((PausesKept.of_queues (serve_queues s _ _ (by simp))).fate q)

/-! ### The thresholds (R107) -/

theorem nextPause_paused {depth xoff xon : Nat} (h : nextPause .clear depth xoff xon = .paused) : xoff ≤ depth := by
  by_contra below
  simp [nextPause, below] at h

theorem nextPause_clear {depth xoff xon : Nat} (h : nextPause .paused depth xoff xon = .clear) : depth ≤ xon := by
  by_contra above
  simp [nextPause, above] at h

/-- Settles O17: where the pause state changed, the queue was visited or flushed; a visit changes it past its threshold only, and a flush leaves
CLEAR. -/
theorem pauseChangesOnlyAtVisitsAndFlushes : Obligations.PauseChangesOnlyAtVisitsAndFlushes := by
  intro i s t q notReset h
  cases exec_pauseFate notReset h q with
  | kept same =>
    refine ⟨fun before after => ?_, fun before after => ?_⟩
    all_goals rw [before, after] at same; cases same
  | visited step cursor visit =>
    have after : (t.queue q).pause = nextPause (s.queue q).pause _ _ _ := congrArg OutQueue.pause visit
    refine ⟨fun clear paused => ⟨step, cursor, ?_⟩, fun paused clear => .inl ⟨step, cursor, ?_⟩⟩
    · rw [clear, paused] at after
      exact nextPause_paused after.symm
    · rw [clear, paused] at after
      exact nextPause_clear after.symm
  | flushed event emptied =>
    refine ⟨fun _ paused => ?_, fun _ _ => .inr ⟨event, queueFlushed_of s t q emptied⟩⟩
    rw [emptied] at paused
    cases paused

end Sys2Proof.Congestion
end

section
/-! PROOFS. Schedule Swap and Cancel Swap (R125 to R127, R152). -/

namespace Sys2Proof.Epochs

open Sys2Proof.Machine Sys2Proof.Laws Sys2Proof.LinkPorts

theorem requestRow_scheduleSwap {r : Payload} (h : recByte r 0 = 0x20) : requestRow r = .scheduleSwap := by
  unfold requestRow
  rw [h]
  rfl
theorem requestRow_cancelSwap {r : Payload} (h : recByte r 0 = 0x21) : requestRow r = .cancelSwap := by
  unfold requestRow
  rw [h]
  rfl

/-- R125: the lead (T − E) mod 65536. -/
def swapLead (target number : Epoch) : Nat := (target.toNat + 65536 - number.toNat) % 65536

/-- The subtraction of epoch numbers is the lead. -/
theorem sub_toNat_eq_swapLead (target number : Epoch) : (target - number).toNat = swapLead target number := by
  rw [BitVec.toNat_sub, swapLead]
  congr 1
  omega

/-- R125: Schedule Swap is judged BAD_STATE, BUSY, BAD_RANGE, in this order. -/
theorem answerScheduleSwap_cases (r : Payload) (s : State) :
    (s.epoch.swapPending = true → answerScheduleSwap r s = (.refuse .badState, s)) ∧
    (s.epoch.swapPending = false → s.standbyWriterRunning = true → answerScheduleSwap r s = (.refuse .busy, s)) ∧
    (s.epoch.swapPending = false → s.standbyWriterRunning = false →
      swapLead (recWord r 4) s.epoch.number < 2 ∨ 4096 < swapLead (recWord r 4) s.epoch.number →
      answerScheduleSwap r s = (.refuse .badRange, s)) ∧
    (s.epoch.swapPending = false → s.standbyWriterRunning = false →
      2 ≤ swapLead (recWord r 4) s.epoch.number → swapLead (recWord r 4) s.epoch.number ≤ 4096 →
      answerScheduleSwap r s = swapDone { s with epoch := { s.epoch with swapPending := true, target := recWord r 4 } }) := by
  unfold answerScheduleSwap
  dsimp only
  rw [sub_toNat_eq_swapLead]
  refine ⟨fun pending => if_pos pending, fun settled busy => ?_, fun settled free out => ?_, fun settled free low high => ?_⟩
  all_goals rw [if_neg (by simp [settled])]
  · exact if_pos busy
  · rw [if_neg (by simp [free])]
    exact if_pos out
  · rw [if_neg (by simp [free])]
    exact if_neg (by omega)

/-- R127: Cancel Swap is refused unless a swap is PENDING. -/
theorem answerCancelSwap_cases (r : Payload) (s : State) :
    (s.epoch.swapPending = true → answerCancelSwap r s = swapDone { s with epoch := { s.epoch with swapPending := false } }) ∧
    (s.epoch.swapPending = false → answerCancelSwap r s = (.refuse .badState, s)) :=
  ⟨fun pending => if_pos pending, fun settled => if_neg (by simp [settled])⟩

/-- R152: the answer of a DONE request gives E and the record as the request leaves it. -/
theorem swapDone_answers {s u : State} {i : Instr} {l : Link} {r : Payload} {rest : List Carried} {row : RequestRow}
    {execute : Payload → State → Answer × State} (hi : exec i s = .next (s.serve row execute)) (h : s.hasRequest l r rest)
    (hr : requestRow r = row) (ha : execute r (requeued s rest) = swapDone (requeued u rest)) :
    s.answers i u l rest (replyBytes r 0 ([BitVec.ofNat 8 (u.epoch.number.toNat / 256), BitVec.ofNat 8 u.epoch.number.toNat]
      ++ [flagByte u.epoch.swapPending] ++ [BitVec.ofNat 8 (u.epoch.target.toNat / 256), BitVec.ofNat 8 u.epoch.target.toNat])) := by
  refine answers_of (exec_answered hi _ u h hr ha rfl ?_)
  rw [← be16_word, ← be16_word]
  rfl

/-- Settles O55: each request by the order of its refusals, executed on the state whose queue it has left. -/
theorem swapsAreScheduledAndCancelled : Obligations.SwapsAreScheduledAndCancelled := by
  intro s l r rest h word
  refine ⟨fun kind => ?_, fun kind => ?_⟩
  · have row := requestRow_scheduleSwap kind
    obtain ⟨badState, busy, badRange, done⟩ := answerScheduleSwap_cases r (requeued s rest)
    exact ⟨fun pending => answers_refused rfl .badState h row (badState pending) rfl,
      fun settled running => answers_refused rfl .busy h row (busy settled running) rfl,
      fun settled free out => answers_refused rfl .badRange h row (badRange settled free out) rfl,
      fun settled free low high => swapDone_answers rfl h row (done settled free low high)⟩
  · have row := requestRow_cancelSwap kind
    obtain ⟨done, badState⟩ := answerCancelSwap_cases r (requeued s rest)
    exact ⟨fun pending => swapDone_answers rfl h row (done pending),
      fun settled => answers_refused rfl .badState h row (badState settled) rfl⟩

end Sys2Proof.Epochs
end

section
/-! PROOFS. SYNC cells: stray, phase alignment, next epoch and slip (R120, R122, R123). -/

namespace Sys2Proof.Epochs

open Sys2Proof.Machine Sys2Proof.Laws Sys2Proof.LinkPorts Sys2Proof.ForwardingTables Sys2Proof.Congestion

/-! ### Epoch slips (R123) -/

/-- R123: an epoch slip is counted. -/
def slipCounted (s : State) : State := s.countGlobal fun g => { g with epochSlips := min (g.epochSlips + 1) 4294967295 }

/-- R123: an epoch slip is counted and raised. -/
def slipped (s : State) : State := (slipCounted s).raise .epochSlip

theorem numbered_alertLinks (s : State) (n : Epoch) : (numbered s n).alertLinks = numbered s.alertLinks n := by
  have timer : (numbered s n).attn.timer = s.attn.timer := rfl
  unfold State.alertLinks
  rw [timer]
  cases s.attn.timer <;> rfl

/-- A raise reads and writes nothing of the epoch items. -/
theorem numbered_raise (s : State) (n : Epoch) (f : AttnFlag) : (numbered s n).raise f = numbered (s.raise f) n := by
  unfold State.raise
  by_cases masked : FlagSet.has s.params.attnMask f = true
  · rw [if_pos masked]
    exact if_pos masked
  · rw [if_neg masked, ← numbered_alertLinks]
    exact if_neg masked

theorem slipped_globals (s : State) : (slipped s).globals = { s.globals with epochSlips := min (s.globals.epochSlips + 1) 4294967295 } := by
  unfold slipped
  rw [raise_globals]
  rfl
theorem slipped_port_pendFlowst (s : State) (k : Link) : ((slipped s).link k).pendFlowst = (s.link k).pendFlowst := raise_port_pendFlowst _ _ k
theorem slipped_port_state (s : State) (k : Link) : ((slipped s).link k).state = (s.link k).state := raise_port_state _ _ k
theorem slipped_same (s : State) (k : Link) : ((slipped s).link k).sameButPending (s.link k) := raise_same _ _ k

/-- An epoch change after a slip is an epoch change: the slip touches its count and the attention items only. -/
theorem epochChanged_of_slipped {s t : State} {n : Epoch} (h : (slipped s).epochChanged n t) : s.epochChanged n t := by
  have epoch : (slipped s).epoch = s.epoch := raise_epoch _ _
  have flow : (slipped s).flow = s.flow := raise_flow _ _
  have params : (slipped s).params = s.params := raise_params _ _
  have tables : (slipped s).tables = s.tables := raise_tables _ _
  have numbers : (slipped s).numberUp = s.numberUp := funext (numberUp_congr (slipped_port_state s))
  unfold State.epochChanged at h
  simp only [epoch, flow, params, tables, numbers, slipped_port_pendFlowst, slipped_port_state] at h
  obtain ⟨number, timer, target, coalescing, refresh, owed, same, banks, swap⟩ := h
  exact ⟨number, timer, target, coalescing, refresh, owed, fun l => sameButPending_trans (same l) (slipped_same s l), banks, swap⟩

theorem epochChange_flags_mono (s : State) (f : AttnFlag) (h : FlagSet.has s.attn.flags f = true) :
    FlagSet.has s.epochChange.attn.flags f = true := by
  have ticked : FlagSet.has s.tickRefresh.attn.flags f = true := by rwa [tickRefresh_attn]
  unfold State.epochChange
  dsimp only
  split
  · exact raise_flags_mono _ _ f ticked
  · exact ticked

/-! ### A SYNC with a number (R122, R123) -/

theorem arriveSync_stray {s : State} {l : Link} (n : Epoch) (h : s.params.timingLink ≠ some l) :
    s.arriveSync l n = s.countGlobal fun g => { g with straySyncs := min (g.straySyncs + 1) 4294967295 } := if_pos h

theorem arriveSync_aligned {s : State} {l : Link} (h : s.params.timingLink = some l) : s.arriveSync l s.epoch.number = s.restartEpochTimer :=
  (if_neg (not_not.2 h)).trans (if_pos rfl)

theorem arriveSync_next {s : State} {l : Link} {n : Epoch} (h : s.params.timingLink = some l) (other : n ≠ s.epoch.number)
    (next : n = s.epoch.number + 1) : s.arriveSync l n = (numbered s n).epochChange :=
  (if_neg (not_not.2 h)).trans ((if_neg other).trans (if_pos next))

theorem arriveSync_slips {s : State} {l : Link} {n : Epoch} (h : s.params.timingLink = some l) (other : n ≠ s.epoch.number)
    (slip : n ≠ s.epoch.number + 1) : s.arriveSync l n = (numbered (slipped s) n).epochChange := by
  refine (if_neg (not_not.2 h)).trans ((if_neg other).trans ((if_neg slip).trans ?_))
  exact congrArg State.epochChange (numbered_raise (slipCounted s) n .epochSlip)

/-- R122, R123: an accepted SYNC with another number than E makes an epoch change to its number. -/
theorem arriveSync_changed {s : State} {l : Link} {n : Epoch} (h : s.params.timingLink = some l) (other : n ≠ s.epoch.number) :
    s.epochChanged n (s.arriveSync l n) := by
  by_cases next : n = s.epoch.number + 1
  · rw [arriveSync_next h other next]
    exact epochChange_changed s n
  · rw [arriveSync_slips h other next]
    exact epochChanged_of_slipped (epochChange_changed (slipped s) n)

theorem arriveSync_next_globals {s : State} {l : Link} {n : Epoch} (h : s.params.timingLink = some l) (other : n ≠ s.epoch.number)
    (next : n = s.epoch.number + 1) : (s.arriveSync l n).globals = s.globals := by
  rw [arriveSync_next h other next]
  exact epochChange_globals _

/-- R123: a slip is counted, and EpochSlip is set. -/
theorem arriveSync_slips_counted {s : State} {l : Link} {n : Epoch} (h : s.params.timingLink = some l) (other : n ≠ s.epoch.number)
    (slip : n ≠ s.epoch.number + 1) :
    (s.arriveSync l n).globals = { s.globals with epochSlips := min (s.globals.epochSlips + 1) 4294967295 } ∧
    FlagSet.has (s.arriveSync l n).attn.flags .epochSlip = true := by
  rw [arriveSync_slips h other slip]
  exact ⟨(epochChange_globals _).trans (slipped_globals s), epochChange_flags_mono _ _ (raise_flag_set _ _)⟩

/-- R185: the number of a SYNC is its first two payload bytes, high byte first. -/
theorem syncEpoch_eq {cell : Cell} {n : Epoch} (h : n.toNat = 256 * cell[10].toNat + cell[11].toNat) : syncEpoch cell = n := by
  apply BitVec.eq_of_toNat_eq
  have low := cell[11].isLt
  rw [h, syncEpoch, BitVec.toNat_append, ← Nat.shiftLeft_add_eq_or_of_lt low, Nat.shiftLeft_eq]
  omega

/-- Settles O26: the delivery of the SYNC that `exec_cellArrival_good` credits, by its link and its number. -/
theorem syncsArrive : Obligations.SyncsArrive := by
  intro l cell s hr up hk good credited n number
  have arrives : exec (.cellArrival l cell) s = .next (credited.arriveSync l n) := by
    rw [← syncEpoch_eq number]
    exact exec_cellArrival_good hr up hk good
  refine ⟨fun stray => ?_, fun timing same => ?_, fun timing other => ?_⟩
  · rw [arrives]
    exact congrArg Host.Outcome.next (arriveSync_stray (s := credited) n stray)
  · subst same
    rw [arrives]
    exact congrArg Host.Outcome.next (arriveSync_aligned (s := credited) timing)
  · exact ⟨_, arrives, arriveSync_changed (s := credited) timing other, arriveSync_queues .., arriveSync_pool .., arriveSync_agent ..,
      arriveSync_params .., arriveSync_op .., arriveSync_scrub .., arriveSync_monitor .., arriveSync_next_globals (s := credited) timing other,
      arriveSync_slips_counted (s := credited) timing other⟩

end Sys2Proof.Epochs
end

section
/-! PROOFS. The roles of the banks: the active role moves only by a swap at an epoch change (R128, R129). -/

namespace Sys2Proof.Epochs

open Sys2Proof.Machine Sys2Proof.Laws Sys2Proof.LinkPorts Sys2Proof.ForwardingTables Sys2Proof.Congestion

/-! ### Swaps -/

/-- R128, R129: from `s` to `t` an epoch change has reached the target of the pending swap, and the swap has been performed. -/
structure Swapped (s t : State) : Prop where
  pending : s.epoch.swapPending = true
  changed : t.epoch.number ≠ s.epoch.number
  reached : (t.epoch.number - s.epoch.target).toNat < 32768
  settled : t.epoch.swapPending = false
  recorded : t.epoch.lastSwap = some t.epoch.number
  flagged : FlagSet.has t.attn.flags .swapCompleted = true

/-- R129: from `s` to `t` the active role stays, or a swap has moved it. -/
def MovesBySwap (s t : State) : Prop := t.tables.active ≠ s.tables.active → Swapped s t

theorem MovesBySwap.of_active {s t : State} (h : t.tables.active = s.tables.active) : MovesBySwap s t := fun moved => absurd h moved
theorem MovesBySwap.of_tables {s t : State} (h : t.tables = s.tables) : MovesBySwap s t := .of_active (congrArg Tables.active h)
theorem MovesBySwap.of_next {s t u : State} (h : (Host.Outcome.next u : Host.Outcome State Fault Refusal) = .next t) (k : MovesBySwap s u) :
    MovesBySwap s t := next_inj h ▸ k
theorem MovesBySwap.ite {s t : State} {c : Prop} [Decidable c] (h : MovesBySwap s t) : MovesBySwap s (if c then t else s) := by
  split
  · exact h
  · exact .of_tables rfl

/-- The roles and the epoch items before an event decide. -/
theorem MovesBySwap.before {s u t : State} (h : MovesBySwap u t) (epoch : u.epoch = s.epoch) (active : u.tables.active = s.tables.active) :
    MovesBySwap s t := by
  intro moved
  obtain ⟨pending, changed, reached, settled, recorded, flagged⟩ := h (active ▸ moved)
  rw [epoch] at pending changed reached
  exact ⟨pending, changed, reached, settled, recorded, flagged⟩

/-- An epoch change to another number swaps the roles, if at all, where it reaches the target. -/
theorem MovesBySwap.of_epochChanged {s t : State} {n : Epoch} (h : s.epochChanged n t) (other : n ≠ s.epoch.number) : MovesBySwap s t := by
  obtain ⟨rfl, -, -, -, -, -, -, -, swap⟩ := h
  split at swap
  · next due =>
    obtain ⟨-, settled, recorded, flagged, -⟩ := swap
    exact fun _ => ⟨due.1, other, due.2, settled, recorded, flagged⟩
  · exact .of_tables swap.1

/-- A link step that leaves the epoch items alone ends no pending swap, so it keeps the roles. -/
theorem MovesBySwap.of_linkStep {s t : State} (h : LinkStep s t) (epoch : t.epoch = s.epoch) : MovesBySwap s t := by
  obtain ⟨-, active⟩ | ⟨was, done⟩ := h.bystander.roles
  · exact .of_active active
  · rw [epoch, was] at done
    cases done

/-! ### Events that move the epoch items -/

theorem arriveSync_movesBySwap (s : State) (l : Link) (n : Epoch) : MovesBySwap s (s.arriveSync l n) := by
  by_cases timing : s.params.timingLink = some l
  · by_cases same : n = s.epoch.number
    · subst same
      rw [arriveSync_aligned timing]
      exact .of_tables rfl
    · exact .of_epochChanged (arriveSync_changed timing same) same
  · rw [arriveSync_stray n timing]
    exact .of_tables rfl

theorem deliver_movesBySwap (s : State) (l : Link) (kind : CellKind) (cell : Cell) : MovesBySwap s (s.deliver l kind cell) := by
  cases kind with
  | sync => exact arriveSync_movesBySwap s l _
  | _ => exact .of_tables (by simp [State.deliver])

theorem arriveGoodHeader_movesBySwap (s : State) (l : Link) (kind : CellKind) (cell : Cell) (hk : cellKind cell = some kind) :
    MovesBySwap s (s.arriveGoodHeader l kind cell) := by
  have step := arriveGoodHeader_linkStep s l kind cell hk
  cases hs : (s.link l).state with
  | disabled => exact .of_tables (by simp only [State.arriveGoodHeader, hs])
  | training => exact .of_linkStep step (by rw [arriveGoodHeader_training hs, train_epoch]; rfl)
  | faulted => exact .of_linkStep step (by rw [arriveGoodHeader_faulted hs]; rfl)
  | up =>
    by_cases good : payloadCheckGood cell = true
    · rw [arriveGoodHeader_up hs, if_pos good]
      exact (deliver_movesBySwap _ l kind cell).before rfl rfl
    · exact .of_linkStep step (by rw [arriveGoodHeader_up hs, if_neg good, badCell_epoch]; rfl)

theorem cellArrival_movesBySwap {s t : State} {l : Link} {cell : Cell} (h : execCellArrival l cell s = .next t) : MovesBySwap s t := by
  refine .of_next h ?_
  split
  · exact .of_tables rfl
  · split
    · exact .of_linkStep (arriveHeaderError_linkStep s l) (arriveHeaderError_epoch s l)
    · next hk => exact arriveGoodHeader_movesBySwap s l _ cell (goodHeaderKind_kind hk)

theorem epochTimerExpiry_movesBySwap {s t : State} (h : execEpochTimerExpiry s = .next t) : MovesBySwap s t :=
  .of_next h (.ite (.of_epochChanged (epochChange_changed s (s.epoch.number + 1)) (by simp)))

/-! ### Events that leave the epoch items alone -/

/-- The commands that write neither tables nor the operation record and may move the epoch items. -/
def mayMoveEpoch : Instr → Bool
  | .cellArrival .. | .epochTimerExpiry | .cancelSwap => true
  | _ => false

theorem epoch_of_next {s t u : State} (h : (Host.Outcome.next u : Host.Outcome State Fault Refusal) = .next t) (k : u.epoch = s.epoch) :
    t.epoch = s.epoch := next_inj h ▸ k
theorem epoch_ite {s t : State} {c : Prop} [Decidable c] (h : t.epoch = s.epoch) : (if c then t else s).epoch = s.epoch := by
  split
  · exact h
  · rfl

theorem holdOffExpiry_epoch {s t : State} {l : Link} (h : execHoldOffExpiry l s = .next t) : t.epoch = s.epoch := by
  refine epoch_of_next h (epoch_ite ?_)
  split
  · exact enterTraining_epoch ..
  · rfl

theorem nextCellEvent_epoch {s t : State} {l : Link} (h : execNextCellEvent l s = .next t) : t.epoch = s.epoch := by
  unfold execNextCellEvent at h
  split at h
  · exact nextCell_epoch s t l h
  · exact epoch_of_next h rfl

theorem exec_epoch {i : Instr} {s t : State} (notReset : i.isReset = false) (beside : writesTablesOrRecord i = false)
    (still : mayMoveEpoch i = false) (h : exec i s = .next t) : t.epoch = s.epoch := by
  cases i with
  | rstNRise | rstNFall => cases notReset
  | trainingWindowExpiry l => exact epoch_of_next h (epoch_ite (enterFaulted_epoch ..))
  | keepaliveExpiry l => exact epoch_of_next h (epoch_ite (enterFaulted_epoch ..))
  | holdOffExpiry l => exact holdOffExpiry_epoch h
  | nextCellEvent l => exact nextCellEvent_epoch h
  | monitorStep => exact epoch_of_next h (epoch_ite (monitorStep_epoch s))
  | coalescingTimerExpiry => exact epoch_of_next h (epoch_ite (oweFlowst_epoch _))
  | attentionHoldOffExpiry => exact epoch_of_next h (epoch_ite (attentionExpiry_epoch s))
  | readIdentity => exact epoch_of_next h (serve_epoch s _ _ answerReadIdentity_epoch)
  | readStatus => exact epoch_of_next h (serve_epoch s _ _ answerReadStatus_epoch)
  | readQueueSnapshot => exact epoch_of_next h (serve_epoch s _ _ answerReadQueueSnapshot_epoch)
  | readCounters => exact epoch_of_next h (serve_epoch s _ _ answerReadCounters_epoch)
  | readAttention => exact epoch_of_next h (serve_epoch s _ _ answerReadAttention_epoch)
  | readMissRecord => exact epoch_of_next h (serve_epoch s _ _ answerReadMissRecord_epoch)
  | readEntries => exact epoch_of_next h (serve_epoch s _ _ answerReadEntries_epoch)
  | enable => exact epoch_of_next h (serve_epoch s _ _ answerEnable_epoch)
  | disable => exact epoch_of_next h (serve_epoch s _ _ answerDisable_epoch)
  | flush => exact epoch_of_next h (serve_epoch s _ _ answerFlush_epoch)
  | retrain => exact epoch_of_next h (serve_epoch s _ _ answerRetrain_epoch)
  | sendFlowStatusNow => exact epoch_of_next h (serve_epoch s _ _ answerSendFlowStatusNow_epoch)
  | setManagementLinks => exact epoch_of_next h (serve_epoch s _ _ answerSetManagementLinks_epoch)
  | setParameter => exact epoch_of_next h (serve_epoch s _ _ answerSetParameter_epoch)
  | readParameter => exact epoch_of_next h (serve_epoch s _ _ answerReadParameter_epoch)
  | undefinedRequest => exact epoch_of_next h (serve_epoch s _ _ answerUndefined_epoch)
  | cellArrival | epochTimerExpiry | cancelSwap => cases still
  | _ => cases beside

/-! ### Events that write tables or the operation record -/

theorem fillStep_active (s : State) : s.fillStep.tables.active = s.tables.active := by
  obtain idle | ⟨n, bank, e, first, last, written, running⟩ := fillStep_cases s
  · rw [idle]
  · rw [fillStep_running running, stepOp_tables]
    exact putEntry_active ..

theorem copyStep_active (s : State) : s.copyStep.tables.active = s.tables.active := by
  obtain idle | ⟨n, source, dest, written, asInitial, running⟩ := copyStep_cases s
  · rw [idle]
  · rw [copyStep_at running, stepOp_tables]
    exact putEntry_active ..

theorem serve_active (s : State) (row : RequestRow) (execute : Payload → State → Answer × State)
    (h : ∀ r u, (execute r u).2.tables.active = u.tables.active) : (s.serve row execute).tables.active = s.tables.active := by
  obtain same | ⟨r, -, served⟩ := serve_cases s row execute
  · rw [same]
  · rw [served, place_tables]
    exact h r.record _

theorem answerWriteEntries_active (r : Payload) (s : State) : (answerWriteEntries r s).2.tables.active = s.tables.active := by
  obtain same | ⟨tb, written⟩ := answerWriteEntries_cases r s
  · rw [same]
  · rw [written]
    exact (writeRange_roles ..).1

/-- A Repair Entry either leaves the state or repairs one entry (R149). -/
theorem answerRepairEntry_cases (r : Payload) (s : State) :
    (answerRepairEntry r s).2 = s ∨ ∃ tb n e, (answerRepairEntry r s).2 = s.repair tb n e := by
  unfold answerRepairEntry
  split
  · exact .inl rfl
  · dsimp only
    split
    · exact .inl rfl
    · split
      · exact .inl rfl
      · split
        · exact .inl rfl
        · exact .inr ⟨_, _, _, rfl⟩

theorem answerRepairEntry_active (r : Payload) (s : State) : (answerRepairEntry r s).2.tables.active = s.tables.active := by
  obtain same | ⟨tb, n, e, repaired⟩ := answerRepairEntry_cases r s
  · rw [same]
  · rw [repaired]
    exact (repair_banks ..).1

/-- R129: the commands that write tables or the operation record move no role. -/
theorem exec_writes_movesBySwap {i : Instr} {s t : State} (writes : writesTablesOrRecord i = true) (h : exec i s = .next t) : MovesBySwap s t := by
  cases i with
  | admission => exact .of_next h (.ite (.of_active (admission_marksAtMostOne s).active))
  | scrubStep => exact .of_next h (.ite (.of_active (scrubVisit_marksAtMostOne s).active))
  | tableDisturbance b n e code => exact .of_next h (.ite (.of_active (putEntry_active ..)))
  | fillStep => exact .of_next h (.ite (.of_active (fillStep_active s)))
  | copyStep => exact .of_next h (.ite (.of_active (copyStep_active s)))
  | digestStep => exact .of_next h (.ite (.of_tables (digestStep_tables s)))
  | memtestStep passes => exact .of_next h (.ite (.of_tables (memtestStep_tables s passes)))
  | writeEntries => exact .of_next h (.of_active (serve_active s _ _ answerWriteEntries_active))
  | repairEntry => exact .of_next h (.of_active (serve_active s _ _ answerRepairEntry_active))
  | fillEntries => exact .of_next h (.of_tables (serve_tables s _ _ answerFillEntries_tables))
  | copyBank => exact .of_next h (.of_tables (serve_tables s _ _ answerCopyBank_tables))
  | digestBank => exact .of_next h (.of_tables (serve_tables s _ _ answerDigestBank_tables))
  | startMemoryTest => exact .of_next h (.of_tables (serve_tables s _ _ answerStartMemoryTest_tables))
  | scheduleSwap => exact .of_next h (.of_tables (serve_tables s _ _ answerScheduleSwap_tables))
  | datapathReset => exact .of_next h (.of_tables (serve_tables s _ _ answerDatapathReset_tables))
  | _ => cases writes

/-! ### Every command -/

/-- R129: an arrival or the timer may swap; a Cancel Swap writes no table. -/
theorem exec_movesEpoch_movesBySwap {i : Instr} {s t : State} (moves : mayMoveEpoch i = true) (h : exec i s = .next t) : MovesBySwap s t := by
  cases i with
  | cellArrival l cell => exact cellArrival_movesBySwap h
  | epochTimerExpiry => exact epochTimerExpiry_movesBySwap h
  | cancelSwap => exact .of_next h (.of_tables (serve_tables s _ _ answerCancelSwap_tables))
  | _ => cases moves

theorem exec_movesBySwap {i : Instr} {s t : State} (notReset : i.isReset = false) (h : exec i s = .next t) : MovesBySwap s t := by
  cases writes : writesTablesOrRecord i with
  | true => exact exec_writes_movesBySwap writes h
  | false =>
    cases moves : mayMoveEpoch i with
    | true => exact exec_movesEpoch_movesBySwap moves h
    | false => exact .of_linkStep (exec_linkStep notReset writes h) (exec_epoch notReset writes moves h)

/-- Settles O18: an event moves the active role by a swap or not at all, since every other event keeps the roles or ends no pending swap. -/
theorem activeRoleMovesOnlyBySwap : Obligations.ActiveRoleMovesOnlyBySwap := by
  intro i s t notReset h moved
  obtain ⟨pending, changed, reached, settled, recorded, flagged⟩ := exec_movesBySwap notReset h moved
  exact ⟨pending, changed, reached, settled, recorded, flagged⟩

end Sys2Proof.Epochs
end

section
/-! PROOFS. The requests that report: where the parts of a response's data stand, and Read Identity, Read Status, Read Queue Snapshot, Read Counters,
Read Attention and Read Miss Record (R143 to R146, R187). -/

namespace Sys2Proof.Reports

open Sys2Proof.Machine Sys2Proof.Laws Sys2Proof.LinkPorts

/-! ### Parts of a response's data

A part of a response stands at byte `o` when the data, which begins at byte 4, goes on with it from there. -/

/-- A byte of a part. -/
theorem recByte_part {r : Payload} {res : Byte} {data part : List Byte} {o : Nat} (h : part <+: data.drop (o - 4)) (k : Nat)
    (hk : k < part.length) (low : 4 ≤ o := by omega) (fits : o + k < 64 := by omega) :
    recByte (replyBytes r res data) (o + k) = part.getD k 0 := by
  obtain ⟨after, h⟩ := h
  rw [recByte_reply _ _ _ _ (by omega), if_pos fits, ← getD_append_left part after k hk, h, show o + k - 4 = o - 4 + k by omega]
  simp [List.getD_eq_getElem?_getD]

theorem recByte_field {r : Payload} {res b : Byte} {data : List Byte} {o : Nat} (h : [b] <+: data.drop (o - 4))
    (low : 4 ≤ o := by omega) (fits : o < 64 := by omega) : recByte (replyBytes r res data) o = b :=
  recByte_part h 0 (by simp)

theorem recWord_field {r : Payload} {res : Byte} {data : List Byte} {o : Nat} {v : BitVec 16} (h : be16 v <+: data.drop (o - 4))
    (low : 4 ≤ o := by omega) (fits : o + 1 < 64 := by omega) : recWord (replyBytes r res data) o = v := by
  have high := recByte_part (r := r) (res := res) h 0 (by simp [be16])
  have last := recByte_part (r := r) (res := res) h 1 (by simp [be16])
  rw [recWord, last, show recByte (replyBytes r res data) o = _ from high]
  exact be16_pair v

theorem recLong_field {r : Payload} {res : Byte} {data : List Byte} {o : Nat} {v : BitVec 32} (h : be32 v <+: data.drop (o - 4))
    (low : 4 ≤ o := by omega) (fits : o + 3 < 64 := by omega) : recLong (replyBytes r res data) o = v := by
  have bytes := fun k hk => recByte_part (r := r) (res := res) h k (show k < 4 from hk) low
  rw [recLong, bytes 1 (by omega), bytes 2 (by omega), bytes 3 (by omega), show recByte (replyBytes r res data) o = _ from bytes 0 (by omega)]
  exact be32_quad v

theorem linkSet_field {r : Payload} {res : Byte} {data : List Byte} {o : Nat} {set : LinkSet} (h : setBytes set <+: data.drop (o - 4)) (k : Link)
    (low : 4 ≤ o := by omega) (fits : o + 3 < 64 := by omega) :
    (recByte (replyBytes r res data) (o + k.val / 8)).getLsbD (k.val % 8) = LinkSet.has set k := by
  rw [recByte_part h _ (by rw [setBytes_length]; omega) low, setBytes_has]

/-- A part of a part. -/
theorem part_drop {data part sub : List Byte} {n m : Nat} (h : part <+: data.drop n) (hs : sub <+: part.drop m) : sub <+: data.drop (n + m) := by
  rw [← List.drop_drop]
  exact hs.trans (h.drop m)

/-- The place of a part among parts laid one after another. -/
theorem part_flatten {parts : List (List Byte)} {part : List Byte} {i : Nat} (h : parts[i]? = some part) :
    part <+: parts.flatten.drop ((parts.map List.length).take i).sum := by
  induction parts generalizing i with
  | nil => cases h
  | cons first parts ih =>
    cases i with
    | zero =>
      cases h
      exact ⟨_, rfl⟩
    | succ i =>
      rw [List.map_cons, List.take_succ_cons, List.sum_cons, List.flatten_cons, List.drop_length_add_append]
      exact ih h

/-- The place of a block among blocks of one width. -/
theorem part_flatMap {α : Type} {f : α → List Byte} {w : Nat} (width : ∀ a, (f a).length = w) {as : List α} {k : Nat} {a : α}
    (h : as[k]? = some a) : f a <+: (as.flatMap f).drop (w * k) := by
  obtain ⟨inside, -⟩ := List.getElem?_eq_some_iff.1 h
  have place := part_flatten (parts := as.map f) (part := f a) (i := k) (by simp [h])
  have widths : ((as.map f).map List.length).take k = List.replicate k w := by
    simp [width, Function.comp_def, List.map_const', List.take_replicate, Nat.min_eq_left inside.le]
  rwa [widths, List.sum_replicate, smul_eq_mul, Nat.mul_comm, ← List.flatMap_def] at place

theorem blocks_length {α : Type} (f : α → List Byte) {w : Nat} (width : ∀ a, (f a).length = w) (as : List α) :
    (as.flatMap f).length = w * as.length := by
  simp [List.length_flatMap, width, Nat.mul_comm]

/-! ### Rows -/

theorem requestRow_readIdentity {r : Payload} (h : recByte r 0 = 0x01) : requestRow r = .readIdentity := by
  unfold requestRow
  rw [h]
  rfl
theorem requestRow_readStatus {r : Payload} (h : recByte r 0 = 0x02) : requestRow r = .readStatus := by
  unfold requestRow
  rw [h]
  rfl
theorem requestRow_readQueueSnapshot {r : Payload} (h : recByte r 0 = 0x03) : requestRow r = .readQueueSnapshot := by
  unfold requestRow
  rw [h]
  rfl
theorem requestRow_readCounters {r : Payload} (h : recByte r 0 = 0x04) : requestRow r = .readCounters := by
  unfold requestRow
  rw [h]
  rfl
theorem requestRow_readAttention {r : Payload} (h : recByte r 0 = 0x05) : requestRow r = .readAttention := by
  unfold requestRow
  rw [h]
  rfl
theorem requestRow_readMissRecord {r : Payload} (h : recByte r 0 = 0x06) : requestRow r = .readMissRecord := by
  unfold requestRow
  rw [h]
  rfl

/-- A request that is DONE and leaves `u`, its own place in the queue aside. -/
theorem answers_done {s u : State} {i : Instr} {l : Link} {r : Payload} {rest : List Carried} {row : RequestRow}
    {execute : Payload → State → Answer × State} {data : List Byte} (hi : exec i s = .next (s.serve row execute)) (h : s.hasRequest l r rest)
    (hr : requestRow r = row) (ha : execute r (requeued s rest) = (⟨.done, data⟩, requeued u rest)) :
    s.answers i u l rest (replyBytes r 0 data) := answers_of (exec_answered hi _ u h hr ha rfl rfl)

/-! ### Read Identity (R182) -/

theorem identityData_eq (straps : Straps) : identityData straps =
    [0x07, 0x32, 0x19, 0x14, 0x01, 0x20, 0x40, 0x00, 0x10, 0x00, BitVec.ofNat 8 straps.plane.toNat, BitVec.ofNat 8 straps.mgp.val,
     BitVec.ofNat 8 straps.mgs.val] := by
  have plane : straps.plane.zeroExtend 8 = BitVec.ofNat 8 straps.plane.toNat := BitVec.eq_of_toNat_eq (by simp)
  rw [← plane]
  rfl

/-! ### Read Status (R143) -/

theorem answerReadStatus_badRange {r : Payload} (s : State) (h : 32 ≤ (recByte r 4).toNat) : answerReadStatus r s = (.refuse .badRange, s) := by
  unfold answerReadStatus
  rw [linkOf_none _ h]
theorem answerReadStatus_done {r : Payload} (s : State) {k : Link} (h : (recByte r 4).toNat = k.val) :
    answerReadStatus r s = (⟨.done, s.statusData k⟩, s) := by
  unfold answerReadStatus
  rw [linkOf_eq _ k h]

/-- R187: the fields of a Read Status response from byte 4 on. -/
def statusParts (s : State) (k : Link) : List (List Byte) :=
  [s.linkStateBytes, setBytes (setOf fun n => decide ((s.link n).state = .up) && (s.link n).disablePending), [num8 k.val],
   [num8 (s.link k).cause.code], num16 (s.link k).budget, [num8 (s.link k).retrainCount], [num8 (s.link k).farGap],
   setBytes (setOf fun d => decide (slot s.tables.selectors d = .spare)), be16 s.epoch.number, [flagByte s.epoch.swapPending],
   be16 s.epoch.target, lastSwapBytes s.epoch.lastSwap, [num8 s.tables.active.val], num16 s.pool.free.length, num16 s.pool.retired.length,
   opBytes (fun i => s.freeByte (51 + i)) s.op, [num8 s.agent.queue.length]]

/-- R187: how many bytes each field of a Read Status response takes. -/
def statusWidths : List Nat := [8, 4, 1, 1, 2, 1, 1, 4, 2, 1, 2, 3, 1, 2, 2, 16, 1]

theorem lastSwapBytes_length (e : Option Epoch) : (lastSwapBytes e).length = 3 := by cases e <;> rfl

theorem statusParts_lengths (s : State) (k : Link) : (statusParts s k).map List.length = statusWidths := by
  simp [statusParts, statusWidths, State.linkStateBytes, opBytes_len, setBytes_length, lastSwapBytes_length, num16, be16_len]

theorem statusData_eq (s : State) (k : Link) : s.statusData k = (statusParts s k).flatten := by
  simp [State.statusData, statusParts]

theorem statusData_length (s : State) (k : Link) : (s.statusData k).length = 52 := by
  rw [statusData_eq, List.length_flatten, statusParts_lengths]
  rfl

/-- The place of a field of the status. -/
theorem statusPart (s : State) (k : Link) {part : List Byte} {n : Nat} (i : Nat) (h : (statusParts s k)[i]? = some part)
    (place : (statusWidths.take i).sum = n) : part <+: (s.statusData k).drop n := by
  rw [statusData_eq, ← place, ← statusParts_lengths s k]
  exact part_flatten h

/-- R187: the last swap epoch with its presence byte at byte `o`. -/
theorem lastSwap_field {r : Payload} {res : Byte} {data : List Byte} {o : Nat} {e : Option Epoch} (low : 4 ≤ o := by omega)
    (fits : o + 2 < 64 := by omega) : lastSwapBytes e <+: data.drop (o - 4) →
    match e with
    | none => recByte (replyBytes r res data) o = 0 ∧ recWord (replyBytes r res data) (o + 1) = 0
    | some v => recByte (replyBytes r res data) o = 1 ∧ recWord (replyBytes r res data) (o + 1) = v := by
  intro h
  have bytes := fun k hk => recByte_part (r := r) (res := res) h k (lt_of_lt_of_eq hk (lastSwapBytes_length e).symm) low
  have presence : recByte (replyBytes r res data) o = _ := bytes 0 (by omega)
  rw [recWord, presence, bytes 1 (by omega), bytes 2 (by omega)]
  cases e with
  | none => exact ⟨rfl, rfl⟩
  | some v => exact ⟨rfl, be16_pair v⟩

/-- R183: the code of a fault cause as its byte holds it. -/
theorem faultCause_code (cause : FaultCause) :
    (num8 cause.code).toNat = (match cause with | .none => 0 | .training => 1 | .keepalive => 2 | .errors => 3) := by
  cases cause <;> rfl

/-- Settles O46: each field of the status stands where the layout puts it. -/
theorem identityAndStatusAreReported : Obligations.IdentityAndStatusAreReported := by
  intro s l r rest h
  refine ⟨fun kind => ?_, fun kind high => ?_, fun k kind hk => ?_⟩
  · rw [← identityData_eq]
    exact answers_done rfl h (requestRow_readIdentity kind) rfl
  · exact answers_refused rfl .badRange h (requestRow_readStatus kind) (answerReadStatus_badRange _ high) rfl
  · have field {n : Nat} {part : List Byte} := statusPart (requeued s rest) k (part := part) (n := n)
    refine ⟨_, answers_done rfl h (requestRow_readStatus kind) (answerReadStatus_done _ hk), (recByte_reply_kind ..).trans kind,
      recByte_reply_result .., recWord_reply_tag .., fun n => ?states, fun n => ?disablePending, ?link, ?cause, recWord_field (field 4 rfl rfl),
      recByte_field (field 5 rfl rfl), recByte_field (field 6 rfl rfl), fun d => ?selectors, recWord_field (field 8 rfl rfl),
      recByte_field (field 9 rfl rfl), recWord_field (field 10 rfl rfl), lastSwap_field (o := 31) (by omega) (by omega) (field 11 rfl rfl),
      ?active, recWord_field (field 13 rfl rfl), recWord_field (field 14 rfl rfl),
      operationAt_of _ _ _ _ fun n hn => recByte_part (field 15 rfl rfl) n ?operation, recByte_field (field 16 rfl rfl), fun n hn => ?beyond⟩
    case states =>
      rw [recByte_part (field 0 rfl rfl) _ (by simp [State.linkStateBytes]; omega), linkStateBytes_at]
      rfl
    case disablePending =>
      rw [linkSet_field (field 1 rfl rfl), setOf_has]
      rfl
    case link => rw [recByte_field (field 2 rfl rfl), num8_toNat _ (by omega)]
    case cause =>
      rw [recByte_field (field 3 rfl rfl), faultCause_code]
      rfl
    case selectors =>
      rw [linkSet_field (field 7 rfl rfl), setOf_has]
      rfl
    case active =>
      rw [recByte_field (field 12 rfl rfl), num8_toNat _ (by omega)]
      rfl
    case operation =>
      rw [opBytes_len]
      exact hn
    case beyond => exact recByte_reply_beyond _ _ _ n (by rw [statusData_length]; exact hn)

/-! ### Read Queue Snapshot (R144) -/

theorem answerReadQueueSnapshot_badRange {r : Payload} (s : State) (h : 32 ≤ (recByte r 4).toNat) :
    answerReadQueueSnapshot r s = (.refuse .badRange, s) := by
  unfold answerReadQueueSnapshot
  rw [linkOf_none _ h]
theorem answerReadQueueSnapshot_done {r : Payload} (s : State) {k : Link} (h : (recByte r 4).toNat = k.val) :
    answerReadQueueSnapshot r s = (⟨.done, num8 k.val :: (linkQueues k).flatMap fun q => (s.queue q).snapshot⟩, s) := by
  unfold answerReadQueueSnapshot
  rw [linkOf_eq _ k h]

theorem linkQueues_getElem? (k : Link) (c : Sys2Proof.Class) : (linkQueues k)[c.val]? = some (queueId k c) := by
  fin_cases c <;> rfl

theorem snapshot_length (q : OutQueue) : q.snapshot.length = 6 := rfl

/-- R144: where a field of the record of class `c` stands in the snapshot. -/
theorem snapshotPart (s : State) (k : Link) (c : Sys2Proof.Class) {part : List Byte} {m n : Nat}
    (h : part <+: (s.queue (queueId k c)).snapshot.drop m) (place : 1 + 6 * c.val + m = n) :
    part <+: (num8 k.val :: (linkQueues k).flatMap fun q => (s.queue q).snapshot).drop n := by
  have block := part_flatMap (f := fun q => (s.queue q).snapshot) (fun q => snapshot_length _) (linkQueues_getElem? k c)
  rw [← place, Nat.add_assoc, ← List.drop_drop, List.drop_one, List.tail_cons]
  exact part_drop block h

/-- R183: the code of a mark level as its byte holds it. -/
theorem markLevel_code (level : MarkLevel) : level.code.toNat = (match level with | .none => 0 | .part => 1 | .full => 2) := by
  cases level <;> rfl
/-- R183: the code of a pause state as its byte holds it. -/
theorem pauseState_code (pause : PauseState) : pause.code.toNat = (match pause with | .clear => 0 | .paused => 1) := by
  cases pause <;> rfl

/-- Settles O47: the four records are blocks of six bytes in the order of the classes. -/
theorem queueSnapshotReportsFourQueues : Obligations.QueueSnapshotReportsFourQueues := by
  intro s l r rest h kind
  have row := requestRow_readQueueSnapshot kind
  refine ⟨fun high => answers_refused rfl .badRange h row (answerReadQueueSnapshot_badRange _ high) rfl, fun k hk => ?_⟩
  refine ⟨_, answers_done rfl h row (answerReadQueueSnapshot_done _ hk), (recByte_reply_kind ..).trans kind, recByte_reply_result ..,
    recWord_reply_tag .., ?_, fun c => ?_, fun n hn => recByte_reply_beyond _ _ _ n ?_⟩
  · rw [recByte_field ⟨_, rfl⟩, num8_toNat _ (by omega)]
  · have field {part : List Byte} {m n : Nat} := snapshotPart (requeued s rest) k c (part := part) (m := m) (n := n)
    refine ⟨recWord_field (field (m := 0) ⟨_, rfl⟩ (by omega)), recWord_field (field (m := 2) ⟨_, rfl⟩ (by omega)), ?_, ?_⟩
    · rw [recByte_field (field (m := 4) ⟨_, rfl⟩ (by omega)), markLevel_code]
      rfl
    · rw [recByte_field (field (m := 5) ⟨_, rfl⟩ (by omega)), pauseState_code]
      rfl
  · rw [List.length_cons, blocks_length _ fun q => snapshot_length _]
    exact hn

/-! ### Read Counters (R145) -/

theorem num32_length (n : Nat) : (num32 n).length = 4 := rfl

/-- R145: the counters of a group, four bytes each. -/
theorem counter_field {r : Payload} {res : Byte} {counters : List Nat} {n : Nat} (inside : n < counters.length)
    (few : counters.length ≤ 15) :
    recLong (replyBytes r res (counters.flatMap num32)) (4 + 4 * n) = BitVec.ofNat 32 (counters.getD n 0) := by
  have value : counters[n]? = some (counters.getD n 0) := by simp [List.getD_eq_getElem?_getD, inside]
  refine recLong_field ?_
  rw [Nat.add_sub_cancel_left]
  exact part_flatMap num32_length value

theorem answerReadCounters_badRange {r : Payload} (s : State) (h : 2 < (recByte r 4).toNat ∨
      ((recByte r 4).toNat < 2 ∧ 31 < (recByte r 5).toNat) ∨ ((recByte r 4).toNat = 1 ∧ 3 < (recByte r 6).toNat)) :
    answerReadCounters r s = (.refuse .badRange, s) := by
  unfold answerReadCounters
  split
  · next group =>
    have high : 31 < (recByte r 5).toNat := by omega
    rw [linkOf_none _ high]
  · next group =>
    split
    · next link cls =>
      have noLink : ¬ 31 < (recByte r 5).toNat := fun high => by rw [linkOf_none _ high] at link; cases link
      have noClass : ¬ 3 < (recByte r 6).toNat := fun high => by rw [classOf_none _ high] at cls; cases cls
      omega
    · rfl
  · omega
  · rfl

theorem answerReadCounters_link {r : Payload} (s : State) {k : Link} (group : (recByte r 4).toNat = 0) (hk : (recByte r 5).toNat = k.val) :
    answerReadCounters r s = (⟨.done, (s.link k).counters.all.flatMap num32⟩,
      if recClear r = true then s.countLink k fun _ => LinkCounters.zero else s) := by
  unfold answerReadCounters
  rw [group, linkOf_eq _ k hk]
  rfl
theorem answerReadCounters_queue {r : Payload} (s : State) {k : Link} {c : Sys2Proof.Class} (group : (recByte r 4).toNat = 1)
    (hk : (recByte r 5).toNat = k.val) (hc : (recByte r 6).toNat = c.val) :
    answerReadCounters r s = (⟨.done, (s.queue (queueId k c)).counters.all.flatMap num32⟩,
      if recClear r = true then s.countQueue (queueId k c) fun _ => ⟨0, 0, 0, 0⟩ else s) := by
  unfold answerReadCounters
  rw [group, linkOf_eq _ k hk, classOf_eq _ c hc]
  rfl
theorem answerReadCounters_global {r : Payload} (s : State) (group : (recByte r 4).toNat = 2) :
    answerReadCounters r s = (⟨.done, s.globals.all.flatMap num32⟩,
      if recClear r = true then s.countGlobal fun _ => ⟨0, 0, 0, 0, 0, 0, 0, 0⟩ else s) := by
  unfold answerReadCounters
  rw [group]
  rfl

/-- R145: a group that is answered and, where Clear is set, cleared in the same event. -/
theorem answers_cleared {s u : State} {i : Instr} {l : Link} {r : Payload} {rest : List Carried} {row : RequestRow}
    {execute : Payload → State → Answer × State} {data : List Byte} (hi : exec i s = .next (s.serve row execute)) (h : s.hasRequest l r rest)
    (hr : requestRow r = row)
    (ha : execute r (requeued s rest) = (⟨.done, data⟩, if recClear r = true then requeued u rest else requeued s rest)) :
    s.answers i (if (recByte r 1).getLsbD 0 = true then u else s) l rest (replyBytes r 0 data) := by
  refine answers_done hi h hr (ha.trans (congrArg _ ?_))
  exact (apply_ite (requeued · rest) (recClear r = true) u s).symm

/-- Settles O48: each group is read before it is cleared, in the one event. -/
theorem countersAreReadAndCleared : Obligations.CountersAreReadAndCleared := by
  intro s l r rest h kind clear
  have row := requestRow_readCounters kind
  refine ⟨fun out => answers_refused rfl .badRange h row (answerReadCounters_badRange _ out) rfl, fun k group hk => ?_, fun k c group hk hc => ?_,
    fun group => ?_⟩
  · exact ⟨_, answers_cleared rfl h row (answerReadCounters_link _ group hk), recByte_reply_result .., fun n hn => counter_field hn (le_refl 15)⟩
  · exact ⟨_, answers_cleared rfl h row (answerReadCounters_queue _ group hk hc), recByte_reply_result ..,
      fun n hn => counter_field hn (show 4 ≤ 15 by omega)⟩
  · exact ⟨_, answers_cleared rfl h row (answerReadCounters_global _ group), recByte_reply_result ..,
      fun n hn => counter_field hn (show 8 ≤ 15 by omega)⟩

/-! ### Read Attention and Read Miss Record (R146) -/

theorem lastCorruptBytes_length (s : State) : s.lastCorruptBytes.length = 5 := by
  unfold State.lastCorruptBytes
  split <;> rfl

theorem missBytes_length (s : State) : s.missBytes.length = 8 := by
  unfold State.missBytes
  split <;> rfl

/-- R173, R187: the last-corrupt record of a Read Attention response. -/
theorem lastCorrupt_field (s : State) {r : Payload} {data : List Byte} (h : s.lastCorruptBytes <+: data.drop 5) :
    let reply := replyBytes r 0 data
    match s.attn.lastCorrupt with
    | none => recByte reply 9 = 0
    | some c => recByte reply 9 = 1 ∧ recByte reply 10 = (match c.table with | .group => 0 | .destination => 1) ∧
        (recByte reply 11).toNat = c.bank.val ∧ recWord reply 12 = BitVec.ofNat 16 c.index := by
  unfold State.lastCorruptBytes at h
  intro reply
  cases e : s.attn.lastCorrupt with
  | none =>
    rw [e] at h
    exact recByte_field (o := 9) (part_drop h (m := 0) ⟨_, rfl⟩)
  | some c =>
    rw [e] at h
    refine ⟨recByte_field (o := 9) (part_drop h (m := 0) ⟨_, rfl⟩), (recByte_field (o := 10) (part_drop h (m := 1) ⟨_, rfl⟩)).trans ?_, ?_,
      recWord_field (o := 12) (part_drop h (m := 3) ⟨_, rfl⟩)⟩
    · cases c.table <;> rfl
    · rw [show recByte reply 11 = num8 c.bank.val from recByte_field (part_drop h (m := 2) ⟨_, rfl⟩), num8_toNat _ (by omega)]

/-- R181, R187: the miss record of a Read Miss Record response. -/
theorem miss_field (s : State) (r : Payload) :
    let reply := replyBytes r 0 s.missBytes
    match s.attn.miss with
    | none => recByte reply 4 = 0
    | some m => recByte reply 4 = 1 ∧ recWord reply 5 = BitVec.ofNat 16 m.group ∧ (recByte reply 7).toNat = m.link.val ∧
        recWord reply 8 = m.epoch ∧ recWord reply 10 = BitVec.ofNat 16 m.count := by
  intro reply
  have data : reply = replyBytes r 0 s.missBytes := rfl
  unfold State.missBytes at data
  cases e : s.attn.miss with
  | none =>
    rw [e] at data
    rw [data]
    exact recByte_field ⟨_, rfl⟩
  | some m =>
    rw [e] at data
    rw [data]
    refine ⟨recByte_field ⟨_, rfl⟩, recWord_field ⟨_, rfl⟩, ?_, recWord_field ⟨_, rfl⟩, recWord_field ⟨_, rfl⟩⟩
    rw [recByte_field ⟨_, rfl⟩, num8_toNat _ (by omega)]

/-- Settles O49: each record is read before it is cleared, in the one event. -/
theorem attentionAndMissesAreReadAndCleared : Obligations.AttentionAndMissesAreReadAndCleared := by
  intro s l r rest h
  refine ⟨fun kind => ?_, fun kind => ?_⟩
  · refine ⟨_, answers_done rfl h (requestRow_readAttention kind) rfl, recByte_reply_result .., recByte_field ⟨_, rfl⟩,
      fun k => linkSet_field ⟨_, rfl⟩ k, lastCorrupt_field (requeued s rest) ⟨[], List.append_nil _⟩,
      fun n hn => recByte_reply_beyond _ _ _ n ?_⟩
    rw [List.length_append, lastCorruptBytes_length]
    exact hn
  · refine ⟨_, answers_done rfl h (requestRow_readMissRecord kind) rfl, recByte_reply_result .., miss_field (requeued s rest) r,
      fun n hn => recByte_reply_beyond _ _ _ n ?_⟩
    rw [missBytes_length]
    exact hn

end Sys2Proof.Reports
end

section
/-! PROOFS. Read Parameter and Set Parameter: the parameter that an id and an index name (R188), the refusals of a value, the value stored and what
is tied to its write (R69, R154 to R156, R170). -/

namespace Sys2Proof.Parameters

open Sys2Proof.Machine Sys2Proof.Laws Sys2Proof.LinkPorts Sys2Proof.DataPath Sys2Proof.Reports

theorem requestRow_setParameter {r : Payload} (h : recByte r 0 = 0x40) : requestRow r = .setParameter := by
  unfold requestRow
  rw [h]
  rfl
theorem requestRow_readParameter {r : Payload} (h : recByte r 0 = 0x41) : requestRow r = .readParameter := by
  unfold requestRow
  rw [h]
  rfl

/-! ### Read Parameter (R155) -/

theorem answerReadParameter_badRange {r : Payload} (s : State) (h : paramOf (recByte r 4) (recByte r 5) = none) :
    answerReadParameter r s = (.refuse .badRange, s) := by
  unfold answerReadParameter
  rw [h]
theorem answerReadParameter_done {r : Payload} (s : State) {p : Param} (h : paramOf (recByte r 4) (recByte r 5) = some p) :
    answerReadParameter r s = (⟨.done, parameterEcho r ++ s.params.valueBytes p⟩, s) := by
  unfold answerReadParameter
  rw [h]
  rfl

/-- Settles O59: the value stands behind the id and the index. -/
theorem readParameterReportsTheValueInForce : Obligations.ReadParameterReportsTheValueInForce := by
  intro s l r rest h kind
  have row := requestRow_readParameter kind
  refine ⟨fun unnamed => answers_refused rfl .badRange h row (answerReadParameter_badRange _ unnamed) rfl, fun p named => ?_⟩
  refine ⟨_, answers_done rfl h row (answerReadParameter_done _ named), (recByte_reply_kind ..).trans kind, recByte_reply_result ..,
    recWord_reply_tag .., recByte_field ⟨_, rfl⟩, recByte_field ⟨_, rfl⟩, recByte_field ⟨_, rfl⟩, recByte_field ⟨_, rfl⟩,
    valueAt_of _ _ _ fun n hn => recByte_part ⟨[], List.append_nil _⟩ n (lt_of_lt_of_eq hn (valueBytes_len _ _).symm),
    fun n hn => recByte_reply_beyond _ _ _ n ?_⟩
  rw [List.length_append, valueBytes_len]
  exact hn

/-! ### The values stored (R154) -/

theorem range_ordered (p : Param) : p.range.1 ≤ p.range.2 := by cases p <;> simp [Param.range]

theorem stored_eq_clamp (p : Param) (v : Nat) : p.stored v = clamp p.range.1 p.range.2 v := (clamp_stored _ _ v (range_ordered p)).symm

/-- R154 steps 2 and 4: the parameter or its pair refuses the value. -/
def refusesValue (ps : Params) (v : Nat) : Param → Prop
  | .limit _ => v = 0
  | .timingLink => 32 < v
  | .xoff c => (Param.xoff c).stored v ≤ slot ps.xon c
  | .xon c => slot ps.xoff c ≤ (Param.xon c).stored v
  | .markLow c => slot ps.markHigh c < (Param.markLow c).stored v
  | .markHigh c => (Param.markHigh c).stored v < slot ps.markLow c
  | _ => False

theorem refusesValue_iff (ps : Params) (v : Nat) (p : Param) : refusesValue ps v p ↔
    (∃ c, p = .limit c ∧ v = 0) ∨ (p = .timingLink ∧ 32 < v) ∨ (∃ c, p = .xoff c ∧ p.stored v ≤ slot ps.xon c) ∨
      (∃ c, p = .xon c ∧ slot ps.xoff c ≤ p.stored v) ∨ (∃ c, p = .markLow c ∧ slot ps.markHigh c < p.stored v) ∨
      (∃ c, p = .markHigh c ∧ p.stored v < slot ps.markLow c) := by
  cases p <;> simp [refusesValue]

/-- The parameters with the number `x` in force for one that is a number; 32 for no timing link (R154). -/
def withNumber (ps : Params) (x : Nat) : Param → Params
  | .limit c => { ps with limit := setSlot ps.limit c x }
  | .floor c => { ps with floor := setSlot ps.floor c x }
  | .xoff c => { ps with xoff := setSlot ps.xoff c x }
  | .xon c => { ps with xon := setSlot ps.xon c x }
  | .markLow c => { ps with markLow := setSlot ps.markLow c x }
  | .markHigh c => { ps with markHigh := setSlot ps.markHigh c x }
  | .m => { ps with m := x }
  | .w => { ps with w := x }
  | .monitorStep => { ps with monitorStep := x }
  | .weight k => { ps with
      weight1 := if k = .one then x else ps.weight1
      weight2 := if k = .two then x else ps.weight2
      weight3 := if k = .three then x else ps.weight3 }
  | .gap l => { ps with gap := setSlot ps.gap l x }
  | .keepalive => { ps with keepalive := x }
  | .budgetThreshold => { ps with budgetThreshold := x }
  | .holdOff => { ps with holdOff := x }
  | .retrainLimit => { ps with retrainLimit := x }
  | .epochPeriod => { ps with epochPeriod := x }
  | .timingLink => { ps with timingLink := if h : x < 32 then some ⟨x, h⟩ else none }
  | .flowstHoldOff => { ps with flowstHoldOff := x }
  | .refresh => { ps with refresh := x }
  | .recipients => ps
  | .poolLow => { ps with poolLow := x }
  | .attnMask => ps
  | .attnHoldOff => { ps with attnHoldOff := x }
  | .scrubStep => { ps with scrubStep := x }

/-- The parameters after a value is stored (R154 step 5, R156). -/
def written (ps : Params) (r : Payload) : Param → Params
  | .recipients => { ps with recipients := recSet r 8 }
  | .attnMask => { ps with attnMask := recByte r 8 }
  | p => withNumber ps (p.stored (recLong r 8).toNat) p

theorem store_refused {ps : Params} {p : Param} {r : Payload} (h : refusesValue ps (recLong r 8).toNat p) : ps.store p r = none := by
  cases p with
  | limit c => exact if_pos h
  | timingLink =>
    have high : 32 < (recLong r 8).toNat := h
    exact (dif_neg (by omega)).trans (if_neg (by omega))
  | xoff c | xon c | markLow c | markHigh c =>
    rw [refusesValue, stored_eq_clamp] at h
    exact if_pos h
  | _ => exact h.elim

/-- What is written where the value is not refused, with the clamp as the model spells it. -/
theorem store_number {ps : Params} {p : Param} {r : Payload} (number : p.isSet = false) (h : ¬ refusesValue ps (recLong r 8).toNat p) :
    ps.store p r = some (withNumber ps (clamp p.range.1 p.range.2 (recLong r 8).toNat) p) := by
  cases p with
  | limit c => exact if_neg h
  | xoff c | xon c | markLow c | markHigh c =>
    rw [refusesValue, stored_eq_clamp] at h
    exact if_neg h
  | timingLink =>
    have low : (recLong r 8).toNat ≤ 32 := not_lt.1 h
    have kept : clamp 0 32 (recLong r 8).toNat = (recLong r 8).toNat := by
      unfold clamp
      omega
    simp only [Params.store, withNumber, Param.range, kept]
    split
    · rfl
    · rw [if_pos (by omega)]
  | weight k => cases k <;> rfl
  | recipients | attnMask => cases number
  | _ => rfl

theorem written_number (ps : Params) (r : Payload) {p : Param} (number : p.isSet = false) :
    written ps r p = withNumber ps (p.stored (recLong r 8).toNat) p := by
  cases p with
  | recipients | attnMask => cases number
  | _ => rfl

theorem store_accepted {ps : Params} {p : Param} {r : Payload} (h : ¬ refusesValue ps (recLong r 8).toNat p) :
    ps.store p r = some (written ps r p) := by
  cases number : p.isSet with
  | false => rw [store_number number h, written_number ps r number, stored_eq_clamp]
  | true =>
    cases p with
    | recipients | attnMask => rfl
    | _ => cases number

/-! ### What a write changes and what it keeps -/

theorem withNumber_number (ps : Params) (x : Nat) {p : Param} (number : p.isSet = false) (fits : p = .timingLink → x ≤ 32) :
    (withNumber ps x p).number p = some x := by
  cases p with
  | limit c | floor c | xoff c | xon c | markLow c | markHigh c | gap c => exact congrArg some (slot_setSlot_same _ _ _)
  | weight k => cases k <;> rfl
  | timingLink =>
    have fits := fits rfl
    by_cases linked : x < 32
    · simp [Params.number, withNumber, linked]
    · simp [Params.number, withNumber, linked]
      omega
  | recipients | attnMask => cases number
  | _ => rfl

/-- A place of a vector keeps its number where another place is written. -/
theorem number_setSlot_ne {α : Type} {n : Nat} {v : Vector α n} {i j : Fin n} {x : α} {named : Fin n → Param} (h : named j ≠ named i) :
    some (slot (setSlot v i x) j) = some (slot v j) :=
  congrArg some (slot_setSlot_ne v i j x fun e => h (congrArg named e.symm))

theorem withNumber_weight (ps : Params) (x : Nat) {p : Param} {k : WrrClass} (ne : .weight k ≠ p) :
    (withNumber ps x p).number (.weight k) = ps.number (.weight k) := by
  cases p with
  | weight j => cases k <;> cases j <;> simp [Params.number, withNumber] at ne ⊢
  | _ => cases k <;> rfl

theorem withNumber_other (ps : Params) (x : Nat) {p other : Param} (ne : other ≠ p) : (withNumber ps x p).number other = ps.number other := by
  cases other with
  | weight k => exact withNumber_weight ps x ne
  | limit k =>
    cases p with
    | limit c => exact number_setSlot_ne ne
    | _ => rfl
  | floor k =>
    cases p with
    | floor c => exact number_setSlot_ne ne
    | _ => rfl
  | xoff k =>
    cases p with
    | xoff c => exact number_setSlot_ne ne
    | _ => rfl
  | xon k =>
    cases p with
    | xon c => exact number_setSlot_ne ne
    | _ => rfl
  | markLow k =>
    cases p with
    | markLow c => exact number_setSlot_ne ne
    | _ => rfl
  | markHigh k =>
    cases p with
    | markHigh c => exact number_setSlot_ne ne
    | _ => rfl
  | gap k =>
    cases p with
    | gap c => exact number_setSlot_ne ne
    | _ => rfl
  | _ => cases p <;> simp [Params.number, withNumber] at ne ⊢

theorem stored_timingLink_le (v : Nat) : (Param.timingLink).stored v ≤ 32 := by
  rw [stored_eq_clamp]
  exact (clamp_range v).2

theorem written_number_same (ps : Params) (r : Payload) {p : Param} (number : p.isSet = false) :
    (written ps r p).number p = some (p.stored (recLong r 8).toNat) := by
  rw [written_number ps r number]
  exact withNumber_number ps _ number fun link => link ▸ stored_timingLink_le _

theorem written_number_other (ps : Params) (r : Payload) {p other : Param} (ne : other ≠ p) : (written ps r p).number other = ps.number other := by
  cases number : p.isSet with
  | false => rw [written_number ps r number, withNumber_other ps _ ne]
  | true =>
    cases p with
    | recipients | attnMask => cases other <;> rfl
    | _ => cases number

theorem written_recipients_other (ps : Params) (r : Payload) {p : Param} (ne : p ≠ .recipients) : (written ps r p).recipients = ps.recipients := by
  cases p with
  | recipients => exact absurd rfl ne
  | _ => rfl
theorem written_attnMask_other (ps : Params) (r : Payload) {p : Param} (ne : p ≠ .attnMask) : (written ps r p).attnMask = ps.attnMask := by
  cases p with
  | attnMask => exact absurd rfl ne
  | _ => rfl

/-! ### The action tied to a write (R69, R170) -/

theorem scrubTimerAfterWrite_eq (timer : Timer) (value : Nat) :
    scrubTimerAfterWrite timer value = if value = 0 then .idle else if timer = .idle then .running value else timer := by
  unfold scrubTimerAfterWrite
  cases timer <;> simp

theorem afterWrite_scrub_other (s : State) {p : Param} (other : p ≠ .scrubStep) : (s.afterWrite p).scrub = s.scrub := by
  cases p with
  | scrubStep => exact absurd rfl other
  | _ => rfl

theorem afterWrite_requeued (s : State) (q : List Carried) (p : Param) : (requeued s q).afterWrite p = requeued (s.afterWrite p) q := by
  cases p <;> rfl

/-- A write reaches the parameters, the pool and the scrubber only. -/
theorem afterWrite_touches (s : State) (p : Param) :
    s.afterWrite p = { s with pool := (s.afterWrite p).pool, scrub := (s.afterWrite p).scrub } := by
  cases p <;> rfl

/-! ### Set Parameter (R154) -/

theorem answerSetParameter_unnamed {r : Payload} (s : State) (h : paramOf (recByte r 4) (recByte r 5) = none) :
    answerSetParameter r s = (⟨.badRange, parameterEcho r ++ [s.freeByte 8, s.freeByte 9, s.freeByte 10, s.freeByte 11]⟩, s) := by
  unfold answerSetParameter
  rw [h]
theorem answerSetParameter_refused {r : Payload} (s : State) {p : Param} (h : paramOf (recByte r 4) (recByte r 5) = some p)
    (refused : refusesValue s.params (recLong r 8).toNat p) :
    answerSetParameter r s = (⟨.badRange, parameterEcho r ++ s.params.valueBytes p⟩, s) := by
  simp only [answerSetParameter, h, store_refused refused]
theorem answerSetParameter_stored {r : Payload} (s : State) {p : Param} (h : paramOf (recByte r 4) (recByte r 5) = some p)
    (accepted : ¬ refusesValue s.params (recLong r 8).toNat p) :
    answerSetParameter r s = (⟨.done, parameterEcho r ++ (written s.params r p).valueBytes p⟩,
      ({ s with params := written s.params r p }).afterWrite p) := by
  simp only [answerSetParameter, h, store_accepted accepted]

/-- R154, R69, R170: the state that a stored value leaves. -/
def stores (s : State) (r : Payload) (p : Param) : State := ({ s with params := written s.params r p }).afterWrite p

theorem stores_params (s : State) (r : Payload) (p : Param) : (stores s r p).params = written s.params r p := afterWrite_params _ p

theorem stores_poolLow (s : State) (r : Payload) :
    (stores s r .poolLow).pool = { s.pool with latch := decide (s.pool.free.length < Param.poolLow.stored (recLong r 8).toNat) } := rfl

theorem stores_scrubStep (s : State) (r : Payload) : (stores s r .scrubStep).scrub = { s.scrub with
    timer := if Param.scrubStep.stored (recLong r 8).toNat = 0 then .idle
      else if s.scrub.timer = .idle then .running (Param.scrubStep.stored (recLong r 8).toNat) else s.scrub.timer } := by
  rw [← scrubTimerAfterWrite_eq]
  rfl

/-- R154, R187: a Set Parameter response that carries a parameter's value in force. -/
theorem setParameter_valueAt (ps : Params) (p : Param) {r : Payload} (kind : recByte r 0 = 0x40) (res : Byte) :
    ps.valueAt (replyBytes r res (parameterEcho r ++ ps.valueBytes p)) p :=
  valueAt_of _ _ _ (paramReply r res _ (valueBytes_len _ _) kind).2

/-- R154: Set Parameter in the order of its refusals. -/
theorem setParameter_answers {s : State} {l : Link} {r : Payload} {rest : List Carried} (h : s.hasRequest l r rest) (kind : recByte r 0 = 0x40) :
    (paramOf (recByte r 4) (recByte r 5) = none →
      ∃ free, s.answers .setParameter s l rest (replyBytes r 3 (parameterEcho r ++ free)) ∧ free.length = 4) ∧
    ∀ p, paramOf (recByte r 4) (recByte r 5) = some p →
      (refusesValue s.params (recLong r 8).toNat p →
        s.answers .setParameter s l rest (replyBytes r 3 (parameterEcho r ++ s.params.valueBytes p))) ∧
      (¬ refusesValue s.params (recLong r 8).toNat p →
        s.answers .setParameter (stores s r p) l rest (replyBytes r 0 (parameterEcho r ++ (written s.params r p).valueBytes p))) := by
  have row := requestRow_setParameter kind
  refine ⟨fun unnamed => ?_, fun p named => ⟨fun refused => ?_, fun accepted => ?_⟩⟩
  · exact ⟨_, answers_of (exec_answered rfl _ s h row (answerSetParameter_unnamed (requeued s rest) unnamed) rfl rfl), rfl⟩
  · exact answers_of (exec_answered rfl _ s h row (answerSetParameter_refused (requeued s rest) named refused) rfl rfl)
  · exact answers_done rfl h row ((answerSetParameter_stored (requeued s rest) named accepted).trans
      (congrArg _ (afterWrite_requeued { s with params := written s.params r p } rest p)))

/-! ### The parameter named (R188) -/

theorem paramOf_undefined {id : Byte} (index : Byte) (h : 0x18 < id.toNat ∨ id = 0) : paramOf id index = none := by
  have outside : 0x18 < id.toNat ∨ id.toNat = 0 := h.imp_right fun zero => by rw [zero]; rfl
  unfold paramOf
  split
  case h_25 => rfl
  all_goals omega

theorem paramOf_class (index : Byte) (c : Sys2Proof.Class) (h : index.toNat = c.val) :
    [paramOf 0x01 index, paramOf 0x02 index, paramOf 0x03 index, paramOf 0x04 index, paramOf 0x05 index, paramOf 0x06 index] =
      [some (.limit c), some (.floor c), some (.xoff c), some (.xon c), some (.markLow c), some (.markHigh c)] := by
  simp [paramOf, classOf_eq index c h]

theorem paramOf_noClass {id index : Byte} (low : 1 ≤ id.toNat) (high : id.toNat ≤ 6) (h : 3 < index.toNat) : paramOf id index = none := by
  have unnamed := classOf_none index h
  unfold paramOf
  interval_cases id.toNat <;> simp [unnamed]

theorem paramOf_noWeight {index : Byte} (h : index = 0 ∨ 3 < index.toNat) : paramOf 0x0A index = none := by
  have unnamed : ∀ k : Byte, 1 ≤ k.toNat → k.toNat ≤ 3 → index ≠ k := by
    rintro k low high rfl
    obtain rfl | h := h
    · simp at low
    · omega
  have unweighted : wrrOf index = none := by
    rw [wrrOf, if_neg (unnamed 1 (by decide) (by decide)), if_neg (unnamed 2 (by decide) (by decide)), if_neg (unnamed 3 (by decide) (by decide))]
  exact congrArg (Option.map Param.weight) unweighted

theorem paramOf_gap {index : Byte} {k : Link} (h : index.toNat = k.val) : paramOf 0x0B index = some (.gap k) := by
  simp [paramOf, linkOf_eq index k h]
theorem paramOf_noGap {index : Byte} (h : 31 < index.toNat) : paramOf 0x0B index = none := by
  simp [paramOf, linkOf_none index h]

/-- R188: a parameter without an index is named with FFh there and with nothing else. -/
theorem plainParam_named (p : Param) : plainParam 0xFF p = some p ∧ ∀ index : Byte, index ≠ 0xFF → plainParam index p = none :=
  ⟨if_pos rfl, fun _ other => if_neg other⟩

theorem paramOf_plain : ∀ e ∈ [((0x07 : Byte), Param.m), (0x08, .w), (0x09, .monitorStep), (0x0C, .keepalive), (0x0D, .budgetThreshold),
      (0x0E, .holdOff), (0x0F, .retrainLimit), (0x10, .epochPeriod), (0x11, .timingLink), (0x12, .flowstHoldOff), (0x13, .refresh),
      (0x14, .recipients), (0x15, .poolLow), (0x16, .attnMask), (0x17, .attnHoldOff), (0x18, .scrubStep)],
    paramOf e.1 0xFF = some e.2 ∧ ∀ index : Byte, index ≠ 0xFF → paramOf e.1 index = none := by
  intro e listed
  fin_cases listed
  all_goals exact plainParam_named _

/-- Settles O60: the request by the order of its refusals, and the naming by the table of R188. -/
theorem setParameterClampsTestsAndStores : Obligations.SetParameterClampsTestsAndStores := by
  refine ⟨fun s l r rest p h kind => ?_, fun index c => paramOf_class index c, fun id index => paramOf_undefined index,
    fun id index => paramOf_noClass, ⟨rfl, rfl, rfl⟩, fun index => paramOf_noWeight, fun index k => paramOf_gap,
    fun index => paramOf_noGap, paramOf_plain⟩
  intro v stored refused echoed
  obtain ⟨unnamedAnswer, namedAnswer⟩ := setParameter_answers h kind
  have echo (res : Byte) (value : List Byte) (four : value.length = 4) : echoed (replyBytes r res (parameterEcho r ++ value)) res :=
    (paramReply r res value four kind).1
  refine ⟨fun unnamed => ?_, fun named => ⟨fun bad => ?_, fun good => ?_⟩⟩
  · obtain ⟨free, answer, four⟩ := unnamedAnswer unnamed
    exact ⟨_, answer, echo 3 free four⟩
  · exact ⟨_, (namedAnswer p named).1 ((refusesValue_iff _ _ _).2 bad), echo 3 _ (valueBytes_len _ _), setParameter_valueAt _ _ kind 3⟩
  · have params := stores_params s r p
    refine ⟨_, stores s r p, (namedAnswer p named).2 fun bad => good ((refusesValue_iff _ _ _).1 bad), echo 0 _ (valueBytes_len _ _), ?_⟩
    rw [params]
    refine ⟨setParameter_valueAt _ _ kind 0, fun n number value => ?_, fun number => ?_, ?_, ?_, fun other => written_number_other _ r,
      written_recipients_other _ r, written_attnMask_other _ r, ?_, fun other => afterWrite_pool _ other, ?_,
      fun other => afterWrite_scrub_other _ other, ?_⟩
    · rw [written_number_same _ r number] at value
      exact (Option.some.inj value).symm
    · rw [written_number_same _ r number]
      rfl
    · rintro rfl k
      exact recSet_has r 8 k
    · rintro rfl
      rfl
    · rintro rfl
      exact stores_poolLow s r
    · rintro rfl
      exact stores_scrubStep s r
    · exact afterWrite_touches { s with params := written s.params r p } p

end Sys2Proof.Parameters
end

section
/-! PROOFS. Set Management Links, requests of no defined kind, and what every execution of a request can do: it serves the request, or it refuses it
and changes nothing (R135 to R138, R142). -/

namespace Sys2Proof.ManagementAgent

open Sys2Proof.Machine Sys2Proof.Laws Sys2Proof.LinkPorts Sys2Proof.Reports Sys2Proof.Parameters

/-! ### Set Management Links and undefined kinds (R135, R137) -/

theorem requestRow_setManagementLinks {r : Payload} (h : recByte r 0 = 0x31) : requestRow r = .setManagementLinks := by
  unfold requestRow
  rw [h]
  rfl
theorem requestRow_undefined {r : Payload} (h : (recByte r 0).toNat ∉ [0x01, 0x02, 0x03, 0x04, 0x05, 0x06, 0x10, 0x11, 0x12, 0x13, 0x14, 0x15, 0x20,
    0x21, 0x30, 0x31, 0x32, 0x33, 0x34, 0x40, 0x41]) : requestRow r = .undefinedRequest := by
  simp only [List.mem_cons, List.not_mem_nil, or_false] at h
  unfold requestRow
  split
  case h_22 => rfl
  all_goals omega
theorem kind_of_setParameter {r : Payload} (h : requestRow r = .setParameter) : recByte r 0 = 0x40 := by
  unfold requestRow at h
  split at h
  case h_20 kind => exact BitVec.eq_of_toNat_eq kind
  case h_15 =>
    obtain ⟨-, e⟩ | ⟨-, e⟩ | ⟨-, e⟩ | e := linkControlRow_cases (recByte r 5)
    all_goals
      rw [e] at h
      cases h
  all_goals cases h

/-- A link set in a record is empty when its four bytes are 0. -/
theorem recSet_eq_zero_iff (r : Payload) (n : Nat) : recSet r n = 0 ↔ ∀ j, j < 4 → recByte r (n + j) = 0 := by
  constructor
  · intro empty j hj
    refine BitVec.eq_of_getLsbD_eq fun i hi => ?_
    have bit := recSet_has r n ⟨8 * j + i, by omega⟩
    rw [empty, show (8 * j + i) / 8 = j by omega, show (8 * j + i) % 8 = i by omega] at bit
    rw [← bit]
    simp [LinkSet.has]
  · intro bytes
    unfold recSet
    rw [bytes 3 (by omega), bytes 2 (by omega), bytes 1 (by omega), show recByte r n = 0 from bytes 0 (by omega)]
    rfl

/-- Settles O58: the set is judged by its four bytes, and no other kind names a row. -/
theorem managementLinksAndUnknownKinds : Obligations.ManagementLinksAndUnknownKinds := by
  intro s l r rest h
  refine ⟨fun kind => ⟨fun empty => ?_, fun n low high member => ?_⟩, fun undefined => ?_⟩
  · refine answers_refused rfl .badRange h (requestRow_setManagementLinks kind) (if_pos ?_) rfl
    exact (recSet_eq_zero_iff r 16).2 fun j hj => empty _ (by omega) (by omega)
  · have given : recSet r 16 ≠ 0 := fun empty => by
      have zero := (recSet_eq_zero_iff r 16).1 empty (n - 16) (by omega)
      rw [Nat.add_sub_cancel' low] at zero
      exact member zero
    exact ⟨recSet r 16, answers_done rfl h (requestRow_setManagementLinks kind) (if_neg given), fun k => recSet_has r 16 k⟩
  · exact answers_refused rfl .unknown h (requestRow_undefined undefined) rfl rfl

/-! ### What an execution can do -/

/-- The execution of the requests of a row. -/
def execution : RequestRow → Payload → State → Answer × State
  | .readIdentity => answerReadIdentity
  | .readStatus => answerReadStatus
  | .readQueueSnapshot => answerReadQueueSnapshot
  | .readCounters => answerReadCounters
  | .readAttention => answerReadAttention
  | .readMissRecord => answerReadMissRecord
  | .readEntries => answerReadEntries
  | .writeEntries => answerWriteEntries
  | .repairEntry => answerRepairEntry
  | .fillEntries => answerFillEntries
  | .copyBank => answerCopyBank
  | .digestBank => answerDigestBank
  | .startMemoryTest => answerStartMemoryTest
  | .enable => answerEnable
  | .disable => answerDisable
  | .flush => answerFlush
  | .retrain => answerRetrain
  | .scheduleSwap => answerScheduleSwap
  | .cancelSwap => answerCancelSwap
  | .datapathReset => answerDatapathReset
  | .sendFlowStatusNow => answerSendFlowStatusNow
  | .setManagementLinks => answerSetManagementLinks
  | .setParameter => answerSetParameter
  | .readParameter => answerReadParameter
  | .undefinedRequest => answerUndefined

theorem exec_serves {i : Instr} {row : RequestRow} (s : State) (h : i.serves = some row) : exec i s = .next (s.serve row (execution row)) := by
  cases i <;> cases h <;> rfl

/-- R142: what an execution on `s` gives: the request is DONE or ACCEPTED and the request queue is as it was, or it is refused, with no data, and
nothing changes. -/
inductive Verdict (s : State) : Answer × State → Prop
  | served {a : Answer} {t : State} (good : a.result.byte.toNat ≤ 1) (queue : t.agent.queue = s.agent.queue) : Verdict s (a, t)
  | refused (c : ResultCode) : Verdict s (.refuse c, s)

theorem Verdict.done {s t : State} {data : List Byte} (queue : t.agent.queue = s.agent.queue) : Verdict s (⟨.done, data⟩, t) :=
  .served (Nat.zero_le 1) queue

theorem startOp_verdict {s t : State} (progress : Nat) (w : Work) (queue : t.agent.queue = s.agent.queue) : Verdict s (startOp t progress w) :=
  .served (le_refl 1) queue

theorem linkControlDone_verdict {s t : State} (k : Link) (queue : t.agent.queue = s.agent.queue) : Verdict s (linkControlDone k t) := .done queue

theorem swapDone_verdict {s t : State} (queue : t.agent.queue = s.agent.queue) : Verdict s (swapDone t) := .done queue

/-! ### Requests that report -/

theorem answerReadStatus_verdict (r : Payload) (s : State) : Verdict s (answerReadStatus r s) := by
  unfold answerReadStatus
  split
  · exact .refused _
  · exact .done rfl
theorem answerReadQueueSnapshot_verdict (r : Payload) (s : State) : Verdict s (answerReadQueueSnapshot r s) := by
  unfold answerReadQueueSnapshot
  split
  · exact .refused _
  · exact .done rfl
theorem answerReadCounters_verdict (r : Payload) (s : State) : Verdict s (answerReadCounters r s) := by
  have cleared {t : State} (h : t.agent.queue = s.agent.queue) : (if recClear r = true then t else s).agent.queue = s.agent.queue := by
    split
    · exact h
    · rfl
  unfold answerReadCounters
  split
  · split
    · exact .refused _
    · exact .done (cleared rfl)
  · split
    · exact .done (cleared rfl)
    · exact .refused _
  · exact .done (cleared rfl)
  · exact .refused _
theorem answerReadParameter_verdict (r : Payload) (s : State) : Verdict s (answerReadParameter r s) := by
  unfold answerReadParameter
  split
  · exact .refused _
  · exact .done rfl

/-! ### Requests on the tables and long requests -/

theorem answerReadEntries_verdict (r : Payload) (s : State) : Verdict s (answerReadEntries r s) := by
  unfold answerReadEntries
  split
  · dsimp only
    split_ifs
    · exact .refused _
    · exact .refused _
    · exact .done rfl
  · exact .refused _
theorem answerWriteEntries_verdict (r : Payload) (s : State) : Verdict s (answerWriteEntries r s) := by
  unfold answerWriteEntries
  split
  · exact .refused _
  · dsimp only
    split_ifs
    · exact .refused _
    · exact .refused _
    · exact .refused _
    · exact .refused _
    · exact .done (congrArg Agent.queue (writeRange_agent ..))
theorem answerRepairEntry_verdict (r : Payload) (s : State) : Verdict s (answerRepairEntry r s) := by
  unfold answerRepairEntry
  split
  · exact .refused _
  · dsimp only
    split_ifs
    · exact .refused _
    · exact .refused _
    · exact .refused _
    · exact .done (congrArg Agent.queue (repair_agent ..))
theorem answerFillEntries_verdict (r : Payload) (s : State) : Verdict s (answerFillEntries r s) := by
  unfold answerFillEntries
  split
  · exact .refused _
  · dsimp only
    split_ifs
    · exact .refused _
    · exact .refused _
    · exact .refused _
    · exact startOp_verdict _ _ rfl
theorem answerCopyBank_verdict (r : Payload) (s : State) : Verdict s (answerCopyBank r s) := by
  unfold answerCopyBank
  split_ifs
  · exact .refused _
  · exact .refused _
  · exact startOp_verdict _ _ rfl
theorem answerDigestBank_verdict (r : Payload) (s : State) : Verdict s (answerDigestBank r s) := by
  unfold answerDigestBank
  split
  · split_ifs
    · exact .refused _
    · exact startOp_verdict _ _ rfl
  · exact .refused _
theorem answerStartMemoryTest_verdict (r : Payload) (s : State) : Verdict s (answerStartMemoryTest r s) := by
  unfold answerStartMemoryTest
  split_ifs
  · exact .refused _
  · exact .refused _
  · exact startOp_verdict _ _ rfl

/-! ### Requests that control the device -/

theorem disableLink_requests (s : State) (k : Link) : (s.disableLink k).agent.queue = s.agent.queue := by
  have entered : (s.enterDisabled k).agent.queue = s.agent.queue := by
    rw [enterDisabled_eq, linkChange_agent]
    rfl
  unfold State.disableLink
  split
  · rfl
  · exact entered
  · exact entered
  · split
    · rfl
    · exact entered
theorem retrainLink_requests (s : State) (k : Link) : (s.retrainLink k).agent.queue = s.agent.queue := by
  obtain ⟨-, -, -, -, -, -, -, -, -, -, -, -, queue, -⟩ := retrainLink_kept s k
  exact queue

theorem answerEnable_verdict (r : Payload) (s : State) : Verdict s (answerEnable r s) := by
  unfold answerEnable
  split
  · exact .refused _
  · split_ifs
    · exact .refused _
    · exact .refused _
    · exact linkControlDone_verdict _ (congrArg Agent.queue (enableLink_agent ..))
theorem answerDisable_verdict (r : Payload) (s : State) : Verdict s (answerDisable r s) := by
  unfold answerDisable
  split
  · exact .refused _
  · exact linkControlDone_verdict _ (disableLink_requests ..)
theorem answerFlush_verdict (r : Payload) (s : State) : Verdict s (answerFlush r s) := by
  unfold answerFlush
  split
  · exact .refused _
  · exact linkControlDone_verdict _ (congrArg Agent.queue (flushQueues_agent ..))
theorem answerRetrain_verdict (r : Payload) (s : State) : Verdict s (answerRetrain r s) := by
  unfold answerRetrain
  split
  · exact .refused _
  · split_ifs
    · exact .refused _
    · exact linkControlDone_verdict _ (retrainLink_requests ..)
theorem answerScheduleSwap_verdict (r : Payload) (s : State) : Verdict s (answerScheduleSwap r s) := by
  unfold answerScheduleSwap
  dsimp only
  split_ifs
  · exact .refused _
  · exact .refused _
  · exact .refused _
  · exact swapDone_verdict rfl
theorem answerCancelSwap_verdict (r : Payload) (s : State) : Verdict s (answerCancelSwap r s) := by
  unfold answerCancelSwap
  split_ifs
  · exact swapDone_verdict rfl
  · exact .refused _
theorem answerSetManagementLinks_verdict (r : Payload) (s : State) : Verdict s (answerSetManagementLinks r s) := by
  unfold answerSetManagementLinks
  split_ifs
  · exact .refused _
  · exact .done rfl

/-- R142: every execution but that of Set Parameter, whose refusals carry data. -/
theorem execution_verdict {row : RequestRow} (r : Payload) (s : State) (h : row ≠ .setParameter) : Verdict s (execution row r s) := by
  cases row with
  | readIdentity | readAttention | readMissRecord => exact .done rfl
  | readStatus => exact answerReadStatus_verdict r s
  | readQueueSnapshot => exact answerReadQueueSnapshot_verdict r s
  | readCounters => exact answerReadCounters_verdict r s
  | readEntries => exact answerReadEntries_verdict r s
  | writeEntries => exact answerWriteEntries_verdict r s
  | repairEntry => exact answerRepairEntry_verdict r s
  | fillEntries => exact answerFillEntries_verdict r s
  | copyBank => exact answerCopyBank_verdict r s
  | digestBank => exact answerDigestBank_verdict r s
  | startMemoryTest => exact answerStartMemoryTest_verdict r s
  | enable => exact answerEnable_verdict r s
  | disable => exact answerDisable_verdict r s
  | flush => exact answerFlush_verdict r s
  | retrain => exact answerRetrain_verdict r s
  | scheduleSwap => exact answerScheduleSwap_verdict r s
  | cancelSwap => exact answerCancelSwap_verdict r s
  | datapathReset => exact .done (congrArg Agent.queue (resetDatapath_agent s))
  | sendFlowStatusNow => exact .done (congrArg Agent.queue (oweFlowst_agent s))
  | setManagementLinks => exact answerSetManagementLinks_verdict r s
  | setParameter => exact absurd rfl h
  | readParameter => exact answerReadParameter_verdict r s
  | undefinedRequest => exact .refused .unknown

/-! ### Every request (R136, R138, R142) -/

/-- R136, R138, R142: the request is answered, by a response that echoes it, and a refusal changes nothing. -/
def Answered (i : Instr) (s : State) (l : Link) (record : Payload) (rest : List Carried) : Prop :=
  ∃ (u : State) (reply : Payload), s.answers i u l rest reply ∧
    recByte reply 0 = recByte record 0 ∧ recWord reply 2 = recWord record 2 ∧ (recByte reply 1).toNat ≤ 5 ∧
    (2 ≤ (recByte reply 1).toNat → u = s ∧ (recByte record 0 ≠ 0x40 → ∀ n, 4 ≤ n → recByte reply n = 0))

theorem answered_of {i : Instr} {s u : State} {l : Link} {record : Payload} {rest : List Carried} {res : Byte} {data : List Byte}
    (answer : s.answers i u l rest (replyBytes record res data)) (code : res.toNat ≤ 5)
    (refusal : 2 ≤ res.toNat → u = s ∧ (recByte record 0 ≠ 0x40 → data = [])) : Answered i s l record rest := by
  refine ⟨u, _, answer, recByte_reply_kind .., recWord_reply_tag .., ?_⟩
  rw [recByte_reply_result]
  refine ⟨code, fun refused => ?_⟩
  obtain ⟨same, noData⟩ := refusal refused
  refine ⟨same, fun other n hn => recByte_reply_beyond _ _ _ n ?_⟩
  rw [noData other]
  exact hn

theorem result_byte_le (c : ResultCode) : c.byte.toNat ≤ 5 := by cases c <;> decide

theorem answered_of_verdict {i : Instr} {s : State} {l : Link} {record : Payload} {rest : List Carried} {row : RequestRow}
    {execute : Payload → State → Answer × State} (hi : exec i s = .next (s.serve row execute)) (h : s.hasRequest l record rest)
    (hr : requestRow record = row) (verdict : Verdict (requeued s rest) (execute record (requeued s rest))) : Answered i s l record rest := by
  generalize ha : execute record (requeued s rest) = result at verdict
  cases verdict with
  | served good queue =>
    exact answered_of (answers_requeued hi h hr ha queue rfl rfl) (result_byte_le _) fun refused => by omega
  | refused c => exact answered_of (answers_refused hi c h hr ha rfl) (result_byte_le c) fun _ => ⟨rfl, fun _ => rfl⟩

theorem answered_setParameter {s : State} {l : Link} {record : Payload} {rest : List Carried} (h : s.hasRequest l record rest)
    (kind : recByte record 0 = 0x40) : Answered .setParameter s l record rest := by
  obtain ⟨unnamedAnswer, namedAnswer⟩ := setParameter_answers h kind
  cases named : paramOf (recByte record 4) (recByte record 5) with
  | none =>
    obtain ⟨free, answer, -⟩ := unnamedAnswer named
    exact answered_of answer (by decide) fun _ => ⟨rfl, fun other => absurd kind other⟩
  | some p =>
    obtain ⟨refused, accepted⟩ := namedAnswer p named
    by_cases bad : refusesValue s.params (recLong record 8).toNat p
    · exact answered_of (refused bad) (by decide) fun _ => ⟨rfl, fun other => absurd kind other⟩
    · exact answered_of (accepted bad) (by decide) fun high => absurd high (by decide)

/-- Settles O45: by the verdict of the execution, and for Set Parameter by the order of its refusals. -/
theorem requestsAreAnsweredOnTheirLink : Obligations.RequestsAreAnsweredOnTheirLink := by
  intro i s l record rest hi h
  have served := exec_serves s hi
  by_cases set : requestRow record = .setParameter
  · rw [set] at hi
    obtain rfl : i = .setParameter := by cases i <;> cases hi; rfl
    exact answered_setParameter h (kind_of_setParameter set)
  · exact answered_of_verdict served h rfl (execution_verdict record _ set)

end Sys2Proof.ManagementAgent
end

section
/-! PROOFS. Raises of the attention flags (R177, R178). -/

namespace Sys2Proof.AttentionFlags

open Sys2Proof.Machine Sys2Proof.Laws

/-- R177: a masked raise sets its flag and does no more. -/
theorem raise_masked {s : State} {f : AttnFlag} (masked : FlagSet.has s.params.attnMask f = true) : s.raise f = s.setFlag f := if_pos masked

/-- R178: an unmasked raise at which the hold-off timer is IDLE starts a round and the timer. -/
theorem raise_idle {s : State} {f : AttnFlag} (unmasked : FlagSet.has s.params.attnMask f = false) (idle : s.attn.timer = .idle) :
    s.raise f =
      { (s.setFlag f).pendAttention with attn := { (s.setFlag f).attn with timer := .running s.params.attnHoldOff } } := by
  have alerts : s.raise f = (s.setFlag f).alertLinks := if_neg (by simp [unmasked])
  have timer : (s.setFlag f).attn.timer = .idle := idle
  rw [alerts, State.alertLinks, timer]
  rfl

/-- R178: an unmasked raise while the hold-off timer runs leaves its mark for the timer's expiry. -/
theorem raise_running {s : State} {f : AttnFlag} (unmasked : FlagSet.has s.params.attnMask f = false) (running : s.attn.timer ≠ .idle) :
    s.raise f = { s.setFlag f with attn := { (s.setFlag f).attn with raisedWhileRunning := true } } := by
  have alerts : s.raise f = (s.setFlag f).alertLinks := if_neg (by simp [unmasked])
  obtain ⟨period, timer⟩ : ∃ period, (s.setFlag f).attn.timer = .running period := by
    cases timer : s.attn.timer with
    | idle => exact absurd timer running
    | running period => exact ⟨period, timer⟩
  rw [alerts, State.alertLinks, timer]

theorem raise_restKept (s : State) (f : AttnFlag) : s.restKept (s.raise f) := by
  unfold State.restKept
  simp

/-- Settles O29: by the mask and the hold-off timer, the three raises there are. -/
theorem raisesAlertPermittedLinks : Obligations.RaisesAlertPermittedLinks := by
  intro s f
  refine ⟨raise_flags s f, raise_attn_links s f, ⟨raise_attn_miss s f, raise_attn_lastCorrupt s f⟩, fun masked => ?_, fun unmasked idle => ?_,
    fun unmasked running => ?_, raise_queues s f, raise_pool s f, raise_tables s f, raise_flow s f, raise_globals s f, raise_agent s f,
    raise_restKept s f⟩
  · rw [raise_masked masked]
    exact ⟨rfl, rfl, rfl⟩
  · rw [raise_idle unmasked idle]
    exact ⟨rfl, rfl, Congestion.pendAttention_pends (s.setFlag f)⟩
  · rw [raise_running unmasked running]
    exact ⟨rfl, rfl, rfl⟩

end Sys2Proof.AttentionFlags
end

section
/-! PROOFS. The counters (R174): what each event counts, and that no counter falls or passes its maximum but at Read Counters and a reset. -/

namespace Sys2Proof.Counters

open Sys2Proof.Machine Sys2Proof.Laws Sys2Proof.LinkPorts Sys2Proof.ForwardingTables

/-! ### Counters that climb -/

/-- A counter within its range goes from `n` to `m` without falling and without leaving the range (R174). -/
def Climbs (n m : Nat) : Prop := n ≤ 4294967295 → n ≤ m ∧ m ≤ 4294967295

@[simp] theorem climbs_refl (n : Nat) : Climbs n n := fun bound => ⟨le_rfl, bound⟩
theorem Climbs.trans {n m k : Nat} (h : Climbs n m) (h' : Climbs m k) : Climbs n k := fun bound =>
  have ⟨up, inside⟩ := h bound
  have ⟨up', inside'⟩ := h' inside
  ⟨up.trans up', inside'⟩

/-- An increment saturates at the maximum of the range. -/
@[simp] theorem climbs_bump (n k : Nat) : Climbs n (bump n k) := fun bound =>
  ⟨le_min (Nat.le_add_right n k) bound, min_le_right _ _⟩

/-- Each counter of a group climbs. -/
abbrev GroupClimbs : List Nat → List Nat → Prop := List.Forall₂ Climbs

theorem GroupClimbs.refl (ns : List Nat) : GroupClimbs ns ns := List.forall₂_same.2 fun n _ => climbs_refl n
theorem GroupClimbs.of_eq {ns ms : List Nat} (h : ms = ns) : GroupClimbs ns ms := h ▸ .refl ns
theorem GroupClimbs.trans {ns ms ks : List Nat} (h : GroupClimbs ns ms) (k : GroupClimbs ms ks) : GroupClimbs ns ks := by
  induction h generalizing ks with
  | nil => exact k
  | cons head _ ih =>
    cases k with
    | cons head' tail' => exact .cons (head.trans head') (ih tail')

theorem GroupClimbs.bounded {ns ms : List Nat} (h : GroupClimbs ns ms) (bound : ∀ n ∈ ns, n ≤ 4294967295) : ∀ m ∈ ms, m ≤ 4294967295 := by
  induction h with
  | nil => exact bound
  | cons head _ ih =>
    rw [List.forall_mem_cons] at bound ⊢
    exact ⟨(head bound.1).2, ih bound.2⟩

theorem GroupClimbs.getD_le {ns ms : List Nat} (h : GroupClimbs ns ms) (bound : ∀ n ∈ ns, n ≤ 4294967295) (k : Nat) :
    ns.getD k 0 ≤ ms.getD k 0 := by
  induction h generalizing k with
  | nil => exact le_rfl
  | cons head _ ih =>
    rw [List.forall_mem_cons] at bound
    cases k with
    | zero => exact (head bound.1).1
    | succ k => exact ih bound.2 k

/-! ### Events at which every counter climbs -/

/-- From `s` to `t` every counter of the device climbs. -/
structure CountersClimb (s t : State) : Prop where
  links : ∀ l, GroupClimbs (s.link l).counters.all (t.link l).counters.all
  queues : ∀ q, GroupClimbs (s.queue q).counters.all (t.queue q).counters.all
  globals : GroupClimbs s.globals.all t.globals.all

theorem CountersClimb.trans {s t u : State} (h : CountersClimb s t) (k : CountersClimb t u) : CountersClimb s u :=
  ⟨fun l => (h.links l).trans (k.links l), fun q => (h.queues q).trans (k.queues q), h.globals.trans k.globals⟩

/-- An event that counts nothing. -/
theorem CountersClimb.of_counters {s t : State} (links : ∀ l, (t.link l).counters = (s.link l).counters) (queues : t.queues = s.queues)
    (globals : t.globals = s.globals) : CountersClimb s t :=
  ⟨fun l => .of_eq (congrArg _ (links l)), fun q => .of_eq (by rw [queue_congr queues]), .of_eq (congrArg _ globals)⟩

/-- An event that leaves links, queues and global counters alone. -/
theorem CountersClimb.of_eq {s t : State} (links : t.links = s.links) (queues : t.queues = s.queues) (globals : t.globals = s.globals) :
    CountersClimb s t :=
  .of_counters (fun l => by rw [link_congr links]) queues globals

theorem CountersClimb.refl (s : State) : CountersClimb s s := .of_eq rfl rfl rfl

/-- An event that counts among the global counters only. -/
theorem CountersClimb.of_globals {s t : State} (globals : GroupClimbs s.globals.all t.globals.all)
    (links : ∀ l, (t.link l).counters = (s.link l).counters) (queues : t.queues = s.queues) : CountersClimb s t :=
  ⟨fun l => .of_eq (congrArg _ (links l)), fun q => .of_eq (by rw [queue_congr queues]), globals⟩

/-- An event after an update of other items. -/
theorem CountersClimb.after {s t u : State} (k : CountersClimb t u) (links : t.links = s.links) (queues : t.queues = s.queues)
    (globals : t.globals = s.globals) : CountersClimb s u :=
  (CountersClimb.of_eq links queues globals).trans k

theorem CountersClimb.ite {s t : State} {c : Prop} [Decidable c] (h : CountersClimb s t) : CountersClimb s (if c then t else s) := by
  split
  · exact h
  · exact .refl s

theorem CountersClimb.bounded {s t : State} (h : CountersClimb s t) (bound : s.countersBounded) : t.countersBounded := by
  obtain ⟨links, queues, globals⟩ := bound
  exact ⟨fun l => (h.links l).bounded (links l), fun q => (h.queues q).bounded (queues q), h.globals.bounded globals⟩

theorem foldl_climbs {α : Type} {f : State → α → State} (step : ∀ u x, CountersClimb u (f u x)) (xs : List α) (s : State) :
    CountersClimb s (xs.foldl f s) := by
  induction xs generalizing s with
  | nil => exact .refl s
  | cons x xs ih => exact (step s x).trans (ih _)

/-! ### Counting -/

theorem modLink_climbs (s : State) (l : Link) (f : LinkPort → LinkPort)
    (h : ∀ p, GroupClimbs p.counters.all (f p).counters.all) : CountersClimb s (s.modLink l f) := by
  refine ⟨fun k => ?_, fun q => .of_eq (by simp), .of_eq (by simp)⟩
  rw [link_modLink]
  split
  · exact h _
  · exact .refl _

/-- An event after an update of a port. -/
theorem CountersClimb.afterPort {s t : State} {l : Link} {f : LinkPort → LinkPort} (k : CountersClimb (s.modLink l f) t)
    (h : ∀ p, GroupClimbs p.counters.all (f p).counters.all) : CountersClimb s t :=
  (modLink_climbs s l f h).trans k

theorem mapLinks_climbs (s : State) (f : Link → LinkPort → LinkPort) (h : ∀ l p, GroupClimbs p.counters.all (f l p).counters.all) :
    CountersClimb s (s.mapLinks f) :=
  ⟨fun l => by rw [link_mapLinks]; exact h l _, fun q => .of_eq (by simp), .of_eq (by simp)⟩

theorem countLink_climbs (s : State) (l : Link) (f : LinkCounters → LinkCounters)
    (h : ∀ c : LinkCounters, GroupClimbs c.all (f c).all) : CountersClimb s (s.countLink l f) :=
  modLink_climbs s l _ fun p => h p.counters

theorem setQueue_climbs (s : State) (q : QueueId) (out : OutQueue) (h : GroupClimbs (s.queue q).counters.all out.counters.all) :
    CountersClimb s (s.setQueue q out) := by
  refine ⟨fun l => .of_eq (by simp), fun k => ?_, .of_eq (by simp)⟩
  rw [queue_setQueue]
  split
  · next e => exact e ▸ h
  · exact .refl _

theorem countGlobal_climbs (s : State) (f : GlobalCounters → GlobalCounters)
    (h : ∀ g : GlobalCounters, GroupClimbs g.all (f g).all) : CountersClimb s (s.countGlobal f) :=
  .of_globals (h s.globals) (fun _ => rfl) rfl

theorem raise_climbs (s : State) (f : AttnFlag) : CountersClimb s (s.raise f) := .of_counters (by simp) (by simp) (by simp)
theorem reportPause_climbs (s : State) : CountersClimb s s.reportPause := .of_counters (by simp) (by simp) (by simp)
theorem oweFlowst_climbs (s : State) : CountersClimb s s.oweFlowst := .of_counters (by simp) (by simp) (by simp)
theorem epochChange_climbs (s : State) : CountersClimb s s.epochChange := .of_counters (by simp) (by simp) (by simp)
theorem release_climbs (s : State) (h : Handle) : CountersClimb s (s.release h) := .of_eq rfl rfl rfl

/-! ### Tables and operations (R30, R158 to R168) -/

theorem verify_climbs (s : State) (t : Table) (b : Bank) (i : Nat) : CountersClimb s (s.verify t b i).2 := by
  have marked : CountersClimb s (s.markCorrupt t b i) := by
    refine .of_globals ?_ (by simp) (by simp)
    rw [markCorrupt_globals]
    simp [GlobalCounters.all]
  unfold State.verify
  dsimp only
  (repeat' split)
  · exact .refl s
  · exact marked
  · exact .refl s

theorem scrubVisit_climbs (s : State) : CountersClimb s s.scrubVisit := by
  unfold State.scrubVisit
  exact (verify_climbs _ _ _ _).after rfl rfl rfl

/-- A step of a long operation counts nothing. -/
theorem stepOp_climbs (s : State) (goesOn : Bool) (progress : Nat) (w : Work) : CountersClimb s (stepOp s goesOn progress w) := by
  unfold stepOp
  split
  · exact .of_eq rfl rfl rfl
  · exact .of_counters (by simp) (by simp) (by simp)

theorem fillStep_climbs (s : State) : CountersClimb s s.fillStep := by
  obtain idle | ⟨n, bank, e, first, last, written, running⟩ := fillStep_cases s
  · rw [idle]
    exact .refl s
  · rw [fillStep_running running]
    exact (stepOp_climbs ..).after (by simp) (by simp) (by simp)
theorem copyStep_climbs (s : State) : CountersClimb s s.copyStep := by
  obtain idle | ⟨n, source, dest, written, asInitial, running⟩ := copyStep_cases s
  · rw [idle]
    exact .refl s
  · rw [copyStep_at running]
    exact (stepOp_climbs ..).after (by simp) (by simp) (by simp)
theorem digestStep_climbs (s : State) : CountersClimb s s.digestStep := by
  obtain idle | ⟨n, tb, b, role, digested, register, value, running⟩ := digestStep_cases s
  · rw [idle]
    exact .refl s
  · rw [digestStep_running running]
    exact stepOp_climbs ..
theorem memtestStep_climbs (s : State) (passes : Bool) : CountersClimb s (s.memtestStep passes) := by
  obtain idle | ⟨n, tested, failed, first, retired, running⟩ := memtestStep_cases s passes
  · rw [idle]
    exact .refl s
  · rw [DataPath.memtestStep_running passes running]
    exact (stepOp_climbs ..).after rfl rfl rfl

theorem attentionExpiry_climbs (s : State) : CountersClimb s s.attentionExpiry := by
  have pended : CountersClimb s s.pendAttention := .of_counters (by simp) (by simp) (by simp)
  unfold State.attentionExpiry
  split
  · exact pended.trans (.of_eq (by simp) (by simp) (by simp))
  · exact .of_eq rfl rfl rfl

/-! ### Flushes and link changes (R12, R14, R74) -/

theorem flushQueues_climbs (s : State) (qs : List QueueId) : CountersClimb s (s.flushQueues qs) := by
  have emptied : CountersClimb s (qs.foldl State.flushQueue s) := by
    refine foldl_climbs (fun u q => ⟨fun l => .of_eq (by simp), fun k => ?_, .of_eq (by simp)⟩) qs s
    rw [queue_flushQueue]
    split
    · simp [OutQueue.flushed, QueueCounters.all]
    · exact .refl _
  unfold State.flushQueues
  dsimp only
  split
  · exact emptied.trans (reportPause_climbs _)
  · exact emptied

theorem failOver_climbs (s : State) (moves : Link → Bool) : CountersClimb s (s.failOver moves) := by
  refine .of_globals ?_ (by simp) (by simp)
  simp [State.failOver, GlobalCounters.all]

theorem linkChange_climbs (s : State) (l : Link) (old : LinkState) : CountersClimb s (s.linkChange l old) := by
  have listed : CountersClimb s { s with attn := { s.attn with links := s.attn.links ||| LinkSet.single l } } :=
    .of_eq rfl rfl rfl
  unfold State.linkChange
  dsimp only
  refine CountersClimb.trans ?_ (raise_climbs _ _)
  (repeat' split)
  · exact listed.trans (failOver_climbs _ _)
  · exact listed.trans (failOver_climbs _ _)
  · exact listed

theorem quiet_climbs (s : State) (l : Link) (next : Sending) : CountersClimb s (s.quiet l next) := by
  have counted : GroupClimbs s.globals.all (s.quiet l next).globals.all := by simp [quiet_globals, GlobalCounters.all]
  refine ⟨fun k => ?_, fun q => .of_eq (by simp), counted⟩
  rw [quiet_link]
  split
  · next e => simp [e, LinkCounters.all]
  · exact .refl _

theorem abortInFlight_climbs (s : State) (l : Link) : CountersClimb s (s.abortInFlight l) := by
  unfold State.abortInFlight
  split
  · exact .refl s
  · exact (release_climbs s _).trans (modLink_climbs _ l _ fun _ => by simp [LinkCounters.all])

theorem enterTraining_climbs (s : State) (l : Link) (old : LinkState) : CountersClimb s (s.enterTraining l old) := by
  unfold State.enterTraining
  refine (linkChange_climbs _ l old).afterPort fun p => ?_
  dsimp only
  split <;> simp [LinkCounters.all]
theorem enterUp_climbs (s : State) (l : Link) : CountersClimb s (s.enterUp l) := by
  unfold State.enterUp
  exact (linkChange_climbs _ l _).afterPort fun _ => .refl _
theorem enterDisabled_climbs (s : State) (l : Link) : CountersClimb s (s.enterDisabled l) := by
  unfold State.enterDisabled
  exact ((quiet_climbs _ l _).trans (linkChange_climbs _ l _)).afterPort fun _ => .refl _
theorem enterFaulted_climbs (s : State) (l : Link) (cause : FaultCause) : CountersClimb s (s.enterFaulted l cause) := by
  have quieted : CountersClimb s (faultedQuiet s l cause) := (abortInFlight_climbs s l).trans ((quiet_climbs _ l _).afterPort fun _ => .refl _)
  exact (quieted.trans (flushQueues_climbs _ _)).trans (linkChange_climbs _ l _)
theorem retrainLink_climbs (s : State) (l : Link) : CountersClimb s (s.retrainLink l) := by
  have quieted : CountersClimb s (retrainQuiet s l) := (abortInFlight_climbs s l).trans ((quiet_climbs _ l _).afterPort fun _ => .refl _)
  exact (quieted.trans (flushQueues_climbs _ _)).trans (enterTraining_climbs _ l _)

theorem enableLink_climbs (s : State) (l : Link) : CountersClimb s (s.enableLink l) := by
  unfold State.enableLink
  split
  · exact enterTraining_climbs s l _
  · exact (enterTraining_climbs _ l _).afterPort fun _ => .refl _
  · exact .refl s
  · exact modLink_climbs s l _ fun _ => .refl _
theorem disableLink_climbs (s : State) (l : Link) : CountersClimb s (s.disableLink l) := by
  unfold State.disableLink
  (repeat' split)
  · exact .refl s
  · exact enterDisabled_climbs s l
  · exact enterDisabled_climbs s l
  · exact modLink_climbs s l _ fun _ => .refl _
  · exact enterDisabled_climbs s l

/-! ### Cells that arrive (R2 to R15, R122, R134) -/

theorem badCell_climbs (s : State) (l : Link) : CountersClimb s (s.badCell l) := by
  unfold State.badCell
  dsimp only
  split
  · exact (enterFaulted_climbs _ l _).afterPort fun _ => .refl _
  · exact modLink_climbs s l _ fun _ => .refl _

theorem receiveData_climbs (s : State) (l : Link) (cell : Cell) : CountersClimb s (s.receiveData l cell) := by
  unfold State.receiveData
  split
  · exact modLink_climbs s l _ fun _ => .refl _
  · exact countLink_climbs s l _ fun _ => by simp [LinkCounters.all]

theorem arriveRequest_climbs (s : State) (l : Link) (cell : Cell) : CountersClimb s (s.arriveRequest l cell) := by
  unfold State.arriveRequest
  (repeat' split)
  · exact countGlobal_climbs s _ fun _ => by simp [GlobalCounters.all]
  · exact (countGlobal_climbs s _ fun _ => by simp [GlobalCounters.all]).trans (raise_climbs _ _)
  · exact .of_eq rfl rfl rfl

theorem arriveSync_climbs (s : State) (l : Link) (n : Epoch) : CountersClimb s (s.arriveSync l n) := by
  unfold State.arriveSync
  dsimp only
  (repeat' split)
  · exact countGlobal_climbs s _ fun _ => by simp [GlobalCounters.all]
  · exact .of_eq rfl rfl rfl
  · exact (epochChange_climbs _).after rfl rfl rfl
  · exact (((countGlobal_climbs _ _ fun _ => by simp [GlobalCounters.all]).trans (raise_climbs _ _)).trans (epochChange_climbs _)).after rfl rfl rfl

theorem deliver_climbs (s : State) (l : Link) (kind : CellKind) (cell : Cell) : CountersClimb s (s.deliver l kind cell) := by
  cases kind with
  | ucast | mcast => exact receiveData_climbs s l cell
  | mreq => exact arriveRequest_climbs s l cell
  | sync => exact arriveSync_climbs s l _
  | idle => exact .refl s
  | flowst | mrsp | attn => exact countGlobal_climbs s (fun g => { g with strayCells := bump g.strayCells 1 }) fun _ => by simp [GlobalCounters.all]

theorem arriveGood_climbs (s : State) (l : Link) (kind : CellKind) (cell : Cell) : CountersClimb s (s.arriveGood l kind cell) := by
  unfold State.arriveGood
  refine (deliver_climbs _ l kind cell).afterPort fun p => ?_
  dsimp only
  split <;> simp [LinkCounters.all]

theorem train_climbs (s : State) (l : Link) (kind : CellKind) : CountersClimb s (s.train l kind) := by
  unfold State.train
  dsimp only
  (repeat' split)
  · exact (enterUp_climbs _ l).afterPort fun _ => .refl _
  · exact modLink_climbs s l _ fun _ => .refl _
  · exact modLink_climbs s l _ fun _ => .refl _

theorem arriveHeaderError_climbs (s : State) (l : Link) : CountersClimb s (s.arriveHeaderError l) := by
  unfold State.arriveHeaderError
  dsimp only
  split
  · exact (countLink_climbs s l _ fun _ => by simp [LinkCounters.all]).trans (modLink_climbs _ l _ fun _ => .refl _)
  · exact (countLink_climbs s l _ fun _ => by simp [LinkCounters.all]).trans (badCell_climbs _ l)
  · exact countLink_climbs s l _ fun _ => by simp [LinkCounters.all]
  · exact .refl s

theorem countPayload_climbs (cell : Cell) (c : LinkCounters) : GroupClimbs c.all (countPayload cell c).all := by
  rw [← countPayload_eq]
  dsimp only
  split
  · exact .refl _
  · simp [LinkCounters.all]

theorem arriveGoodHeader_climbs (s : State) (l : Link) (kind : CellKind) (cell : Cell) : CountersClimb s (s.arriveGoodHeader l kind cell) := by
  have paced := modLink_climbs s l (pacedPort s cell) fun p => countPayload_climbs cell p.counters
  cases state : (s.link l).state with
  | disabled => simpa only [State.arriveGoodHeader, state] using .refl s
  | training =>
    rw [arriveGoodHeader_training state]
    exact (train_climbs _ l kind).afterPort fun p => countPayload_climbs cell p.counters
  | up =>
    rw [arriveGoodHeader_up state]
    split
    · exact paced.trans (arriveGood_climbs _ l kind cell)
    · exact paced.trans (badCell_climbs _ l)
  | faulted =>
    rw [arriveGoodHeader_faulted state]
    exact countLink_climbs s l _ (countPayload_climbs cell)

theorem execCellArrival_climbs {s t : State} {l : Link} {cell : Cell} (h : execCellArrival l cell s = .next t) : CountersClimb s t := by
  obtain rfl := next_inj h
  (repeat' split)
  · exact .refl s
  · exact arriveHeaderError_climbs s l
  · exact arriveGoodHeader_climbs s l _ cell

theorem execHoldOffExpiry_climbs {s t : State} {l : Link} (h : execHoldOffExpiry l s = .next t) : CountersClimb s t := by
  obtain rfl := next_inj h
  (repeat' split)
  · exact enterTraining_climbs s l _
  · exact modLink_climbs s l _ fun _ => .refl _
  · exact .refl s

/-! ### Admission (R45 to R59) -/

theorem allocate_counters {s stored : State} {cell : Cell} {copies : Nat} {h : Handle} (allocated : s.allocate cell copies = some (h, stored))
    (l : Link) : (stored.link l).counters = (s.link l).counters := by
  unfold State.allocate at allocated
  split at allocated
  · cases allocated
  · cases allocated
    split <;> simp

theorem storeCell_climbs (s : State) (cell : Cell) (cc : Sys2Proof.Class) (members : List Link) : CountersClimb s (s.storeCell cell cc members) := by
  unfold State.storeCell
  split
  · exact .refl s
  · next h stored allocated =>
    have taken : CountersClimb s stored := .of_counters (allocate_counters allocated) (allocate_queues s stored cell _ h allocated)
      (allocate_globals s stored cell _ h allocated)
    refine taken.trans (foldl_climbs (fun u l => setQueue_climbs u _ _ ?_) members stored)
    simp [QueueCounters.all]

theorem countTailDrop_climbs (s : State) (l : Link) (cc : Sys2Proof.Class) : CountersClimb s (s.countTailDrop l cc) :=
  setQueue_climbs s _ _ (by simp [QueueCounters.all])

theorem admitUnicast_climbs (s : State) (ingress : Link) (cell : Cell) (l : Link) : CountersClimb s (s.admitUnicast ingress cell l) := by
  unfold State.admitUnicast
  dsimp only
  (repeat' split)
  · exact countLink_climbs s ingress _ fun _ => by simp [LinkCounters.all]
  · exact countLink_climbs s ingress _ fun _ => by simp [LinkCounters.all]
  · exact countTailDrop_climbs s l _
  · exact storeCell_climbs s cell _ _

theorem routeLink_climbs (s : State) (d : Link) : CountersClimb s (s.routeLink d).2 := .of_eq (by simp) (by simp) (by simp)

theorem unicast_climbs (s : State) (ingress : Link) (cell : Cell) : CountersClimb s (s.unicast ingress cell) := by
  have read := verify_climbs s .destination s.tables.active (cellDest cell)
  unfold State.unicast State.routeUnicast
  dsimp only
  (repeat' split)
  · exact (read.trans (routeLink_climbs _ _)).trans (admitUnicast_climbs _ ingress cell _)
  · exact read.trans (countLink_climbs _ ingress _ fun _ => by simp [LinkCounters.all])
  · exact read.trans (countLink_climbs _ ingress _ fun _ => by simp [LinkCounters.all])
  · exact read.trans (countLink_climbs _ ingress _ fun _ => by simp [LinkCounters.all])
  · exact countLink_climbs s ingress _ fun _ => by simp [LinkCounters.all]

theorem walkMembers_climbs (s : State) (ingress : Link) (cell : Cell) (g : GroupFields) (cc : Sys2Proof.Class) :
    CountersClimb s (s.walkMembers ingress cell g cc) := by
  have lost (n : Nat) := countLink_climbs s ingress (fun k => { k with unreachable := bump k.unreachable n }) fun _ => by simp [LinkCounters.all]
  have dropped (n : Nat) (members : List Link) := (lost n).trans (foldl_climbs (fun u m => countTailDrop_climbs u m cc) members _)
  unfold State.walkMembers
  dsimp only
  split
  · exact (dropped _ _).trans (countLink_climbs _ ingress _ fun _ => by simp [LinkCounters.all])
  · exact (dropped _ _).trans (storeCell_climbs _ cell cc _)

theorem offerMiss_climbs (s : State) (group : Nat) (l : Link) : CountersClimb s (s.offerMiss group l) := by
  unfold State.offerMiss
  split
  · exact (raise_climbs _ _).after rfl rfl rfl
  · exact .of_eq rfl rfl rfl

theorem groupMiss_climbs (s : State) (ingress : Link) (group : Nat) : CountersClimb s (s.groupMiss ingress group) := by
  unfold State.groupMiss
  exact (countLink_climbs s ingress _ fun _ => by simp [LinkCounters.all]).trans (offerMiss_climbs _ group ingress)

theorem multicast_climbs (s : State) (ingress : Link) (cell : Cell) : CountersClimb s (s.multicast ingress cell) := by
  have read := verify_climbs s .group s.tables.active (cellDest cell)
  unfold State.multicast
  dsimp only
  (repeat' split)
  · exact read.trans (countLink_climbs _ ingress _ fun _ => by simp [LinkCounters.all])
  · exact read.trans (walkMembers_climbs _ ingress cell _ _)
  · exact read.trans (groupMiss_climbs _ ingress _)

theorem admitCell_climbs (s : State) (ingress : Link) (cell : Cell) : CountersClimb s (s.admitCell ingress cell) := by
  unfold State.admitCell
  (repeat' split)
  · exact countLink_climbs s ingress _ fun _ => by simp [LinkCounters.all]
  · exact unicast_climbs s ingress cell
  · exact multicast_climbs s ingress cell

theorem admission_climbs (s : State) : CountersClimb s s.admission := by
  unfold State.admission
  split
  · exact .refl s
  · next l _ =>
    split
    · exact .refl s
    · next cell rest _ =>
      have served : CountersClimb (s.modLink l fun p => { p with rxBuf := rest }) ((s.taking l rest).admitCell l cell) :=
        (admitCell_climbs (s.taking l rest) l cell).after rfl rfl rfl
      exact served.afterPort fun _ => .refl _

/-! ### The next cell (R82 to R96) -/

theorem selectFrom_climbs {s t : State} {l : Link} {c : Sys2Proof.Class} (h : s.selectFrom l c = .next t) : CountersClimb s t := by
  unfold State.selectFrom at h
  (repeat' split at h)
  · cases h
  · cases h
  · obtain rfl := next_inj h
    refine (setQueue_climbs s _ _ ?_).trans (modLink_climbs _ l _ fun _ => .refl _)
    dsimp only
    split <;> simp [QueueCounters.all]

theorem sendNonData_climbs (s : State) (l : Link) (kind : SentKind) (bytes : Cell) : CountersClimb s (s.sendNonData l kind bytes) :=
  modLink_climbs s l _ fun _ => .refl _

theorem placeHeld_climbs (s : State) (l : Link) : CountersClimb s (s.placeHeld l) := by
  unfold State.placeHeld
  split
  · exact .refl s
  · next c _ =>
    split
    · have placed := modLink_climbs s l (fun p => { p with respQueue := p.respQueue ++ [c.record] }) fun _ => .refl _
      exact placed.trans (.of_eq rfl rfl rfl)
    · exact .refl s

theorem chooseAfterAttn_climbs {s t : State} {l : Link} (h : s.chooseAfterAttn l = .next t) : CountersClimb s t := by
  unfold State.chooseAfterAttn State.sendData at h
  (repeat' split at h)
  · exact next_inj h ▸ (sendNonData_climbs _ l _ _).afterPort fun _ => .refl _
  · exact selectFrom_climbs h
  · cases h
  · exact (selectFrom_climbs h).afterPort fun _ => .refl _
  · exact next_inj h ▸ sendNonData_climbs s l _ _

theorem chooseNext_climbs {s t : State} {l : Link} (h : s.chooseNext l = .next t) : CountersClimb s t := by
  unfold State.chooseNext at h
  (repeat' split at h)
  · exact next_inj h ▸ ((placeHeld_climbs _ l).trans (sendNonData_climbs _ l _ _)).afterPort fun _ => .refl _
  · exact next_inj h ▸ (sendNonData_climbs _ l _ _).afterPort fun _ => .refl _
  · exact (chooseAfterAttn_climbs h).afterPort fun _ => .refl _
  · exact chooseAfterAttn_climbs h

theorem endData_climbs (s : State) (l : Link) (h : Handle) : CountersClimb s (s.endData l h) := by
  unfold State.endData
  exact (release_climbs s h).trans (modLink_climbs _ l _ fun _ => by simp [LinkCounters.all])

theorem nextCell_climbs {s t : State} {l : Link} (h : s.nextCell l = .next t) : CountersClimb s t := by
  unfold State.nextCell at h
  (repeat' split at h)
  · exact chooseNext_climbs h
  · exact next_inj h ▸ (endData_climbs s l _).trans (enterDisabled_climbs _ l)
  · exact (endData_climbs s l _).trans (chooseNext_climbs h)

theorem execNextCellEvent_climbs {s t : State} {l : Link} (h : execNextCellEvent l s = .next t) : CountersClimb s t := by
  unfold execNextCellEvent at h
  split at h
  · exact nextCell_climbs h
  · exact next_inj h ▸ .refl s

/-! ### The monitor (R102) -/

theorem visit_climbs (s : State) (q : QueueId) : CountersClimb s (s.visit q) := by
  have visited : CountersClimb s (s.setQueue q ((s.queue q).visited s.params (queueClass q))) := setQueue_climbs s q _ (.refl _)
  unfold State.visit
  dsimp only
  split
  · exact visited.trans (reportPause_climbs _)
  · exact visited

theorem monitorStep_climbs (s : State) : CountersClimb s s.monitorStep := by
  unfold State.monitorStep
  split
  · exact .of_eq rfl rfl rfl
  · exact (visit_climbs _ _).after rfl rfl rfl

/-! ### Requests -/

theorem place_climbs (s : State) (l : Link) (record : Payload) : CountersClimb s (s.place l record) := by
  unfold State.place
  (repeat' split)
  · exact countGlobal_climbs s _ fun _ => by simp [GlobalCounters.all]
  · exact modLink_climbs s l _ fun _ => .refl _
  · exact .of_eq rfl rfl rfl

/-- A request served is taken, executed and answered, and only its execution can make a counter fall. -/
theorem serve_placed (s : State) (row : RequestRow) (execute : Payload → State → Answer × State) :
    s.serve row execute = s ∨
      ∃ r u, CountersClimb s u ∧ CountersClimb (execute r u).2 (s.serve row execute) := by
  obtain same | ⟨r, -, served⟩ := serve_cases s row execute
  · exact .inl same
  · refine .inr ⟨r.record, DataPath.dequeued s, .of_eq rfl rfl rfl, ?_⟩
    rw [served]
    exact (place_climbs _ _ _).after rfl rfl rfl

theorem serve_climbs (s : State) (row : RequestRow) (execute : Payload → State → Answer × State)
    (h : ∀ r u, CountersClimb u (execute r u).2) : CountersClimb s (s.serve row execute) := by
  obtain same | ⟨r, u, taken, placed⟩ := serve_placed s row execute
  · rw [same]
    exact .refl s
  · exact (taken.trans (h r u)).trans placed

theorem answerEnable_climbs (r : Payload) (s : State) : CountersClimb s (answerEnable r s).2 := by
  unfold answerEnable
  (repeat' split)
  · exact .refl s
  · exact .refl s
  · exact .refl s
  · exact enableLink_climbs s _
theorem answerDisable_climbs (r : Payload) (s : State) : CountersClimb s (answerDisable r s).2 := by
  unfold answerDisable
  split
  · exact .refl s
  · exact disableLink_climbs s _
theorem answerFlush_climbs (r : Payload) (s : State) : CountersClimb s (answerFlush r s).2 := by
  unfold answerFlush
  split
  · exact .refl s
  · exact flushQueues_climbs s _
theorem answerRetrain_climbs (r : Payload) (s : State) : CountersClimb s (answerRetrain r s).2 := by
  unfold answerRetrain
  (repeat' split)
  · exact .refl s
  · exact .refl s
  · exact retrainLink_climbs s _

theorem resetDatapath_climbs (s : State) : CountersClimb s s.resetDatapath := by
  have aborted : CountersClimb s s.abortOp := .of_counters (by simp) (by simp) (by simp)
  have emptied (u : State) : CountersClimb u u.emptyReceiveBuffers := mapLinks_climbs u _ fun _ _ => by simp [LinkCounters.all]
  have scheduled (u : State) : CountersClimb u u.resetSchedulers := mapLinks_climbs u _ fun _ _ => .refl _
  exact ((aborted.trans (flushQueues_climbs _ allQueues)).trans (emptied _)).trans (scheduled _)

/-! ### Every command -/

theorem CountersClimb.of_next {s t u : State} (h : (Host.Outcome.next u : Host.Outcome State Fault Refusal) = .next t) (k : CountersClimb s u) :
    CountersClimb s t := next_inj h ▸ k

/-- R174: no command but Read Counters and the edges of RST_N lowers a counter. -/
theorem exec_climbs {i : Instr} {s t : State} (notReset : i.isReset = false) (notRead : i ≠ .readCounters) (h : exec i s = .next t) :
    CountersClimb s t := by
  cases i with
  | rstNRise | rstNFall => cases notReset
  | readCounters => exact absurd rfl notRead
  | cellArrival => exact execCellArrival_climbs h
  | trainingWindowExpiry | keepaliveExpiry => exact .of_next h (.ite (enterFaulted_climbs s _ _))
  | holdOffExpiry => exact execHoldOffExpiry_climbs h
  | admission => exact .of_next h (.ite (admission_climbs s))
  | nextCellEvent => exact execNextCellEvent_climbs h
  | monitorStep => exact .of_next h (.ite (monitorStep_climbs s))
  | coalescingTimerExpiry => exact .of_next h (.ite ((oweFlowst_climbs _).after rfl rfl rfl))
  | epochTimerExpiry => exact .of_next h (.ite ((epochChange_climbs _).after rfl rfl rfl))
  | tableDisturbance => exact .of_next h (.ite (.of_eq (by simp) (by simp) (by simp)))
  | attentionHoldOffExpiry => exact .of_next h (.ite (attentionExpiry_climbs s))
  | scrubStep => exact .of_next h (.ite (scrubVisit_climbs s))
  | fillStep => exact .of_next h (.ite (fillStep_climbs s))
  | copyStep => exact .of_next h (.ite (copyStep_climbs s))
  | digestStep => exact .of_next h (.ite (digestStep_climbs s))
  | memtestStep passes => exact .of_next h (.ite (memtestStep_climbs s passes))
  | enable => exact .of_next h (serve_climbs s _ _ answerEnable_climbs)
  | disable => exact .of_next h (serve_climbs s _ _ answerDisable_climbs)
  | flush => exact .of_next h (serve_climbs s _ _ answerFlush_climbs)
  | retrain => exact .of_next h (serve_climbs s _ _ answerRetrain_climbs)
  | datapathReset => exact .of_next h (serve_climbs s _ _ fun _ u => resetDatapath_climbs u)
  | sendFlowStatusNow => exact .of_next h (serve_climbs s _ _ fun _ u => oweFlowst_climbs u)
  | readIdentity | readStatus | readQueueSnapshot | readAttention | readMissRecord | readEntries | writeEntries | repairEntry | fillEntries | copyBank
  | digestBank | startMemoryTest | scheduleSwap | cancelSwap | setManagementLinks | setParameter | readParameter | undefinedRequest =>
    exact .of_next h (serve_climbs s _ _ fun _ _ => .of_eq (by simp) (by simp) (by simp))

/-! ### Read Counters and the edges of RST_N -/

/-- R145: a group that is cleared stays within its range. -/
theorem answerReadCounters_bounded (r : Payload) {s : State} (bound : s.countersBounded) : (answerReadCounters r s).2.countersBounded := by
  obtain ⟨links, queues, globals⟩ := bound
  have clearedLink (l : Link) : (s.countLink l fun _ => LinkCounters.zero).countersBounded := by
    refine ⟨fun k => ?_, fun q => by simpa using queues q, globals⟩
    rw [link_countLink]
    split
    · show ∀ n ∈ LinkCounters.zero.all, n ≤ 4294967295
      decide
    · exact links k
  have clearedQueue (q : QueueId) : (s.countQueue q fun _ => ⟨0, 0, 0, 0⟩).countersBounded := by
    refine ⟨fun l => by simpa using links l, fun k => ?_, globals⟩
    rw [queue_countQueue]
    split
    · show ∀ n ∈ (⟨0, 0, 0, 0⟩ : QueueCounters).all, n ≤ 4294967295
      decide
    · exact queues k
  have clearedGlobals : (s.countGlobal fun _ => ⟨0, 0, 0, 0, 0, 0, 0, 0⟩).countersBounded := by
    refine ⟨links, queues, ?_⟩
    show ∀ n ∈ (⟨0, 0, 0, 0, 0, 0, 0, 0⟩ : GlobalCounters).all, n ≤ 4294967295
    decide
  unfold answerReadCounters
  (repeat' split)
  · exact ⟨links, queues, globals⟩
  · exact clearedLink _
  · exact ⟨links, queues, globals⟩
  · exact clearedQueue _
  · exact ⟨links, queues, globals⟩
  · exact ⟨links, queues, globals⟩
  · exact clearedGlobals
  · exact ⟨links, queues, globals⟩
  · exact ⟨links, queues, globals⟩

theorem readCounters_bounded {s : State} (bound : s.countersBounded) : (s.serve .readCounters answerReadCounters).countersBounded := by
  obtain same | ⟨r, u, taken, placed⟩ := serve_placed s .readCounters answerReadCounters
  · rwa [same]
  · exact placed.bounded (answerReadCounters_bounded r (taken.bounded bound))

theorem heldInReset_climbs (s : State) : CountersClimb (State.powerOn s.straps) s.heldInReset := by
  refine .of_counters (fun l => ?_) rfl rfl
  rw [heldInReset_link, powerOn_link]
  rfl

/-- R190: an edge of RST_N leaves every counter as it is or at 0. -/
theorem exec_reset_bounded {i : Instr} {s t : State} (reset : i.isReset = true) (bound : s.countersBounded) (h : exec i s = .next t) :
    t.countersBounded := by
  cases i with
  | rstNRise plane mgp mgs =>
    obtain rfl := next_inj h
    split
    · exact bound
    · exact powerOn_countersBounded ⟨plane, mgp, mgs⟩
  | rstNFall =>
    obtain rfl := next_inj h
    split
    · exact (heldInReset_climbs s).bounded (powerOn_countersBounded s.straps)
    · exact bound
  | _ => cases reset

/-- Settles O14: by the edges of RST_N, Read Counters, and the commands at which every counter climbs. -/
theorem countersSaturate : Obligations.CountersSaturate := by
  intro i s t bound h
  refine ⟨?_, fun notReset notRead => ?_⟩
  · cases reset : i.isReset with
    | true => exact exec_reset_bounded reset bound h
    | false =>
      by_cases read : i = .readCounters
      · subst read
        exact next_inj h ▸ readCounters_bounded bound
      · exact (exec_climbs reset read h).bounded bound
  · have climbs := exec_climbs notReset notRead h
    obtain ⟨links, queues, globals⟩ := bound
    exact ⟨fun l => (climbs.links l).getD_le (links l), fun q => (climbs.queues q).getD_le (queues q), climbs.globals.getD_le globals⟩

end Sys2Proof.Counters
end

section
/-! PROOFS. What stands outside the block's operation (R189, R190): the commands that wait, the sampled straps and the RST_N pin. -/

namespace Sys2Proof.OperatingSequences

open Sys2Proof.Machine Sys2Proof.Laws Sys2Proof.ManagementAgent

/-- The waiting commands, the sampled straps and the RST_N pin are as they were. -/
structure BoardKept (s t : State) : Prop where
  pending : t.pending = s.pending
  straps : t.straps = s.straps
  rstN : t.rstN = s.rstN

theorem BoardKept.refl (s : State) : BoardKept s s := ⟨rfl, rfl, rfl⟩

theorem BoardKept.ite {s t : State} {c : Prop} [Decidable c] (h : BoardKept s t) : BoardKept s (if c then t else s) := by
  split
  · exact h
  · exact .refl s

theorem BoardKept.of_next {s t u : State} (h : (Host.Outcome.next u : Host.Outcome State Fault Refusal) = .next t) (k : BoardKept s u) :
    BoardKept s t := next_inj h ▸ k

/-! ### Requests -/

theorem execution_boardKept (row : RequestRow) (r : Payload) (s : State) : BoardKept s (execution row r s).2 := by
  cases row <;> exact ⟨by simp [execution], by simp [execution], by simp [execution]⟩

theorem serve_boardKept (s : State) (row : RequestRow) : BoardKept s (s.serve row (execution row)) where
  pending := serve_pending s row _ fun r u => (execution_boardKept row r u).pending
  straps := serve_straps s row _ fun r u => (execution_boardKept row r u).straps
  rstN := serve_rstN s row _ fun r u => (execution_boardKept row r u).rstN

/-! ### Events -/

theorem execCellArrival_boardKept {s t : State} {l : Link} {cell : Cell} (h : execCellArrival l cell s = .next t) : BoardKept s t := by
  obtain rfl := next_inj h
  (repeat' split)
  · exact .refl s
  · exact ⟨arriveHeaderError_pending .., arriveHeaderError_straps .., arriveHeaderError_rstN ..⟩
  · exact ⟨arriveGoodHeader_pending .., arriveGoodHeader_straps .., arriveGoodHeader_rstN ..⟩

theorem execHoldOffExpiry_boardKept {s t : State} {l : Link} (h : execHoldOffExpiry l s = .next t) : BoardKept s t := by
  obtain rfl := next_inj h
  (repeat' split)
  · exact ⟨enterTraining_pending .., enterTraining_straps .., enterTraining_rstN ..⟩
  · exact ⟨rfl, rfl, rfl⟩
  · exact .refl s

theorem execNextCellEvent_boardKept {s t : State} {l : Link} (h : execNextCellEvent l s = .next t) : BoardKept s t := by
  unfold execNextCellEvent at h
  split at h
  · exact ⟨nextCell_pending s t l h, nextCell_straps s t l h, nextCell_rstN s t l h⟩
  · exact .of_next h (.refl s)

/-! ### Every command -/

/-- R189, R190: only the edges of RST_N reach what stands outside the block's operation. -/
theorem exec_boardKept {i : Instr} {s t : State} (notReset : i.isReset = false) (h : exec i s = .next t) : BoardKept s t := by
  cases served : i.serves with
  | some row => exact .of_next ((exec_serves s served).symm.trans h) (serve_boardKept s row)
  | none =>
    cases i with
    | rstNRise | rstNFall => cases notReset
    | cellArrival => exact execCellArrival_boardKept h
    | trainingWindowExpiry | keepaliveExpiry => exact .of_next h (.ite ⟨enterFaulted_pending .., enterFaulted_straps .., enterFaulted_rstN ..⟩)
    | holdOffExpiry => exact execHoldOffExpiry_boardKept h
    | admission => exact .of_next h (.ite ⟨admission_pending s, admission_straps s, admission_rstN s⟩)
    | nextCellEvent => exact execNextCellEvent_boardKept h
    | monitorStep => exact .of_next h (.ite ⟨monitorStep_pending s, monitorStep_straps s, monitorStep_rstN s⟩)
    | coalescingTimerExpiry => exact .of_next h (.ite ⟨oweFlowst_pending _, oweFlowst_straps _, oweFlowst_rstN _⟩)
    | epochTimerExpiry => exact .of_next h (.ite ⟨epochChange_pending _, epochChange_straps _, epochChange_rstN _⟩)
    | attentionHoldOffExpiry => exact .of_next h (.ite ⟨attentionExpiry_pending s, attentionExpiry_straps s, attentionExpiry_rstN s⟩)
    | scrubStep => exact .of_next h (.ite ⟨scrubVisit_pending s, scrubVisit_straps s, scrubVisit_rstN s⟩)
    | tableDisturbance => exact .of_next h (.ite ⟨putEntry_pending .., putEntry_straps .., putEntry_rstN ..⟩)
    | fillStep => exact .of_next h (.ite ⟨fillStep_pending s, fillStep_straps s, fillStep_rstN s⟩)
    | copyStep => exact .of_next h (.ite ⟨copyStep_pending s, copyStep_straps s, copyStep_rstN s⟩)
    | digestStep => exact .of_next h (.ite ⟨digestStep_pending s, digestStep_straps s, digestStep_rstN s⟩)
    | memtestStep passes => exact .of_next h (.ite ⟨memtestStep_pending s passes, memtestStep_straps s passes, memtestStep_rstN s passes⟩)
    | _ => cases served

/-- R189, R190: an edge of RST_N keeps the waiting commands, and the fall keeps the straps as last sampled. -/
theorem exec_reset_board {i : Instr} {s t : State} (reset : i.isReset = true) (h : exec i s = .next t) :
    t.pending = s.pending ∧ ((∀ p a b, i ≠ .rstNRise p a b) → t.straps = s.straps) := by
  cases i with
  | rstNRise plane mgp mgs =>
    refine ⟨?_, fun notRise => absurd rfl (notRise plane mgp mgs)⟩
    obtain rfl := next_inj h
    split
    · rfl
    · rfl
  | rstNFall =>
    obtain rfl := next_inj h
    split
    · exact ⟨rfl, fun _ => rfl⟩
    · exact ⟨rfl, fun _ => rfl⟩
  | _ => cases reset

/-- Settles O2: by the edges of RST_N, and every command beside them, which keeps all three. -/
theorem commandsKeepQueueStrapsAndPin : Obligations.CommandsKeepQueueStrapsAndPin := by
  intro i s t h
  cases reset : i.isReset with
  | true =>
    obtain ⟨pending, straps⟩ := exec_reset_board reset h
    exact ⟨pending, straps, nofun⟩
  | false =>
    obtain ⟨pending, straps, rstN⟩ := exec_boardKept reset h
    exact ⟨pending, fun _ => straps, fun _ => rstN⟩

end Sys2Proof.OperatingSequences
end

section
/-! PROOFS. The stores stay canonical (log entry 15): the pool by the basic moves of the data path, the banks by the writes of table entries. -/

namespace Sys2Proof.Stores

open Sys2Proof.Machine Sys2Proof.Laws Sys2Proof.LinkPorts Sys2Proof.ForwardingTables Sys2Proof.DataPath Sys2Proof.Epochs

/-! ### The form of the pool -/

/-- The two stores of the pool are in canonical form and its two handle sets are ascending. -/
structure PoolCanonical (p : Pool) : Prop where
  buffers : Memory.wf none p.buffers = true
  refs : Memory.wf 0 p.refs = true
  retired : p.retired.Pairwise (· < ·)
  underTest : p.underTest.Pairwise (· < ·)

theorem powerOn_poolCanonical (straps : Straps) : PoolCanonical (State.powerOn straps).pool := ⟨rfl, rfl, .nil, .nil⟩

/-- R67: a release writes one count. -/
theorem PoolCanonical.release {p : Pool} (h : PoolCanonical p) (threshold : Nat) (a : Handle) : PoolCanonical (p.release threshold a) := by
  obtain ⟨buffers, retired, underTest, -, refs⟩ := poolRelease_fields p threshold a
  exact ⟨buffers ▸ h.buffers, refs ▸ write_wf a _ h.refs, retired ▸ h.retired, underTest ▸ h.underTest⟩

theorem PoolCanonical.releases {p : Pool} (h : PoolCanonical p) (threshold : Nat) (hs : List Handle) :
    PoolCanonical (hs.foldl (fun p a => p.release threshold a) p) := by
  induction hs generalizing p with
  | nil => exact h
  | cons a hs ih => exact ih (h.release threshold a)

/-- R55, R65: an allocation writes one count and one buffer. -/
theorem PoolCanonical.allocated {s : State} (h : PoolCanonical s.pool) (cell : Cell) (copies : Nat) (a : Handle) (rest : List Handle) :
    PoolCanonical (allocatedPool s cell copies a rest) :=
  ⟨write_wf a _ h.buffers, write_wf a _ h.refs, h.retired, h.underTest⟩

/-- R70 step 1. -/
theorem PoolCanonical.startTest {p : Pool} (h : PoolCanonical p) (threshold : Nat) : PoolCanonical (p.startTest threshold) :=
  ⟨h.buffers, h.refs, h.retired, union_ascending h.underTest⟩

/-- R70 steps 2 and 3: a verdict empties one buffer and moves one handle between the sets. -/
theorem PoolCanonical.verdict {p : Pool} (h : PoolCanonical p) (n : Handle) (passes : Bool) : PoolCanonical (p.verdict n passes) := by
  obtain ⟨buffers, refs, -, -⟩ := verdict_fields p n passes
  obtain ⟨retired, underTest⟩ := verdict_ascending (n := n) (passes := passes) h.retired h.underTest
  exact ⟨buffers ▸ write_wf n none h.buffers, refs ▸ h.refs, retired, underTest⟩

/-- R70 step 4: the set under test is left empty. -/
theorem PoolCanonical.rebuild {p : Pool} (h : PoolCanonical p) (threshold : Nat) : PoolCanonical (p.rebuild threshold) :=
  ⟨h.buffers, h.refs, h.retired, .nil⟩

theorem PoolCanonical.tested {p : Pool} (h : PoolCanonical p) (threshold n : Nat) (passes : Bool) :
    PoolCanonical (testedPool p threshold n passes) := by
  unfold testedPool
  split
  · exact h.verdict n passes
  · exact (h.verdict n passes).rebuild threshold

/-- Every basic move of the data path keeps the form of the pool. -/
theorem traffic_poolCanonical {s t : State} (move : Traffic s t) (h : PoolCanonical s.pool) : PoolCanonical t.pool := by
  induction move with
  | still same => exact same.pool ▸ h
  | trans _ _ first second => exact second (first h)
  | visit => exact h
  | @store s cell cc members _ available =>
    obtain ⟨a, rest, free⟩ := List.exists_cons_of_ne_nil available
    rw [storeCell_eq free, foldl_enqueue_pool, allocated_pool]
    exact h.allocated cell members.length a rest
  | @drop s _ a => exact h.release s.params.poolLow a
  | select _ selected => exact selectFrom_pool _ _ _ _ selected ▸ h
  | flush s q =>
    rw [flushQueue_pool]
    exact h.releases s.params.poolLow _
  | @startTest s => exact h.startTest s.params.poolLow
  | test s passes =>
    obtain idle | ⟨n, tested, failed, first, retired, running⟩ := memtestStep_cases s passes
    · rwa [idle]
    · rw [memtestStep_pool passes running]
      exact h.tested s.params.poolLow n passes
  | abort s =>
    rw [abortOp_pool]
    split
    · exact h.rebuild s.params.poolLow
    · exact h
  | @setParameter s p =>
    by_cases written : p = .poolLow
    · subst written
      exact ⟨h.buffers, h.refs, h.retired, h.underTest⟩
    · rw [afterWrite_pool _ written]
      exact h

/-! ### The form of the banks -/

/-- The stores of both banks are in canonical form. -/
def BanksCanonical (s : State) : Prop :=
  ∀ b : Bank, Memory.wf powerOnGroup (s.bank b).groups = true ∧ Memory.wf powerOnDest (s.bank b).dests = true

theorem storesCanonical_iff (s : State) : s.storesCanonical ↔ BanksCanonical s ∧ PoolCanonical s.pool :=
  ⟨fun ⟨banks, buffers, refs, retired, underTest⟩ => ⟨banks, buffers, refs, retired, underTest⟩,
    fun ⟨banks, buffers, refs, retired, underTest⟩ => ⟨banks, buffers, refs, retired, underTest⟩⟩

theorem BanksCanonical.congr {s t : State} (banks : t.tables.banks = s.tables.banks) (h : BanksCanonical s) : BanksCanonical t := by
  unfold BanksCanonical State.bank
  rw [banks]
  exact h

/-- From `s` to `t` the banks stay canonical, the stores of `s` being so. -/
def KeepsBanks (s t : State) : Prop := s.storesCanonical → BanksCanonical t

theorem KeepsBanks.of_banks {s t : State} (banks : t.tables.banks = s.tables.banks) : KeepsBanks s t :=
  fun wf => .congr banks ((storesCanonical_iff s).1 wf).1
theorem KeepsBanks.of_tables {s t : State} (tables : t.tables = s.tables) : KeepsBanks s t := .of_banks (congrArg Tables.banks tables)
theorem KeepsBanks.refl (s : State) : KeepsBanks s s := .of_banks rfl

theorem KeepsBanks.of_putEntry {s t : State} {b : Bank} {i : Nat} {e : EntryFields} {code : Byte}
    (banks : t.tables.banks = (s.putEntry b i e code).tables.banks) : KeepsBanks s t :=
  fun wf => .congr banks ((storesCanonical_iff _).1 (putEntry_canonical s wf b i e code)).1
theorem KeepsBanks.of_writeRange {s t : State} {b : Bank} {first count : Nat} {e : Nat → EntryFields} (written : t = s.writeRange b first count e) :
    KeepsBanks s t := fun wf => ((storesCanonical_iff t).1 (written ▸ writeRange_canonical s wf b first count e)).1

/-- R30: a marking puts one entry. -/
theorem marksAtMostOne_keepsBanks {s t : State} (h : MarksAtMostOne s t) : KeepsBanks s t := by
  obtain kept | ⟨tb, b, i, marked⟩ := h
  · exact .of_tables kept
  · exact .of_putEntry (congrArg Tables.banks (marked.trans (markCorrupt_tables s tb b i)))

theorem fillStep_keepsBanks (s : State) : KeepsBanks s s.fillStep := by
  obtain idle | ⟨n, bank, e, first, last, written, running⟩ := fillStep_cases s
  · rw [idle]
    exact .refl s
  · rw [fillStep_running running]
    exact .of_putEntry (congrArg Tables.banks (stepOp_tables ..))

theorem copyStep_keepsBanks (s : State) : KeepsBanks s s.copyStep := by
  obtain idle | ⟨n, source, dest, written, asInitial, running⟩ := copyStep_cases s
  · rw [idle]
    exact .refl s
  · rw [copyStep_at running]
    exact .of_putEntry (congrArg Tables.banks (stepOp_tables ..))

theorem answerWriteEntries_keepsBanks (r : Payload) (s : State) : KeepsBanks s (answerWriteEntries r s).2 := by
  obtain same | ⟨tb, written⟩ := answerWriteEntries_cases r s
  · rw [same]
    exact .refl s
  · exact .of_writeRange written

theorem answerRepairEntry_keepsBanks (r : Payload) (s : State) : KeepsBanks s (answerRepairEntry r s).2 := by
  obtain same | ⟨tb, n, e, repaired⟩ := answerRepairEntry_cases r s
  · rw [same]
    exact .refl s
  · rw [repaired]
    exact .of_putEntry (repair_banks s tb n e).2

/-- Taking a request and placing its response touch no store. -/
theorem serve_keepsBanks (s : State) (row : RequestRow) (execute : Payload → State → Answer × State)
    (h : ∀ r u, KeepsBanks u (execute r u).2) : KeepsBanks s (s.serve row execute) := by
  obtain same | ⟨r, -, served⟩ := serve_cases s row execute
  · rw [same]
    exact .refl s
  · rw [served]
    exact fun wf => .congr (congrArg Tables.banks (place_tables ..)) (h r.record (dequeued s) wf)

theorem KeepsBanks.ite {s t : State} {c : Prop} [Decidable c] (h : KeepsBanks s t) : KeepsBanks s (if c then t else s) := by
  split
  · exact h
  · exact .refl s
theorem KeepsBanks.of_next {s t u : State} (h : (Host.Outcome.next u : Host.Outcome State Fault Refusal) = .next t) (k : KeepsBanks s u) :
    KeepsBanks s t := next_inj h ▸ k

/-! ### Every command -/

/-- The commands that write stored entries or the operation record, or set a swap PENDING. -/
theorem exec_writer_keepsBanks {i : Instr} {s t : State} (writes : writesTablesOrRecord i = true) (h : exec i s = .next t) : KeepsBanks s t := by
  cases i with
  | admission => exact .of_next h (.ite (marksAtMostOne_keepsBanks (admission_marksAtMostOne s)))
  | scrubStep => exact .of_next h (.ite (marksAtMostOne_keepsBanks (scrubVisit_marksAtMostOne s)))
  | tableDisturbance b n e code => exact .of_next h (.ite (.of_putEntry rfl))
  | fillStep => exact .of_next h (.ite (fillStep_keepsBanks s))
  | copyStep => exact .of_next h (.ite (copyStep_keepsBanks s))
  | digestStep => exact .of_next h (.ite (.of_tables (digestStep_tables s)))
  | memtestStep passes => exact .of_next h (.ite (.of_tables (memtestStep_tables s passes)))
  | writeEntries => exact .of_next h (serve_keepsBanks s _ _ answerWriteEntries_keepsBanks)
  | repairEntry => exact .of_next h (serve_keepsBanks s _ _ answerRepairEntry_keepsBanks)
  | fillEntries => exact .of_next h (.of_tables (serve_tables s _ _ answerFillEntries_tables))
  | copyBank => exact .of_next h (.of_tables (serve_tables s _ _ answerCopyBank_tables))
  | digestBank => exact .of_next h (.of_tables (serve_tables s _ _ answerDigestBank_tables))
  | startMemoryTest => exact .of_next h (.of_tables (serve_tables s _ _ answerStartMemoryTest_tables))
  | scheduleSwap => exact .of_next h (.of_tables (serve_tables s _ _ answerScheduleSwap_tables))
  | datapathReset => exact .of_next h (.of_tables (serve_tables s _ _ answerDatapathReset_tables))
  | _ => cases writes

/-- R190: an edge of RST_N leaves the tables or gives them their power-on content. -/
theorem exec_reset_keepsBanks {i : Instr} {s t : State} (reset : i.isReset = true) (h : exec i s = .next t) : KeepsBanks s t := by
  have powerOn {u : State} (tables : u.tables = Tables.powerOn) : KeepsBanks s u := fun _ =>
    .congr (congrArg Tables.banks tables) ((storesCanonical_iff _).1 (powerOn_storesCanonical s.straps)).1
  cases i with
  | rstNRise =>
    refine .of_next h ?_
    split
    · exact .refl s
    · exact powerOn rfl
  | rstNFall => exact .of_next h (.ite (powerOn rfl))
  | _ => cases reset

theorem exec_keepsBanks {i : Instr} {s t : State} (h : exec i s = .next t) : KeepsBanks s t := by
  cases reset : i.isReset with
  | true => exact exec_reset_keepsBanks reset h
  | false =>
    cases writes : writesTablesOrRecord i with
    | true => exact exec_writer_keepsBanks writes h
    | false => exact .of_banks (exec_linkStep reset writes h).bystander.banks

theorem step_keepsBanks {s t : State} (h : step s = .next t) : KeepsBanks s t := by
  unfold step at h
  split at h
  · exact .of_next h (.refl s)
  · next c rest _ => exact fun wf => exec_keepsBanks (s := { s with pending := rest }) h wf

/-- Settles O6: every basic move keeps the pool in form, and every write of an entry keeps its bank. -/
theorem storesStayCanonical : Obligations.StoresStayCanonical := by
  intro s t canonical h
  have pool := ((storesCanonical_iff s).1 canonical).2
  exact (storesCanonical_iff t).2 ⟨step_keepsBanks h canonical,
    step_keeps (law := fun u => PoolCanonical u.pool) powerOn_poolCanonical traffic_poolCanonical pool h⟩

end Sys2Proof.Stores
end

section
/-! PROOFS. The block as a machine (00, Events and time): the order of its commands (log entry 5), and the events that a state does not allow (log
entry 1). -/

namespace Sys2Proof.BlockEvents

open Sys2Proof.Machine Sys2Proof.Laws Sys2Proof.ForwardingTables Sys2Proof.DataPath Sys2Proof.ManagementAgent

/-! ### One step -/

theorem step_cons {s : State} {i : Instr} {rest : List Instr} (h : s.pending = i :: rest) : step s = exec i { s with pending := rest } := by
  unfold step
  rw [h]

theorem step_nil {s : State} (h : s.pending = []) : step s = .next s := by
  unfold step
  rw [h]

/-- Settles O1: by the two forms of the queue. -/
theorem stepRunsFrontCommand : Obligations.StepRunsFrontCommand := ⟨fun _ _ _ => step_cons, fun _ => step_nil⟩

/-! ### Events that are not allowed -/

/-- A guarded event changes nothing where its guard fails. -/
theorem guarded_idle {c : Prop} [Decidable c] {s t : State} (h : ¬ c) :
    (Host.Outcome.next (if c then t else s) : Host.Outcome State Fault Refusal) = .next s := congrArg _ (if_neg h)

theorem serve_idle {s : State} {row : RequestRow} (execute : Payload → State → Answer × State) (h : s.headRequest row = none) :
    s.serve row execute = s := by
  unfold State.serve
  rw [h]

theorem exec_request_idle {i : Instr} {row : RequestRow} {s : State} (served : i.serves = some row) (h : s.headRequest row = none) :
    exec i s = .next s := (exec_serves s served).trans (congrArg _ (serve_idle _ h))

theorem headRequest_low {s : State} (low : s.rstN = false) (row : RequestRow) : s.headRequest row = none :=
  Option.eq_none_iff_forall_ne_some.2 fun _ head => Bool.false_ne_true (low.symm.trans (headRequest_some head).1)

theorem headRequest_other {s : State} {row : RequestRow} (h : ∀ l r rest, s.hasRequest l r rest → requestRow r ≠ row) :
    s.headRequest row = none := by
  refine Option.eq_none_iff_forall_ne_some.2 fun ⟨l, record⟩ head => ?_
  obtain ⟨asked, kind⟩ := hasRequest_of_head head
  exact h l record _ asked kind

/-- R42: with every receive buffer empty no link is served. -/
theorem admission_idle {s : State} (empty : ∀ l, (s.link l).rxBuf = []) : s.admission = s := by
  have unserved : s.servedLink = none := List.find?_eq_none.2 fun l _ => by simp [empty l]
  unfold State.admission
  rw [unserved]

theorem exec_admission_idle {s : State} (empty : ∀ l, (s.link l).rxBuf = []) : exec .admission s = .next s := by
  refine congrArg Host.Outcome.next ?_
  rw [admission_idle empty, ite_self]

theorem fillStep_idle {s : State} (h : ∀ n b e first last k, s.op ≠ some ⟨.running, n, .fill b e first last k⟩) : s.fillStep = s :=
  (fillStep_cases s).resolve_right fun ⟨_, _, _, _, _, _, running⟩ => h _ _ _ _ _ _ running

theorem copyStep_idle {s : State} (h : ∀ n a b k j, s.op ≠ some ⟨.running, n, .copy a b k j⟩) : s.copyStep = s :=
  (copyStep_cases s).resolve_right fun ⟨_, _, _, _, _, running⟩ => h _ _ _ _ _ running

theorem digestStep_idle {s : State} (h : ∀ n t b r k c v, s.op ≠ some ⟨.running, n, .digest t b r k c v⟩) : s.digestStep = s :=
  (digestStep_cases s).resolve_right fun ⟨_, _, _, _, _, _, _, running⟩ => h _ _ _ _ _ _ _ running

theorem memtestStep_idle {s : State} (passes : Bool) (h : ∀ n k j a b, s.op ≠ some ⟨.running, n, .memtest k j a b⟩) :
    s.memtestStep passes = s :=
  (memtestStep_cases s passes).resolve_right fun ⟨_, _, _, _, _, running⟩ => h _ _ _ _ _ running

/-- An operation step that leaves the state does so on either level of RST_N. -/
theorem opStep_idle {s t : State} (h : t = s) :
    (Host.Outcome.next (if s.rstN = true then t else s) : Host.Outcome State Fault Refusal) = .next s := by rw [h, ite_self]

/-- While RST_N is low only its rise and a disturbance have an effect (R190; log entry 2). -/
theorem exec_low {i : Instr} {s : State} (low : s.rstN = false) (notRise : ∀ p a b, i ≠ .rstNRise p a b)
    (notDisturbance : ∀ b n e k, i ≠ .tableDisturbance b n e k) : exec i s = .next s := by
  have notHigh : ¬ s.rstN = true := Bool.eq_false_iff.1 low
  cases served : i.serves with
  | some row => exact exec_request_idle served (headRequest_low low row)
  | none =>
    cases i with
    | rstNRise p a b => exact absurd rfl (notRise p a b)
    | tableDisturbance b n e k => exact absurd rfl (notDisturbance b n e k)
    | cellArrival => exact congrArg _ (if_pos (.inl low))
    | nextCellEvent => exact if_neg fun up => notHigh up.1
    | rstNFall | admission | fillStep | copyStep | digestStep | memtestStep => exact guarded_idle notHigh
    | trainingWindowExpiry | keepaliveExpiry | holdOffExpiry | monitorStep | coalescingTimerExpiry | epochTimerExpiry | attentionHoldOffExpiry
    | scrubStep => exact guarded_idle fun due => notHigh due.1
    | _ => cases served

/-- The expiry of a link's timer is due in the timer's state only, while it runs. -/
theorem notDue {high : Prop} {timer : Timer} {state own : LinkState} (h : timer = .idle ∨ state ≠ own) :
    ¬ (high ∧ state = own ∧ timer ≠ .idle) :=
  fun ⟨_, due, running⟩ => h.elim running fun other => other due

/-- Settles O3: by the guard of each command; a request needs its head request, and an operation step its running operation. -/
theorem eventsNotAllowedChangeNothing : Obligations.EventsNotAllowedChangeNothing := by
  intro s
  refine ⟨fun p a b high => congrArg _ (if_pos high), fun i => exec_low, fun l off => ?window, fun l off => ?keepalive, fun l off => ?holdOff,
    fun idle => ?monitor, fun idle => ?coalescing, fun idle => ?epoch, fun idle => ?attention, fun idle => ?scrub, exec_admission_idle,
    fun l down => ?nextCell, fun other => opStep_idle (fillStep_idle other), fun other => opStep_idle (copyStep_idle other),
    fun other => opStep_idle (digestStep_idle other), fun passes other => opStep_idle (memtestStep_idle passes other),
    fun i row served other => exec_request_idle served (headRequest_other other), fun b n e k past => ?disturbance⟩
  case window | keepalive | holdOff => exact guarded_idle (notDue off)
  case monitor | coalescing | epoch | attention | scrub => exact guarded_idle fun due => due.2 idle
  case nextCell => exact if_neg fun up => down up.2
  case disturbance => exact guarded_idle (not_lt.2 past)

end Sys2Proof.BlockEvents
end
